-- ==== Sys2Proof/Word.lean ====
section
/-!
DEFINITION. The words of the block: bytes, granules, register words (00 R7, R8), and a string of bytes
held as one number. Everything that computes on them stands in Machine/Bits.lean.
-/
namespace Sys2Proof

/-- One byte (00, table of units). -/
abbrev Byte := BitVec 8

/-- A word of 64 bits: a faceplate register, a hardware queue word (00, table of units). -/
abbrev Word := BitVec 64

/-- A granule of 64 bytes: the unit of bed transfers; also the content of one flit (00, table of units). -/
abbrev Granule := BitVec 512

/-- A string of `len` bytes held as one number: byte `n` is bits `8n+7 : 8n` of `bits` (00 R8). -/
structure Blob where
  /-- How many bytes there are. -/
  len  : Nat
  /-- The bytes, byte 0 in the low bits. -/
  bits : Nat
deriving DecidableEq, Repr

end Sys2Proof
end

