-- ==== Sys2Proof/Syntax.lean ====
section
/-!
DEFINITION. The commands of the block: one constructor for each row of spec/opcode_table.json, with the
operands that the ports of spec/12_ports_and_signals.md carry with it. Numbers that only name something
(a port, a partition, a tag) are natural numbers; words that the spec lays out in bits are bit vectors.

Conventions. `port` of a link command is the index of LINK_STATE (12 R525): 0 parent, 1 to 8 child 0 to 7.
`tag` is a bed tag (12 R494). `err` is the error bit of a bed response (12 R492). `p` is a partition.
`src` is a requester id (06 R245). `flit` is the 512-bit content of a message's first flit (12 R519).
-/
namespace Sys2Proof

/-- The commands (spec/opcode_table.json, row by row). -/
inductive Instr where
  /-- FP_WRITE: a request at the faceplate port (12 R481). In `off` bits 19:0 are the byte offset, bits 23:20 `fp_req_id`, and bit 24
  is 1 when `fp_req_write` is 0, a read. -/
  | fpWrite (off : Nat) (data : Word)
  | rstCold
  /-- RST_WARM: `journal` is the 4 KiB journal area, `image` the image that the journal chooses, as bed memory holds them. -/
  | rstWarm (journal : Blob) (image : Blob)
  | domainUngate (d : Nat)
  | domainGate (d : Nat)
  | clockLoss
  | fastStableRise
  | supervisorParity
  /-- STATUS_RECORD: a status record of R95 on physical port `port`. -/
  | statusRecord (port : Nat) (rec : Word)
  | edgeGranuleArrive (tag : Nat) (data : Granule) (err : Bool)
  | seasonFetchArrive (tag : Nat) (data : Granule) (err : Bool)
  | descFetchArrive (tag : Nat) (data : Granule) (err : Bool)
  | fetchGrant
  | predicateArrive (tag : Nat) (data : Granule) (err : Bool)
  | taskDispatch
  /-- TASK_TIMEOUT: of the in-flight entry of engine port `idx`, or of the delegated task in slot `idx`. -/
  | taskTimeout (delegated : Bool) (idx : Nat)
  | engineRelease (port : Nat)
  | engineSuspectClear (port : Nat)
  | dispatch (port : Nat) (flit : Granule)
  | completion (port : Nat) (flit : Granule)
  | launchRecordArrive (tag : Nat) (data : Granule) (err : Bool)
  /-- JIG_CACHE_FILL: a directory entry, a header, or node records with edge specs. -/
  | jigCacheFill (tag : Nat) (data : Granule) (err : Bool)
  | paramWordsArrive (tag : Nat) (data : Granule) (err : Bool)
  | launchReserve (p : Nat)
  | launchDoorbell (p : Nat) (data : Word)
  | cmdlistReadArrive (tag : Nat) (data : Granule) (err : Bool)
  | segment (port : Nat) (flit : Granule)
  | segmentResend (exch : Nat) (pos : Nat) (gen : Nat)
  /-- INTAKE_FRAME: the frame header beat (none: a run of beats where a header is expected) and the beats after it. -/
  | intakeFrame (header : Option (BitVec 256)) (beats : List (BitVec 256))
  | newStream (p : Nat)
  | appendTokens (p : Nat)
  | endStream (p : Nat)
  | cancel (p : Nat)
  | setDeadline (p : Nat)
  | intake (port : Nat) (flit : Granule)
  | intakeDoorbell (p : Nat) (data : Word)
  /-- STEP_COMPLETE: `results` are the result words of the entries, in block order (R190). -/
  | stepComplete (p : Nat) (results : List (BitVec 32))
  | stepFloorExpire (p : Nat)
  | stepForm (p : Nat)
  | digestDone (p : Nat)
  | serveFence (p : Nat) (data : Word)
  | stepRelease (p : Nat) (data : Word)
  | moveComplete (p : Nat) (ledger : Nat)
  | pageWarm (p : Nat) (data : Word)
  /-- SIGNAL and the other eight: a request of R246 from requester `src`; the command is the op. -/
  | signal (src : Nat) (req : BitVec 128)
  | wait (src : Nat) (req : BitVec 128)
  | tryTake (src : Nat) (req : BitVec 128)
  | take (src : Nat) (req : BitVec 128)
  | syncRead (src : Nat) (req : BitVec 128)
  | arrive (src : Nat) (req : BitVec 128)
  | arriveWait (src : Nat) (req : BitVec 128)
  | bwait (src : Nat) (req : BitVec 128)
  | switchCtx (src : Nat) (req : BitVec 128)
  | remoteSync (port : Nat) (flit : Granule)
  | syncDbgSel (data : Word)
  | syncDump (data : Word)
  | syncDumpDone (err : Bool)
  | send (src : Nat) (req : BitVec 128)
  | sendPayloadReady (tag : Nat) (data : Granule) (err : Bool)
  | message (port : Nat) (flit : Granule) (payload : Blob)
  | messageRingWritten (chan : Nat) (seq : Nat)
  | answer (port : Nat) (flit : Granule)
  | answerTimeout (chan : Nat) (seq : Nat)
  | messageResend (chan : Nat) (seq : Nat)
  | queueWrite (src : Nat) (req : BitVec 128)
  | queueRead (src : Nat) (req : BitVec 128)
  | mark (src : Nat) (req : BitVec 128)
  | rewind (src : Nat) (req : BitVec 128)
  | queueRelease (src : Nat) (req : BitVec 128)
  | pktBegin (src : Nat) (req : BitVec 128)
  | pktEnd (src : Nat) (req : BitVec 128)
  | queueStatus (src : Nat) (req : BitVec 128)
  | queueRefillArrive (tag : Nat) (low high : BitVec 256) (err : Bool)
  | queueTimeout (q : Nat)
  /-- HOSTQ_ACK: a write of HOSTQ_EVT (`evt`) or HOSTQ_CPL of partition `p`. -/
  | hostqAck (p : Nat) (evt : Bool) (data : Word)
  | hostqRecordAccepted (p : Nat) (evt : Bool)
  | hostqRecordRetry (p : Nat)
  | quantumExpire (p : Nat)
  | ctxBringIn (p : Nat) (c : Nat)
  | ctxDemote (p : Nat) (c : Nat)
  | ctxPart (p : Nat) (c : Nat)
  | ctxRestore (p : Nat) (c : Nat)
  | part (port : Nat) (flit : Granule)
  | restore (port : Nat) (flit : Granule)
  | borrow (src : Nat) (req : Word)
  | returnRun (src : Nat) (req : Word)
  | holdLimit (sem : Nat) (c : Nat)
  | contributeRecordArrive (tag : Nat) (data : Granule) (err : Bool)
  /-- PARTIAL: header flit, absence mask (empty when no mask follows) and data (R389). -/
  | partialMsg (port : Nat) (flit : Granule) (mask : Blob) (data : Blob)
  | ready (port : Nat) (flit : Granule)
  | result (port : Nat) (flit : Granule) (mask : Blob) (data : Blob)
  | shard (port : Nat) (flit : Granule) (mask : Blob) (data : Blob)
  | update (port : Nat) (flit : Granule) (data : Blob)
  | reduceDeadline (slot : Nat)
  | deliveryDone (slot : Nat)
  | detBoundary (p : Nat) (data : Word)
  /-- BOUNDARY_TAKEN: the two membership banks of each group of the partition, as read (group, bank 0, bank 1). -/
  | boundaryTaken (p : Nat) (banks : List (Nat × Blob × Blob))
  | member (port : Nat) (flit : Granule) (bank : Blob)
  | memberAck (port : Nat) (flit : Granule)
  | imageLoad (data : Word)
  /-- IMAGE_LOAD_DONE: the bytes the loader read from IMAGE_ADDR on. -/
  | imageLoadDone (img : Blob)
  | reshapeStart (data : Word)
  | reshapeAbort (data : Word)
  | prepare (port : Nat) (flit : Granule)
  | reshapeValidateDone (img : Blob)
  | vote (port : Nat) (flit : Granule)
  | drain (port : Nat) (flit : Granule)
  | drainComplete
  | drained (port : Nat) (flit : Granule)
  | swap (port : Nat) (flit : Granule)
  | bankWrite (table : Nat)
  | swapped (port : Nat) (flit : Granule)
  | commit (port : Nat) (flit : Granule)
  | doneMsg (port : Nat) (flit : Granule)
  | abortMsg (port : Nat) (flit : Granule)
  | query (port : Nat) (flit : Granule)
  | outcome (port : Nat) (flit : Granule)
  | queryRepeat
  | journalWritten
  | bedWriteAccept (tag : Nat) (err : Bool)
  /-- LINK_STATE_CHANGE: `isl_x_state` of the port becomes `st`, 0 to 3 (R507). -/
  | linkStateChange (port : Nat) (st : Nat)
  | admitMsg (port : Nat) (flit : Granule)
  | ack (port : Nat) (flit : Granule)
  | nak (port : Nat) (flit : Granule)
  | replayBegin (port : Nat)
  | credit (port : Nat) (flit : Granule)
  /-- FLIT_ERROR: a flit with a bad CRC or sequence number. -/
  | flitError (rx : Nat × BitVec 32 × Granule)
  | linkProtocol (port : Nat)
  | event (port : Nat) (flit : Granule)
  | ackTimer (port : Nat)
  | nakRepeat (port : Nat)
  | l1Idle (port : Nat)
  | linkTimeout (port : Nat)
  | discoveryTimeout (port : Nat)
  | pgSample (sample : Word)
  | telemetryGap
  | powerCap (data : Word)
  | flush (data : Word)
  | flushDone
  | faultSel (data : Word)
  | wsBypass
  /-- WS_EXTEST: the port signals that the boundary register captures. -/
  | wsExtest (cells : Nat)
  | wsIntestScan
  | wsClamp
  | wsSafe
  | wbIdcode
  /-- WB_MBIST: the value updated into its data register. -/
  | wbMbist (data : Word)
  /-- WB_FPACCESS: the value updated into its data register. -/
  | wbFpaccess (data : BitVec 128)
  | clkFastStop
  /-- RESET_ASSERT: which of the two resets is asserted. -/
  | resetAssert (cold warm : Bool)
  /-- MBIST_DONE: the first failing memory, if one fails. -/
  | mbistDone (fail : Option Nat)
  | streamCacheFill (tag : Nat) (data : Granule) (err : Bool)
  | ledgerCacheFill (tag : Nat) (data : Granule) (err : Bool)
deriving DecidableEq, Repr

end Sys2Proof
end

