-- ==== Sys2Proof/Config.lean ====
section
/-!
DEFINITION. What an implementation fixes and the spec leaves open: free values. They have no body, so
nothing can be proved of them and a statement about them holds whatever they are.
-/
namespace Sys2Proof

/-- Free value number `n` (log entry 2): an unspecified number. A value of `w` bits is taken from it
modulo 2 to the power `w`. The step applies it to the counter `State.free`, which it then advances. -/
opaque Config.freeValue : Nat → Nat

/-- The cell of the wrapper boundary register on `fp_irq`: the order of the cells is open (log entry 104). -/
opaque Config.irqCell : Nat

end Sys2Proof
end

