-- ==== Sys2Proof/Machine/State.lean ====
section
/-!
DEFINITION. The state of one Bolrok instance as plain data, unit by unit, its state after reset, and the
reasons a step can stop. Every field names the rule of spec/ it comes from. Numbers are natural numbers
within the field widths the spec gives; a default value is the field's value at reset.
-/
namespace Sys2Proof.Machine

/-- A sparse table: (index, element), indices rising; an index that is not listed holds the unit's reset element. -/
abbrev Tbl (α : Type) := List (Nat × α)

/-- The five builds (01 R44). -/
inductive Build where
  | b8 | b64 | b256 | b512 | node
deriving DecidableEq, Repr, Inhabited

/-! ### Faults (13) -/

/-- One entry of the fault ledger (13 R550). -/
structure FaultEntry where
  value     : Nat := 0
  partition : Nat := 0
  context   : Nat := 0
  scope     : Nat := 0
  transient : Bool := false
  source    : Nat := 0
  seq       : Nat := 0
  detail    : Nat := 0
  time      : Nat := 0
deriving DecidableEq, Repr, Inhabited

/-- The fault ledger and its registers (13 R550, R558). -/
structure Faults where
  /-- The 1,024 most recent entries, oldest first. -/
  ledger      : List FaultEntry := []
  /-- Entries raised in the current hc, in the order raised; numbered when the hc ends. -/
  unnumbered  : List FaultEntry := []
  lastSeq     : Nat := 0xFFFF
  empty       : Bool := true
  overwritten : Nat := 0
  selSeq      : Nat := 0
  selValid    : Bool := false
  entry0      : Nat := 0
  entry1      : Nat := 0
  raised      : Nat := 0
deriving DecidableEq, Repr, Inhabited

/-! ### Tasks (02) -/

/-- A task descriptor, field by field (02 R50). -/
structure Desc where
  taskId      : Nat := 0
  partition   : Nat := 0
  context     : Nat := 0
  epoch       : Nat := 0
  engineClass : Nat := 0
  prio        : Nat := 0
  formatClass : Nat := 0
  poison      : Bool := false
  ordered     : Bool := false
  gang        : Bool := false
  gangEnd     : Bool := false
  escalate    : Nat := 0
  skip        : Bool := false
  pageWait    : Bool := false
  vgroup      : Nat := 0
  depCount    : Nat := 0
  costCycles  : Nat := 0
  costBytes   : Nat := 0
  cmdPtr      : Nat := 0
  edgePtr     : Nat := 0
  detKey      : Nat := 0
deriving DecidableEq, Repr, Inhabited

/-- The states of a slot (02 R57). -/
inductive SlotSt where
  | free | pending | seasoning | seasoned | fetching | ready | issued | retiring
deriving DecidableEq, Repr, Inhabited

/-- Which unit created a task and is told of its final status, beside the edge walk. -/
inductive Role where
  /-- A task of a jig, a command list or a delegated task's work. -/
  | plain
  /-- The launch task of section `i` of a serving step (04 R192). -/
  | serveSect (i : Nat)
  /-- A page move (05 R231) of a ledger entry. -/
  | move (ledger : Nat)
  /-- A gouge task (08 R350): spill or restore of the run at `first` on `core`. -/
  | gouge (core first : Nat) (restore : Bool)
  /-- A combine or finish task (09 R384, R394) of a bucket slot, order index 0xF00 + `j`. -/
  | combine (bucket j : Nat)
  /-- A cold fetch (03 R155). -/
  | coldFetch (block : Nat)
  /-- A page move that a node home has delegated to this instance: its dispatch packet (05 R231), and the
  sticky subnormal flag of its records (02 R96). -/
  | mover (packet : Nat) (subnormal : Bool)
  /-- A SEND instance's mover (03 R143): exchange, position, generation. -/
  | segment (exch pos gen counts : Nat)
  /-- A RECV instance (03 R146): exchange, generation. -/
  | recv (exch gen : Nat)
deriving DecidableEq, Repr, Inhabited

/-- One task slot: the slot state array of R54 with the owner ledger (08 R363), and the cached descriptor if there is one. -/
structure Slot where
  st        : SlotSt := .free
  /-- Generation, 14 bits (R56). -/
  gen       : Nat := 0
  /-- Live dependency count (R54). -/
  count     : Nat := 0
  /-- Poisoned-input bit (R63). -/
  poisonIn  : Bool := false
  /-- Owner partition, context and epoch (slot owner ledger, 08 R363; 11 R452). -/
  part      : Nat := 0
  ctx       : Nat := 0
  epoch     : Nat := 0
  /-- The descriptor in the seasoning cache, once it is there (R69, R70). -/
  desc      : Option Desc := none
  /-- A seasoning cache entry is granted to the slot (R70). -/
  entry     : Bool := false
  /-- The count reached 0 with the descriptor already cached (R116). -/
  warm      : Bool := false
  /-- Order of the count reaching 0 (R75) and then of becoming READY (R77). -/
  since     : Nat := 0
  /-- The skip predicate word, once read (R76). -/
  pred      : Option (BitVec 64) := none
  attempt   : Nat := 0
  variant   : Bool := false
  /-- The physical port of the first attempt that returned a RETRY-class status, and that status (R99, R100). -/
  firstFail : Option (Nat × Nat) := none
  /-- The virtual engine and core of the previous dispatch, when a retry is to avoid them (R98). -/
  avoid     : Option (Nat × Nat) := none
  /-- The status of a gang member in the present round of dispatch, with its poison bit (R93). -/
  round     : Option (Nat × Bool) := none
  /-- The final status and whether the output is poisoned. -/
  fin       : Option (Nat × Bool) := none
  /-- Address of the predicate word of a task with skip 1 (R51, R76). -/
  skipAt    : Option Nat := none
  /-- The first edge granule has been requested (R65). -/
  asked     : Bool := false
  /-- The gang's first slot and its number of members, for a member of a gang (R89). -/
  gangAt    : Option (Nat × Nat) := none
  /-- The physical port that returned the member's status in this round. -/
  lastPort  : Nat := 0
  /-- Dispatches so far. -/
  tries     : Nat := 0
  /-- The first edge granule, held since dispatch (R65). -/
  held      : Option Granule := none
  /-- The edge granule that was requested could not be read (R65). -/
  edgeErr   : Bool := false
  /-- Edge granules of the pool that the task holds (03 R132). -/
  granules  : List Nat := []
  /-- The task has successors: its edge_ptr (R61). -/
  edgePtr   : Nat := 0
  /-- The launch that created the task (03 R137). -/
  launch    : Option Nat := none
  role      : Role := .plain
  /-- ordered, and the det_key of a task with ordered 1 or from a listed node (09 R380, 10 R421). -/
  ordered   : Bool := false
  okey      : Option Nat := none
  /-- Inside the ordered-combine buffer and not released (R79). -/
  inBuffer  : Bool := false
  /-- Released by the ordered-combine buffer. -/
  released  : Bool := false
  /-- Created from a listed order-sensitive node (10 R407, R421). -/
  listed    : Bool := false
  /-- Counted once by R421 already. -/
  selected  : Bool := false
  /-- The child port a delegated task was dispatched to (01, 08 R366). -/
  child     : Option Nat := none
  /-- TIMEOUT of a delegated task has fired (01 R25). -/
  timedOut  : Bool := false
deriving DecidableEq, Repr, Inhabited

/-- A delegated task in flight (01 R24; 02 R97). -/
structure Flight where
  /-- The link port of the child it went to. -/
  child  : Nat := 0
  taskId : Nat := 0
  part   : Nat := 0
  ctx    : Nat := 0
  /-- Its context has been parted since its dispatch (R97). -/
  parted : Bool := false
deriving DecidableEq, Repr, Inhabited

/-- One physical engine port: ENGINE_STATE (R117) and the in-flight entry (R97). -/
structure Engine where
  busy      : Bool := false
  suspect   : Bool := false
  lasting   : Nat := 0
  transient : Nat := 0
  timedOut  : Bool := false
  taskId    : Nat := 0
  part      : Nat := 0
  ctx       : Nat := 0
  /-- The context of the task in flight has been parted since its dispatch (R97). -/
  parted    : Bool := false
  /-- The bank of the engine class map that the dispatch's lookup holds (11 R470). -/
  bank      : Nat := 0
deriving DecidableEq, Repr, Inhabited

/-- The dispatch unit (02). -/
structure Tasks where
  slots      : Tbl Slot := []
  engines    : Tbl Engine := []
  /-- Delegated tasks in flight (01, R97). -/
  delegated  : List Flight := []
  /-- Dispatch packets of delegated page moves that wait for a slot (05 R231; 02 R58). -/
  movesIn    : List Nat := []
  /-- DISPATCH_CTRL.season_threshold by partition (R115); 1 where not listed. -/
  thresholds : Tbl Nat := []
  /-- The previous allocation (03 R133). -/
  lastAlloc  : Nat := 0
  /-- The partition taken first in the last fc of dispatch (R78). -/
  rr         : Nat := 63
  /-- Free granules are those of the edge region that no partition holds: (granule, partition) held. -/
  granules   : Tbl Nat := []
  dispSeasoned   : Nat := 0
  dispUnseasoned : Nat := 0
  seasonDrop     : Nat := 0
  cplDiscard     : Nat := 0
  transientCount : Nat := 0
  lastingCount   : Nat := 0
  scaleAccept    : Nat := 0
deriving DecidableEq, Repr, Inhabited

/-! ### Jigs (03) -/

/-- How far a launch has come (03 R124 to R137). -/
inductive LaunchPhase where
  | record | jig | params | cmdlist | waiting | creating | running
deriving DecidableEq, Repr, Inhabited

/-- What a completed launch finishes (R126, R137). -/
inductive LaunchOwner where
  /-- The launch task, or the RECV instance (R148), in this slot. -/
  | task (slot : Nat)
  | doorbell (addr : Nat)
  /-- The dispatch packet of a delegated task at a child (01 R24). -/
  | delegated (packet : Nat)
  /-- The handler launch of the message at granule `start` of a receive channel's ring (07 R296). -/
  | handler (chan start : Nat)
  | bringIn
  /-- The optimizer launch of a bucket slot (09 R398). -/
  | optimizer (bucket : Nat)
deriving DecidableEq, Repr, Inhabited

/-- A task of a launch: node index, instance index, and its slot: a gang's from the reservation on, a single's from its
creation on (03 R132, R133). -/
structure Todo where
  node : Nat := 0
  inst : Nat := 0
  slot : Option Nat := none
deriving DecidableEq, Repr, Inhabited

/-- One launch in progress. -/
structure Launch where
  part       : Nat := 0
  ctx        : Nat := 0
  epoch      : Nat := 0
  owner      : LaunchOwner := .bringIn
  phase      : LaunchPhase := .record
  /-- The launch record of R125, 256 bits. -/
  record     : Nat := 0
  /-- Address of parameter word 0 (the bank base for a RECV launch, R148). -/
  paramPtr   : Nat := 0
  /-- The parameter words read (R130). -/
  words      : List (Nat × BitVec 32) := []
  /-- The jig body, once it is in the cache, for a launch of kind 0 (R123, R580). -/
  body       : Option Blob := none
  /-- The command list, for a launch of kind 1. -/
  list       : Blob := ⟨0, 0⟩
  /-- Order of start (R132). -/
  order      : Nat := 0
  /-- Send generations taken by the SEND nodes: node, generation (R143); set once null instances have been resolved. -/
  sends      : Option (List (Nat × Nat)) := none
  /-- The tasks still to create; each has a slot reserved (R132). -/
  todo       : List Todo := []
  /-- The tasks created so far (node, instance, slot). -/
  plan       : List Todo := []
  /-- Granules reserved and not yet used. -/
  granules   : List Nat := []
  /-- Holders of the launch hold (R134). -/
  holders    : List Nat := []
  /-- Page-wait tasks of an outside-step request (05 R228). -/
  pageWait   : List Nat := []
  /-- Cold blocks pinned by the launch (R156). -/
  cold       : List Nat := []
  created    : Nat := 0
  /-- Created tasks that have not retired. -/
  alive      : Nat := 0
  /-- Most severe status so far and the task_id that gave it (01 R24). -/
  status     : Nat := 1
  statusTask : Nat := 0
  poisoned   : Bool := false
  subnormal  : Bool := false
deriving DecidableEq, Repr, Inhabited

/-- A segment header that a leaf sends (03 R144; 07 R295, R298). -/
structure HeaderOut where
  /-- The member position it goes to, and its generation. -/
  pos     : Nat := 0
  gen     : Nat := 0
  content : Granule := 0
  /-- It is on its way. -/
  sent    : Bool := false
  /-- The hc in which it was sent or NACKed. -/
  since     : Option Nat := none
deriving DecidableEq, Repr, Inhabited

/-- A segment header that is being written into the ring of its exchange (07 R295). -/
structure HeaderIn where
  gen     : Nat := 0
  pos     : Nat := 0
  content : Granule := 0
  /-- The instance that sent it, and the port it came by. -/
  back    : Nat := 0
  inPort  : Option Nat := none
  /-- The receive side's context has been parted meanwhile (07 R326). -/
  dropped : Bool := false
deriving DecidableEq, Repr, Inhabited

/-- One exchange (03 R142 to R148). -/
structure Exchange where
  sendGen : Nat := 0
  recvGen : Nat := 0
  /-- The last completed receive generation; none is the −1 after load. -/
  gd      : Option Nat := none
  /-- Headers counted: generation, source position, poison. -/
  headers : List (Nat × Nat × Bool) := []
  /-- RECV instances that exist: generation, slot. -/
  recvs   : List (Nat × Nat) := []
  /-- Headers accepted for a generation that is not completed: generation, source (R147). -/
  seen    : List (Nat × Nat) := []
  /-- Headers that this leaf sends. -/
  outs    : List HeaderOut := []
  /-- Headers being written into the ring. -/
  landing : List HeaderIn := []
deriving DecidableEq, Repr, Inhabited

/-- One cold block (03 R154 to R156, 10 R415). -/
structure Cold where
  /-- 0 ABSENT, 1 INBOUND, 2 RESIDENT. -/
  st       : Nat := 0
  slot     : Option Nat := none
  pins     : Nat := 0
  /-- Order of last use, and boundary at which the last pin began. -/
  used     : Nat := 0
  boundary : Nat := 0
  /-- Slot of the fetch task, while the block is INBOUND (R155). -/
  task     : Option Nat := none
  /-- Waiters, slot and generation, and the edge granules that list them (R155). -/
  waiters  : List (Nat × Nat) := []
  chain    : List Nat := []
deriving DecidableEq, Repr, Inhabited

/-- The jig unit (03). -/
structure Jigs where
  launches   : Tbl Launch := []
  nextLaunch : Nat := 0
  /-- The cache of jig bodies, by jig slot (R123, R580). -/
  cache      : Tbl Blob := []
  /-- Bodies being read: jig slot, body address, header once read. -/
  filling    : Tbl (Nat × Option Nat) := []
  exchanges  : Tbl Exchange := []
  /-- Cold blocks, by partition × 2,048 + index. -/
  cold       : Tbl Cold := []
  /-- Jig slots whose fill starts again, since their body has been written anew (R580). -/
  stale      : List Nat := []
  /-- Descriptor writes outstanding: the creation buffer (R133). -/
  buffer     : Nat := 0
  launchesCount : Nat := 0
  created       : Nat := 0
  nulls         : Nat := 0
  skips         : Nat := 0
  coldFetches   : Nat := 0
deriving DecidableEq, Repr, Inhabited

/-! ### Serving (04) -/

/-- A stream record (04 R166). -/
structure Stream where
  state      : Nat := 0
  closing    : Bool := false
  context    : Nat := 0
  fallback   : Nat := 0
  prio       : Nat := 0
  onFallback : Bool := false
  prov       : Bool := false
  holdLeft   : Nat := 0
  position   : Nat := 0
  inStep     : Bool := false
  cancelled  : Bool := false
  pending    : Nat := 0
  genLeft    : Nat := 0
  pageHead   : Nat := 0
  pageCount  : Nat := 0
  deadline   : Nat := 0
  streamStep : Nat := 0
  lastStep   : Nat := 0
  lastDone   : Nat := 0
  tokenRing  : Nat := 0
  ringLog2   : Nat := 0
  intakeSeq  : Nat := 0
  missCount  : Nat := 0
  /-- The stream has been admitted to some step (05 R229: one that never was counts as oldest). -/
  admitted   : Bool := false
  /-- Current digest D and last stored input digest I of the provenance array (R203), 32 bytes each. -/
  digest     : Nat := 0
  input      : Nat := 0
  /-- A release waits for the drop of an outside-step pin (05 R237). -/
  releasing  : Bool := false
  /-- last_done is still to take the next step boundary's time (R174). -/
  fresh      : Bool := false
  /-- seq of the END_STREAM or CANCEL record (R176). -/
  endSeq     : Nat := 0
deriving DecidableEq, Repr, Inhabited

/-- An entry of the step being run (04 R190). -/
structure Entry where
  stream   : Nat := 0
  chunk    : Bool := false
  last     : Bool := false
  fallback : Bool := false
  ctx      : Nat := 0
  position : Nat := 0
  tokens   : Nat := 0
  pageHead : Nat := 0
  miss     : Bool := false
deriving DecidableEq, Repr, Inhabited

/-- A section of the step being run (04 R189, R192). -/
structure Section where
  ctx      : Nat := 0
  /-- The launch task's slot, and its final status once it has retired. -/
  slot     : Nat := 0
  fin      : Option (Nat × Bool) := none
  statusTask : Nat := 0
  subnormal  : Bool := false
  /-- The residency decrement has been applied (05 R226). -/
  resident : Bool := false
  /-- A page could not be allocated or moved: the launch task's input is poisoned (05 R234, R238). -/
  poisoned : Bool := false
  /-- Some move was waited for (05 R244). -/
  stalled  : Bool := false
deriving DecidableEq, Repr, Inhabited

/-- One digest of a completed step (04 R204). -/
structure Digest where
  entry    : Nat := 0
  stream   : Nat := 0
  ctx      : Nat := 0
  /-- The digest i of the step block. -/
  value    : Nat := 0
  /-- The entry advanced: the provenance array takes the digest as well, for stream_step `k` with input `input`. -/
  advanced : Bool := false
  k        : Nat := 0
  input    : Nat := 0
deriving DecidableEq, Repr, Inhabited

/-- A completed step whose digests are being formed (04 R204, R205). -/
structure StepDone where
  step    : Nat := 0
  /-- The STEP_DONE record without its header. -/
  record  : Nat := 0
  block   : Nat := 0
  digests : List Digest := []
deriving DecidableEq, Repr, Inhabited

/-- A formation in progress (R178 step 6): the values that it read when it started (R198; 13 R536). -/
structure Forming where
  /-- The step clock then. -/
  clock  : Nat
  /-- The compute budget in force then. -/
  budget : Nat
  /-- The bank of the cost tables that its lookups read (11 R469, R470). -/
  bank   : Nat := 0
deriving DecidableEq, Repr, Inhabited

/-- The serving state of one partition at its home (04). -/
structure Serve where
  enable      : Bool := false
  autoRelease : Bool := true
  holdSteps   : Nat := 0x10
  fenceSeq    : Nat := 0
  fenceStep   : Nat := 0
  /-- SERVE_STATUS.step. -/
  step        : Nat := 0
  running     : Bool := false
  releaseWait : Bool := false
  fenceWait   : Bool := false
  formationNs : Nat := 0
  stepCount      : Nat := 0
  intakeApplied  : Nat := 0
  /-- With write-through on: the seq of a consumed record whose updates are still being written, and whether it was accepted
  (13 R541). -/
  applying  : Option (Nat × Bool) := none
  intakeReject   : Nat := 0
  intakeDup      : Nat := 0
  deadlineMiss   : Nat := 0
  fallbackCount  : Nat := 0
  overBudgetCount : Nat := 0
  streams     : Tbl Stream := []
  /-- Streams whose record is only in the stream table (R168). -/
  uncached    : List Nat := []
  /-- Dirty records of the hot-stream cache (13 R541). -/
  dirty       : List Nat := []
  /-- The eligibility queues, by prio (R168, R181). -/
  queues      : Tbl (List Nat) := []
  /-- Expected intake sequence number (R171). -/
  expected    : Nat := 0
  /-- Work that waits for cache fills: 0 an intake record, 1 a formation, 2 a completion, 3 a placement (R168, 05 R239). -/
  misses      : List Nat := []
  /-- The result words of a completion that waits for cache fills. -/
  results     : List (BitVec 32) := []
  /-- The formation in progress: it waits for cache fills or task slots (R172, 02 R58). -/
  forming     : Option Forming := none
  /-- The timer in µs at which the running step completed (R193, R197). -/
  ended       : Option Nat := none
  /-- SERVE_FENCE has been written since the image was loaded (R196). -/
  fenceWritten : Bool := false
  /-- The number of the next step to form. -/
  next        : Nat := 0
  /-- A step has completed and step 4 of R178 is not yet past. -/
  intakeOpen  : Bool := true
  /-- Step-clock time at which the running step's formation began (R198, R199). -/
  tForm       : Nat := 0
  entries     : List Entry := []
  sections    : List Section := []
  totalC      : Nat := 0
  totalM      : Nat := 0
  overBudget  : Bool := false
  dModel      : Nat := 0
  /-- hc of the first launch task of the last step formed, if one was, and whether 400 µs have passed since. -/
  formedAt    : Nat := 0
  floorDone   : Bool := true
  /-- Model clock in µs (R197). -/
  modelClock  : Nat := 0
  /-- Calibration ratio k as a fraction (R199). -/
  kNum        : Nat := 1
  kDen        : Nat := 1
  /-- The step that last used each step block and is not released (R195), by block. -/
  blocks      : Tbl Nat := []
  /-- Steps waiting for digests, oldest first (R205). -/
  done        : List StepDone := []
deriving DecidableEq, Repr, Inhabited

/-! ### Key-value page ledger (05) -/

/-- A ledger entry (05 R212). States: 0 FREE, 1 RESIDENT, 2 INBOUND, 3 OUTBOUND, 4 PINNED. -/
structure Page where
  tier     : Nat := 0
  state    : Nat := 0
  location : Nat := 0
  owner    : Nat := 0
  seqIndex : Nat := 0
  next     : Nat := 0
  refcount : Nat := 0
  /-- The page format the page is of (its context's; R214). -/
  format   : Nat := 0
  /-- A placement needs it while it is OUTBOUND (R241). -/
  wanted   : Bool := false
  /-- How many pinned streams hold it (R222). -/
  pins     : Nat := 0
deriving DecidableEq, Repr, Inhabited

/-- A page move in flight (05 R231 to R234). -/
structure Move where
  srcTier : Nat := 0
  src     : Nat := 0
  dstTier : Nat := 0
  dst     : Nat := 0
  /-- 0 placement, 1 eviction, 2 warming. -/
  why     : Nat := 0
  area    : Nat := 0
  /-- The move task's task_id, and its final status once accepted. -/
  task    : Nat := 0
  fin     : Option (Nat × Bool) := none
  ctx     : Nat := 0
deriving DecidableEq, Repr, Inhabited

/-- An outside-step request (05 R228). -/
structure Outside where
  launch : Nat := 0
  stream : Nat := 0
  /-- It holds one of the 16 pins; before that it waits. -/
  active : Bool := false
  /-- It was made before the running step was formed: its frames are taken first (R225). -/
  early  : Bool := false
  /-- Ledger indices pinned for it. -/
  pins   : List Nat := []
  /-- A move of a page it needs has failed (R234). -/
  poisoned : Bool := false
  failed : List Nat := []
  /-- The decrements have been applied. -/
  done   : Bool := false
deriving DecidableEq, Repr, Inhabited

/-- The page ledger unit's state for one partition (05). -/
structure Pages where
  ledger   : Tbl Page := []
  /-- Entries whose only copy is in the ledger table, and entries whose copy in the table lags (R239, R240). -/
  uncached : List Nat := []
  dirty    : List Nat := []
  moves    : Tbl Move := []
  /-- Streams with warm requests queued, with the pages still to move once the request has come up (R235). -/
  warm     : List (Nat × Option (List Nat)) := []
  outside  : List Outside := []
  /-- Pins of the entries of the running step: stream and ledger index (R222). -/
  stepPins : List (Nat × Nat) := []
  /-- Pages whose inbound move for the running step has failed (R234). -/
  failed   : List Nat := []
  /-- Pages whose outbound move has failed since one last succeeded (R234). -/
  spared   : List Nat := []
  allocs   : Nat := 0
  ins      : Nat := 0
  outs     : Nat := 0
  freed    : Nat := 0
  stalls   : Nat := 0
deriving DecidableEq, Repr, Inhabited

/-! ### Synchronisation (06) -/

/-- A semaphore (06 R250 to R256, R275; hold counts 08 R357). -/
structure Sem where
  value      : Nat := 0
  max        : Nat := 0
  granted    : Nat := 0
  part       : Nat := 0
  ctx        : Nat := 0
  shared     : Bool := false
  remote     : Bool := false
  tainted    : Bool := false
  configured : Bool := false
  ordered    : Bool := false
  ceiling    : Nat := 0
  /-- Requester ids queued, head first (R254). -/
  queue      : List Nat := []
  lastSig    : Nat := 0
  lastSrc    : Nat := 0
  /-- h(c) and the hc at which it last rose above 0, by context (08 R357). -/
  holds      : Tbl (Nat × Nat) := []
  /-- The context that parted a shared object last (08 R364). -/
  taintCtx   : Nat := 0
deriving DecidableEq, Repr, Inhabited

/-- A barrier (06 R257 to R261, R275). -/
structure Bar where
  gen        : Nat := 0
  mask       : Nat := 0
  /-- The participant bitmap of the mask (R257). -/
  members    : Nat := 0
  /-- Arrival bitmaps (R259). -/
  cur        : Nat := 0
  next       : Nat := 0
  part       : Nat := 0
  ctx        : Nat := 0
  shared     : Bool := false
  remote     : Bool := false
  tainted    : Bool := false
  configured : Bool := false
  queue      : List Nat := []
  lastArr    : Nat := 0
  lastPart   : Nat := 0
  lastSrc    : Nat := 0
deriving DecidableEq, Repr, Inhabited

/-- A waiter entry (06 R275). States: 0 NONE, 1 WAITING, 2 GRANTED. -/
structure Waiter where
  state   : Nat := 0
  kind    : Nat := 0
  object  : Nat := 0
  n       : Nat := 0
  ctx     : Nat := 0
  gen     : Nat := 0
deriving DecidableEq, Repr, Inhabited

/-- A remote request that waits behind messages (07 R300): its flit, the port it came by, and the messages, by channel and
number. -/
structure RemoteWait where
  flit   : Granule := 0
  port   : Nat := 0
  behind : List (Nat × Nat) := []
deriving DecidableEq, Repr, Inhabited

/-- The synchronisation fabric (06). -/
structure Sync where
  sems       : Tbl Sem := []
  bars       : Tbl Bar := []
  waiters    : Tbl Waiter := []
  dbgObject  : Nat := 0
  dbgKind    : Bool := false
  dbgValid   : Bool := false
  dbgData    : Nat := 0
  hostValue  : Nat := 0
  hostResp   : Nat := 0
  hostFault  : Nat := 0
  hostDone   : Bool := false
  dumpBusy   : Bool := false
  dumpError  : Bool := false
  dumps      : Nat := 0
  /-- Semaphores and barriers as the running dump took them (06 R276, R279). -/
  snapSems   : Tbl Sem := []
  snapBars   : Tbl Bar := []
  /-- Channels whose notify SIGNAL waits behind the dump (06 R276). -/
  notifies   : List Nat := []
  requests   : Nat := 0
  sleeps     : Nat := 0
  wakes      : Nat := 0
  returned   : Nat := 0
  remoteSent : Nat := 0
  remoteApplied : Nat := 0
  /-- Remote requests of this instance that wait for the payloads of earlier sends. -/
  remoteOut  : List RemoteWait := []
  /-- Remote requests that wait here for earlier messages of their sender to be written. -/
  remoteIn   : List RemoteWait := []
deriving DecidableEq, Repr, Inhabited

/-! ### Channels, queues, host queues (07) -/

/-- A send that is in flight, or waits at the channel unit (07 R289, R297, R298). -/
structure Sending where
  seq     : Nat := 0
  handler : Nat := 0x3FF
  landing : Nat := 0
  length  : Nat := 0
  src     : Nat := 0
  requester : Nat := 0
  /-- The payload, once read. -/
  payload : Option Blob := none
  /-- The message has been sent and its answer is awaited. -/
  sent    : Bool := false
  sentAt  : Nat := 0
  /-- NACKed, and to be sent again since this hc. -/
  resendAt : Option Nat := none
  /-- The outcome word is being written. -/
  writing : Bool := false
deriving DecidableEq, Repr, Inhabited

/-- A message or a skip record in a receive ring (07 R291 to R293). -/
structure RingMsg where
  seq    : Nat := 0
  start  : Nat := 0
  size   : Nat := 0
  skip   : Bool := false
  freed  : Bool := false
  /-- Its granules have been accepted on bed_; it is accepted itself, in send order (R299). -/
  landed : Bool := false
  /-- It has been accepted (R295). -/
  written : Bool := false
  handler : Nat := 0x3FF
  /-- The route back to the sender, and the sending channel. -/
  back   : Nat := 0
  sendChan : Nat := 0
  /-- The ring's tail before the message (R295: BED leaves the ring as it was). -/
  tailWas : Nat := 0
  /-- The receive context was parted while it was written (07 R326). -/
  dropped : Bool := false
  /-- The bank of the handler table its lookup holds (11 R470). -/
  bank   : Nat := 0
  /-- The link port it came by, if it came by one, and its flits: their credits return when it is written (08 R356). -/
  inPort : Option Nat := none
  flits  : Nat := 0
deriving DecidableEq, Repr, Inhabited

/-- One channel record's run-time state (07). -/
structure Chan where
  nextSeq  : Nat := 0
  sends    : List Sending := []
  head     : Nat := 0
  tail     : Nat := 0
  /-- Messages and skip records in the ring, in ring order from the head. -/
  ring     : List RingMsg := []
  msgs     : Nat := 0
  nacks    : Nat := 0
  stalls   : Nat := 0
deriving DecidableEq, Repr, Inhabited

/-- A word stored in a hardware queue (07 R306, R311). -/
structure QWord where
  data   : BitVec 64 := 0
  /-- The parity bit formed at the write. -/
  parity : Bool := false
  /-- 0 in registers, 1 spilled to the bed, 2 being refilled, 3 refilled. -/
  place  : Nat := 0
  /-- The refill read failed. -/
  bad    : Bool := false
deriving DecidableEq, Repr, Inhabited

/-- A queue request held under R307. -/
structure HeldWrite where
  src  : Nat := 0
  /-- 0 WRITE, 5 PKT_BEGIN. -/
  op   : Nat := 0
  data : BitVec 64 := 0
  part : Nat := 0
  ctx  : Nat := 0
  /-- The bank of the engine class map that its lookup holds (11 R470). -/
  bank : Nat := 0
deriving DecidableEq, Repr, Inhabited

/-- A hardware queue (07 R301 to R312). -/
structure Queue where
  rel      : Nat := 0
  mark     : Nat := 0
  rd       : Nat := 0
  wr       : Nat := 0
  /-- The words from rel to wr, oldest first. -/
  words    : List QWord := []
  lastRead : BitVec 64 := 0
  underrun : Bool := false
  timedOut : Bool := false
  poisonCount : Nat := 0
  /-- The open packet's length slot (a word position) and words written since. -/
  packet   : Option (Nat × Nat) := none
  /-- Requests that the queue holds until there is room, in order (R307). -/
  held     : List HeldWrite := []
  /-- A READ waits for a refill: its requester (R308). -/
  reading  : Option Nat := none
  /-- The bank of the engine class map that this request's lookup holds (11 R470). -/
  readBank : Nat := 0
  /-- Read timer: running since this hc; none when not armed (R310). -/
  timer    : Option Nat := none
  /-- The timeout has fired and no READ has been accepted since (R310). -/
  fired    : Bool := false
deriving DecidableEq, Repr, Inhabited

/-- The host queues of one partition at its home (07 R318 to R324, R330). -/
structure HostQ where
  consumed    : Nat := 0xFFFFFFFF
  received    : Nat := 0xFFFFFFFF
  cplProduced : Nat := 0xFFFFFFFF
  cplAcked    : Nat := 0xFFFFFFFF
  evtProduced : Nat := 0xFFFFFFFF
  evtAcked    : Nat := 0xFFFFFFFF
  cplFull     : Bool := false
  /-- Next sequence numbers of the two rings. -/
  cplSeq      : Nat := 0
  evtSeq      : Nat := 0
  /-- Completion records that wait, oldest first, without their seq. -/
  waiting     : List Nat := []
  /-- The completion record being written: seq and content; and the hc of its failure when it is to be repeated. -/
  writing     : Option (Nat × Nat) := none
  retryAt     : Option Nat := none
  /-- The write of the present record has already been entered as FLT_BED_WRITE. -/
  failed      : Bool := false
  /-- Event records being written: their sequence numbers, oldest first. -/
  evtWriting  : List Nat := []
  /-- Events were dropped since the last written one (R322). -/
  lost        : Bool := false
  drops       : Nat := 0
  /-- IRQ_PART enables (12 R526). -/
  cplEn       : Bool := false
  evtEn       : Bool := false
deriving DecidableEq, Repr, Inhabited

/-- The channel unit, the queue unit and the intake buffer (07). -/
structure Queues where
  chans      : Tbl Chan := []
  /-- CHAN_ENABLE words that were written, by register (R329); all 1 where not listed. -/
  enables    : Tbl Nat := []
  statSel    : Nat := 0
  queues     : Tbl Queue := []
  /-- Requests that wait for an earlier one of their requester, in issue order: requester, word, and the bank of the engine class map
  that was active at acceptance (R305; 11 R469, R470). -/
  waiting    : List (Nat × Nat × Nat) := []
  hostWdata  : BitVec 64 := 0
  hostData   : Nat := 0
  hostFlags  : Nat := 0
  hostCode   : Nat := 0
  hostDone   : Bool := false
  underruns  : Nat := 0
  hostqs     : Tbl HostQ := []
  /-- The intake receive buffer: partition, record and, for a forwarded one, its link port; oldest first (R317). -/
  intake     : List (Nat × BitVec 512 × Option Nat) := []
  frameDrops : Nat := 0
deriving DecidableEq, Repr, Inhabited

/-! ### Partitions and contexts (08) -/

/-- The states of a context (08 R335). -/
inductive CtxSt where
  | dormant | arriving | resident | parting | parted
deriving DecidableEq, Repr, Inhabited

/-- One context (08 R369). -/
structure Ctx where
  st        : CtxSt := .dormant
  lineWait  : Bool := false
  /-- The bring-in launch has been started: its launch id. -/
  bringIn   : Option Nat := none
  demoteRefused  : Bool := false
  restoreRefused : Bool := false
  fault     : Nat := 0
  partings  : Nat := 0
deriving DecidableEq, Repr, Inhabited

/-- The time slices of one partition (08 R336 to R340). -/
structure Slice where
  running  : Option Nat := none
  last     : Nat := 7
  /-- hc at which the running class started, or its quantum started anew. -/
  since    : Nat := 0
  deferred : Bool := false
  switches : Nat := 0
  preempts : Nat := 0
  gougeLines   : Nat := 0
  restoreLines : Nat := 0
  taintSeen    : Nat := 0
  remoteLost   : Nat := 0
deriving DecidableEq, Repr, Inhabited

/-- A run of borrowed scratchpad lines (08 R347 to R352). States: 0 lent, 1 lent and to be spilled, 2 lent with its spill
task created, 3 SPILLED, 4 its restore task created. -/
structure Run where
  core  : Nat := 0
  part  : Nat := 0
  ctx   : Nat := 0
  first : Nat := 0
  lines : Nat := 0
  st    : Nat := 0
deriving DecidableEq, Repr, Inhabited

/-- A reserved window of a BORROW that started a gouge (08 R349, R351). -/
structure Window where
  core  : Nat := 0
  src   : Nat := 0
  part  : Nat := 0
  ctx   : Nat := 0
  first : Nat := 0
  lines : Nat := 0
  /-- Every victim is resolved. -/
  ready : Bool := false
deriving DecidableEq, Repr, Inhabited

/-- Contexts, slices and scratchpads (08). -/
structure Contexts where
  /-- By partition × 32 + context. -/
  ctxs    : Tbl Ctx := []
  slices  : Tbl Slice := []
  runs    : List Run := []
  windows : List Window := []
  /-- Partitions whose work has started at the instance (13 R540 step 6). -/
  started : List Nat := []
deriving DecidableEq, Repr, Inhabited

/-! ### Collectives (09) -/

/-- One reduction bucket slot (09 R375 to R402). -/
structure Bucket where
  round     : Nat := 0
  isOpen    : Bool := false
  tag       : Nat := 0
  group     : Nat := 0
  /-- The contribute task's slot once this leaf has contributed. -/
  task      : Option Nat := none
  /-- The contribute record, 512 bits. -/
  record    : Nat := 0
  /-- The task's input was poisoned: it sends and completes at once (R402). -/
  poisonedIn : Bool := false
  /-- The next level to combine at, or Λ + 1 when the in-package tree is past. -/
  level     : Nat := 1
  /-- The member's own operand for this level is ready. -/
  ownReady  : Bool := false
  /-- The partner's partial for this level has landed: length, poison, present, weight, mask, pkg_absent. -/
  landed    : Option (Nat × Bool × Nat × Nat × Nat × Nat) := none
  /-- The context of the contribute task; kept when the bucket closes, for the restore of R376. -/
  ctx       : Option Nat := none
  /-- The data of `landed`. It is in the landing buffer as well once the member has contributed (R379, R386). -/
  landData  : Blob := ⟨0, 0⟩
  /-- The data of this member's partial while no contribution names a place for it: what it was given by a combine whose other
  operand, its own, is absent (R391). -/
  held      : Option Blob := none
  /-- A statistics bucket, as the contribution or a partial says (R377, R389). -/
  stats     : Bool := false
  /-- RESULT, SHARD and UPDATE messages of the bucket that came before this member's contribution: header, mask and data
  (R392, R396, R398). -/
  early     : List (Nat × Blob × Blob) := []
  /-- A READY for the slot's next round that came before the bucket has opened here: its tag (R386). -/
  readyNext : Option Nat := none
  /-- A combine or finish task waits for a free task slot. -/
  stuck     : Bool := false
  /-- READY has been received, so this member may send its partial. -/
  readyIn   : Bool := false
  /-- READY has been sent to the partner of this level. -/
  readyOut  : Bool := false
  /-- The member's partial has been sent. -/
  sent      : Bool := false
  /-- A combine or finish task is running: its order index less 0xF00. -/
  running   : Option Nat := none
  /-- The partial's length, poison, present count, weight sum, absence mask, absent packages. -/
  length    : Nat := 0
  poison    : Bool := false
  status    : Nat := 0
  present   : Nat := 0
  weight    : Nat := 0
  mask      : Nat := 0
  pkgAbsent : Nat := 0
  late      : Nat := 0
  /-- Order indices of the combine set still reserved (R381, R382). -/
  entries   : List Nat := []
  /-- The combine point's timer started at this hc (R390). -/
  timer     : Option Nat := none
  /-- Membership bitmap read when the bucket opened, under DET=1 (R393). -/
  members   : Option Nat := none
  /-- The result is at hand and being delivered; data and record are being written. -/
  delivering : Bool := false
  /-- UPDATE delivery: shards that are in this member's dst, their elements, and the shard this member owns: first
  element, elements, and whether its optimizer launch runs (R397, R398). -/
  shards    : List Nat := []
  total     : Nat := 0
  shardOff  : Nat := 0
  shardLen  : Nat := 0
  optimizing : Bool := false
  /-- The shard is poisoned (R398). -/
  shardBad  : Bool := false
deriving DecidableEq, Repr, Inhabited

/-- Release counters of one order group (09 R381) and the trackers of 10 R421. -/
structure Order where
  /-- The launch counter. -/
  next    : Nat := 0
  /-- Indices of null instances, which hold no slot and are released when the counter comes to them (09 R381). -/
  nulls   : List Nat := []
  /-- Highest index selected (10 R421). -/
  highest : Option Nat := none
deriving DecidableEq, Repr, Inhabited

/-- A decrement on an edge of kind 2 whose index is not yet released (09 R381). -/
structure Kind2 where
  group  : Nat := 0
  index  : Nat := 0
  /-- The successor's slot and generation bits, and the poison it is given. -/
  slot   : Nat := 0
  gen    : Nat := 0
  poison : Bool := false
  /-- The completing task: partition, context, task_id. -/
  part   : Nat := 0
  ctx    : Nat := 0
  taskId : Nat := 0
deriving DecidableEq, Repr, Inhabited

/-- The ordered-combine buffer and the reduction slots (09). -/
structure Reduce where
  buckets  : Tbl Bucket := []
  orders   : Tbl Order := []
  /-- Contribute tasks that wait for their slot or for entries: task slot, record (R379). -/
  waiting  : List (Nat × Nat) := []
  /-- What REDUCE_STATUS reads once the state of the unit is undefined (13 R533). -/
  lostStatus : Option Nat := none
  /-- Decrements of kind 2 that wait for their index's release (R381). -/
  kind2    : List Kind2 := []
  opened   : Nat := 0
  closed   : Nat := 0
  absent   : Nat := 0
  late     : Nat := 0
  nulls    : Nat := 0
deriving DecidableEq, Repr, Inhabited

/-! ### Determinism (10) -/

/-- The determinism state of one partition (10). -/
structure Det where
  /-- DET_STATUS.det. -/
  det      : Bool := false
  boundary : Nat := 0
  /-- Boundary 0, at image load, is still to be taken: it reads the membership records (R409, R414). -/
  first    : Bool := false
  /-- DET_BOUNDARY was written and the boundary is not taken (R409). -/
  asked    : Bool := false
  /-- Member leaves that still have to acknowledge: group and path code (R410). -/
  acks     : List (Nat × Nat) := []
  /-- The membership record in force by group: its bitmap (R414). -/
  records  : Tbl Nat := []
  nondet   : Nat := 0
  hazard   : Nat := 0
deriving DecidableEq, Repr, Inhabited

/-! ### Image and reshape (11) -/

/-- One image record: its header fields and all its bytes as one number (11 R426). -/
structure Rec where
  type   : Nat := 0
  scope  : Nat := 0
  key0   : Nat := 0
  key1   : Nat := 0
  length : Nat := 0
  bits   : Nat := 0
deriving DecidableEq, Repr, Inhabited

/-- The image loader and the running image (11 R473 to R477). -/
structure Image where
  addr        : Nat := 0
  reshapeAddr : Nat := 0
  /-- LOAD_STATUS.state: 0 EMPTY, 1 LOADING, 2 LOADED, 3 REJECTED. -/
  state       : Nat := 0
  /-- A load is in progress (R446). -/
  loading     : Bool := false
  refused     : Bool := false
  fault       : Nat := 0
  failRec     : Nat := 0
  offset      : Nat := 0
  knotEdge    : Nat := 0
  knotValid   : Bool := false
  digest      : Nat := 0
  /-- The image digest that each serving partition homed here took at its load (04 R204), by partition. -/
  digests     : Tbl Nat := []
  census      : Nat := 0
  epoch       : Nat := 0
  older       : Nat := 0
  /-- The running image's records, all of them, in image order. -/
  recs        : List Rec := []
  /-- RUN_IMAGE.addr. -/
  runAddr     : Nat := 0
  /-- Addresses at which the loader has put the jig bodies, by jig slot (R451; log entry 41). -/
  bodies      : Tbl Nat := []
  /-- Active bank of each banked table (R469): engine map, handler, QoS, cost. -/
  active      : List Nat := [0, 0, 0, 0]
  /-- The records in bank 0 and bank 1 of the banked tables. -/
  bank0       : List Rec := []
  bank1       : List Rec := []
  /-- RELOAD_BUSY bits 3:0: tables whose inactive bank write waits (R471). -/
  busy        : List Nat := []
  commits     : Nat := 0
  aborts      : Nat := 0
  epochMix    : Nat := 0
deriving DecidableEq, Repr, Inhabited

/-- The staged reshape (11 R458 to R468, R476). -/
structure Reshape where
  /-- RESHAPE_STATUS.phase: 0 IDLE, 1 PREPARE, 2 DRAIN, 3 SWAP, 4 COMMIT. -/
  phase     : Nat := 0
  result    : Nat := 0
  olderWait : Bool := false
  drainWait : Bool := false
  doorbellDrop : Bool := false
  fault     : Nat := 0
  newEpoch  : Nat := 0
  affected  : Nat := 0
  /-- The new image's records, and its digests, once validated. -/
  staged    : List Rec := []
  digest    : Nat := 0
  census    : Nat := 0
  /-- The new image is being read and validated. -/
  reading   : Bool := false
  /-- This instance votes NO. -/
  voteNo    : Bool := false
  /-- This instance has finished the phase, and the children (ports) that have sent the same (R458). -/
  selfDone  : Bool := false
  heard     : List Nat := []
  /-- The children that were live when the reshape began here and are still (R464). -/
  kids      : List Nat := []
  /-- Held doorbell launches: partition and value, oldest first (R460). -/
  doorbells : List (Nat × Nat) := []
  /-- The journal (R465): next entry number; the last entry (phase, coord, old epoch, new epoch, affected mask); the
  phases of the entries that are being written, oldest first. -/
  jSeq      : Nat := 0
  jLast     : Option (Nat × Bool × Nat × Nat × Nat) := none
  jOut      : List Nat := []
  /-- Flits that wait until the journal entries have been accepted (R466): destination and payload. -/
  flits     : List (Nat × Nat) := []
  /-- A replaying instance waits for OUTCOME (R467), and when it last sent QUERY. -/
  querying  : Bool := false
  askedAt   : Nat := 0
  /-- A replaying instance reads the new image to roll forward (R467). -/
  rolling   : Bool := false
  /-- Op of the flit that a replay sends once its links are up again (R467); 0 none. -/
  resend    : Nat := 0
deriving DecidableEq, Repr, Inhabited

/-! ### Link (12) -/

/-- A message waiting for, or in, transmission on a port (12 R516, R519). -/
structure TxMsg where
  cls     : Nat := 0
  /-- 0 to 63 a partition, 127 the system pool, 255 no credit. -/
  pool    : Nat := 0
  /-- Takes a control task credit (08 R354). -/
  task    : Bool := false
  kind    : Nat := 0
  content : Granule := 0
  /-- Flits in all, and flits already sent. -/
  flits   : Nat := 1
  sent    : Nat := 0
  /-- The contents of the continuation flits, or the bed span they come from (address, bytes). -/
  payload : Blob := ⟨0, 0⟩
  span    : Option (Nat × Nat) := none
  stalled : Bool := false
  /-- A forwarded message: the input port and the credit (pool, channel) that returns there once it is sent (08 R356). A port
  number above 8 names one whose link has been lost since: nothing returns there (08 R366 step 2). -/
  back    : Option (Nat × Nat) := none
deriving DecidableEq, Repr, Inhabited

/-- A flit held for replay (12 R510). -/
structure TxFlit where
  cls     : Nat := 0
  seq     : Nat := 0
  kind    : Nat := 0
  content : Granule := 0
deriving DecidableEq, Repr, Inhabited

/-- One link port: index 0 the parent, 1 to 8 child 0 to 7 (12 R507 to R517, R525). -/
structure Port where
  /-- isl_x_state: 0 down, 1 active, 2 L1, 3 retraining. -/
  isl      : Nat := 0
  /-- LINK_STATE.state: 0 DOWN, 1 TRAINING, 2 ADMITTING, 3 UP, 4 LOW_POWER, 5 REFUSED. -/
  state    : Nat := 0
  crcErr   : Nat := 0
  replays  : Nat := 0
  retrains : Nat := 0
  protocol : Nat := 0
  refusals : Nat := 0
  /-- Sequence numbers by class 0, 1, 2, 3, 5: next to send and next expected. -/
  tx       : List Nat := [0, 0, 0, 0, 0]
  rx       : List Nat := [0, 0, 0, 0, 0]
  replay   : List TxFlit := []
  queue    : List TxMsg := []
  /-- The receiver waits for REPLAY_BEGIN. -/
  waiting  : Bool := false
  /-- Flits accepted and not yet acknowledged. -/
  unacked  : Nat := 0
  /-- NAKs received since an acknowledged number advanced. -/
  naks     : Nat := 0
  /-- The whole buffer is to be replayed when the port is active again. -/
  replayAll : Bool := false
  /-- Credits in hand: by pool × 8 + virtual channel (+ 4 for control task credits). -/
  credits  : Tbl Nat := []
  /-- Admission: verdict given, verdict received. -/
  ours     : Option Bool := none
  theirs   : Option Bool := none
  /-- hc of the last flit received, and of the last traffic other than ACK. -/
  lastRx   : Nat := 0
  lastBusy : Nat := 0
  pmReq    : Bool := false
  /-- hc at which discovery of the port began, and it has been handled as lost. -/
  since    : Nat := 0
  lost     : Bool := false
  /-- Live before a warm reset (13 R543 step 5). -/
  wasLive  : Bool := false
  /-- An ADMIT that came before this instance held a role: it is judged when it takes one (12 R517; 13 R540 step 4). -/
  early    : Option Granule := none
deriving DecidableEq, Repr, Inhabited

/-! ### Bed (12, 13) -/

/-- What a bed read is for. -/
inductive ReadFor where
  | season (slot gen : Nat) | desc (slot gen : Nat) | edge (slot gen : Nat) | pred (slot gen : Nat)
  | launch (id : Nat) | jigDir (slot : Nat) | jigHead (slot : Nat) | jigBody (slot : Nat)
  | params (id : Nat) (words : List Nat) | cmdlist (id : Nat)
  | payload (chan seq : Nat) | refill (queue pos : Nat)
  | contribute (slot gen : Nat) | stream (p s : Nat) | ledger (p i : Nat)
  /-- Bank `k` of a group's membership record (10 R413). -/
  | bank (p g k : Nat)
deriving DecidableEq, Repr, Inhabited

/-- What a bed write is for. -/
inductive WriteFor where
  | desc (launch : Nat) | task (id : Nat) | edge (launch : Nat)
  | stepBlock (p : Nat) | stream (p s : Nat) | ledger (p i : Nat) | provenance (p : Nat)
  | moveArea (p i : Nat) | gougeArea (p : Nat) | combineArea (slot : Nat)
  | outcome (chan seq : Nat) | ring (chan seq : Nat) | segment (exch gen src : Nat)
  | spill (queue : Nat) | hostq (p : Nat) (evt : Bool) (seq : Nat) | journal | dump
  | delivery (slot : Nat) | partials (slot : Nat) | params (slot : Nat) | data
deriving DecidableEq, Repr, Inhabited

/-- A bed read: one that is outstanding, of bytes of one granule, or what is still to be requested of a transfer (12 R492,
R494). -/
structure BedRead where
  addr    : Nat := 0
  len     : Nat := 0
  /-- The transfer that it belongs to, and the place of its bytes in it. -/
  xfer    : Nat := 0
  off     : Nat := 0
  why     : ReadFor := .edge 0 0
  part    : Nat := 0
  ctx     : Nat := 0
  sys     : Bool := false
  qos     : Nat := 0
  /-- The bank of the QoS tag map that the request was formed with (11 R470). -/
  bank    : Nat := 0
  retried : Bool := false
deriving DecidableEq, Repr, Inhabited

/-- A bed write: one that is outstanding, of bytes of one granule, or what is still to be requested of a transfer (12 R492,
R494). -/
structure BedWrite where
  addr    : Nat := 0
  data    : Blob := ⟨0, 0⟩
  /-- The transfer that it belongs to. -/
  xfer    : Nat := 0
  why     : WriteFor := .data
  part    : Nat := 0
  ctx     : Nat := 0
  sys     : Bool := false
  qos     : Nat := 0
  /-- The bank of the QoS tag map that the request was formed with (11 R470). -/
  bank    : Nat := 0
  retried : Bool := false
deriving DecidableEq, Repr, Inhabited

/-- What a unit reads or writes at once: as many requests as it has granules (12 R492). -/
structure Transfer where
  addr : Nat := 0
  len  : Nat := 0
  /-- Granules that have not come to an end. -/
  left : Nat := 0
  /-- The bytes read so far. -/
  data : Nat := 0
  /-- A granule has failed, and the owner has been told. -/
  bad  : Bool := false
deriving DecidableEq, Repr, Inhabited

/-- The bed controller (12 R492 to R495, R528). -/
structure Bed where
  reads     : Tbl BedRead := []
  writes    : Tbl BedWrite := []
  /-- Requests that wait for a tag, in order. -/
  readWait  : List BedRead := []
  writeWait : List BedWrite := []
  /-- Transfers that have not come to an end, by number. -/
  readXfers  : Tbl Transfer := []
  writeXfers : Tbl Transfer := []
  nextXfer   : Nat := 0
  windowErr : Bool := false
  retried   : Nat := 0
deriving DecidableEq, Repr, Inhabited

/-! ### Clocks, power, start, faceplate, wrapper (13, 14, 12) -/

/-- Clocks, power and start (13 R555 to R557; pins of 12 R500, R502). -/
structure Power where
  idleHold   : Nat := 0x64
  forceOn    : Nat := 0
  /-- DOMAIN_STATUS.running, one Bool for each domain in the row order of 01 R38. -/
  running    : List Bool := List.replicate 8 false
  /-- Ungates pending. -/
  ungating   : List Bool := List.replicate 8 false
  fastStable : Bool := false
  ratio      : Nat := 0x40
  cap        : Nat := 0
  capRatio   : Nat := 0x100
  hyst       : Nat := 0x64
  width      : Nat := 4
  /-- G of R537. -/
  gangMax    : Nat := 0
  gap        : Bool := false
  busRange   : Bool := false
  cappedWindows : Nat := 0
  sample     : Nat := 0
  sampled    : Bool := false
  /-- hc at which the last sample came. -/
  sampleAt   : Nat := 0
  phase      : Nat := 0
  warm       : Bool := false
  parseSkipped : Bool := false
  discoverySkipped : Bool := false
  flushed    : Bool := false
  /-- A flush has been asked for: every later update is written through (R541). -/
  writeThrough : Bool := false
  flushing   : Bool := false
  serveLost  : Bool := false
  replay     : Nat := 0
  heart      : Nat := 0
  /-- A reset is asserted (12 R502): the cold one, the warm one, and both have been together. -/
  inReset    : Bool := false
  coldReset  : Bool := false
  warmReset  : Bool := false
  bothResets : Bool := false
  /-- For how many hc each domain has been idle without a break, up to 0xFFFF (13 R530). -/
  idleFor    : List Nat := List.replicate 8 0
  /-- What a warm start reads of bed memory when CLEAR is over: the journal area and the image (13 R543 steps 3 and 4). -/
  replayIn   : Option (Blob × Blob) := none
deriving DecidableEq, Repr, Inhabited

/-- Faceplate and interrupt registers (12 R527, 14 R566), tree position (01 R35). -/
structure Face where
  unmapped     : Bool := false
  closed       : Bool := false
  unconfigured : Bool := false
  lastAddr     : Nat := 0
  lastWrite    : Bool := false
  loadDone     : Bool := false
  reshapeDone  : Bool := false
  blockFault   : Bool := false
  enable       : Nat := 0
  role         : Nat := 0
  depth        : Nat := 0
  treeDepth    : Nat := 0
  leafIndex    : Nat := 0
  /-- Path digits d1 to d4. -/
  path         : List Nat := []
  parentLive   : Bool := false
  childLive    : Nat := 0
deriving DecidableEq, Repr, Inhabited

/-- The IEEE 1500 wrapper (12 R503 to R505). -/
structure Wrapper where
  instr     : Nat := 0
  boundary  : Nat := 0
  idcode    : Nat := 0
  mbist     : Nat := 0
  fpaccess  : Nat := 0
  /-- The functional state is undefined until the next cold reset (R505). -/
  undefined : Bool := false
deriving DecidableEq, Repr, Inhabited

/-- What left the block's ports during the last command (12). -/
inductive Out where
  /-- A dispatch packet on iss_ and its physical port (R484). -/
  | packet (bits : Nat) (port : Nat)
  /-- A synchronisation, channel or scratchpad response to a requester (06 R247). -/
  | response (group dst : Nat) (resp fault value : Nat)
  /-- A queue response (07 R303); lane 4 for a held write. -/
  | queueResponse (dst : Nat) (held : Bool) (data : Nat) (flags code : Nat)
  /-- A wake pulse (06 R263). -/
  | wake (wire : Nat)
  /-- A flit on a link port (R507): its envelope (R508) and its content. -/
  | flit (port : Nat) (env : BitVec 32) (content : Granule)
  /-- A read request on bed_ (R492): its granule address. -/
  | bedRead (tag granule part : Nat) (sys : Bool) (qos : Nat)
  /-- A write on bed_ (R492): its granule address, the granule and the byte enables. -/
  | bedWrite (tag granule : Nat) (data : Granule) (strb part : Nat) (sys : Bool) (qos : Nat)
  /-- A faceplate response (R481): `fp_rsp_id`, `fp_rsp_rdata` and `fp_rsp_unmapped`. -/
  | faceplate (id rdata : Nat) (unmapped : Bool)
  /-- isl_x_retrain pulse (R507). -/
  | retrain (port : Nat)
  /-- wso / wpo data captured in the wrapper (R504). -/
  | wrapper (bits : Nat)
deriving DecidableEq, Repr, Inhabited

/-- Work that a step still has to do inside the block (log entry 4). -/
inductive Job where
  /-- Local parting of a context (08 R363); `tell`: this instance has decided it and tells the others (08 R362). -/
  | part (p c fault : Nat) (tell : Bool)
  /-- The instance halts (13 R548). -/
  | halt
  /-- The task goes to RETIRING with its final status in `fin`: tell its creator, then walk its edges. -/
  | retire (slot : Nat)
  /-- One decrement (02 R63, R64) by a task of context (p, c), task_id. -/
  | decrement (slot gen : Nat) (poison : Bool) (p c taskId : Nat)
  /-- The count has reached 0 (02 R73 ready detect). -/
  | zero (slot : Nat)
  /-- The task has joined the ready set or is to be handed on (02 R81, R88, R90). -/
  | ready (slot : Nat)
  /-- Look at every READY task again: an engine or an allocation has changed (02 R87). -/
  | sweep
  /-- The launch has its record: find the jig body and the words. -/
  | launchPlan (id : Nat)
  | create (id : Nat)
  | launchCheck (id : Nat)
  | slice (p : Nat)
  /-- Look at an order group of the ordered-combine buffer (09 R381). -/
  | order (group : Nat)
  /-- Bring placements, warm requests and evictions of a partition on (05). -/
  | place (p : Nat)
  /-- Bring a bucket slot on (09). -/
  | bucket (slot : Nat)
  | buckets
  /-- Look whether a context can go on arriving (08 R342). -/
  | arrive (p c : Nat)
  /-- Look at the gouge of a core (08 R351, R352). -/
  | gouge (core : Nat)
  /-- A read could not be made, or failed twice. -/
  | readFailed (why : ReadFor) (p c : Nat)
  /-- A write was accepted or failed twice. -/
  | writeDone (why : WriteFor) (p c : Nat) (ok : Bool)
  /-- A message to a channel of this instance (07), and the link port it came by. -/
  | deliver (flit : Granule) (payload : Blob) (port : Option Nat)
  /-- An answer to a channel of this instance. -/
  | answered (flit : Granule)
  /-- A segment header for an exchange of this instance (03 R144). -/
  | segment (flit : Granule) (port : Option Nat)
  /-- Look at the remote requests that wait behind messages (07 R300). -/
  | remotes
  /-- Look whether the affected partitions are drained, or a reshape may go on. -/
  | reshape
  /-- A link port lost (08 R366, R367). -/
  | lost (port : Nat)
  /-- `isl_x_state` of a port has changed from `before` to `now` (12 R507). -/
  | linkMoved (port before now : Nat)
  /-- Send what a link port can send. -/
  | transmit (port : Nat)
  /-- A partition's completion ring may take its next record (07 R321). -/
  | hostq (p : Nat)
  /-- The ports a partition needs may all be up now (13 R540). -/
  | start
  /-- A launch with stream_valid asks for its stream's pages (05 R228), or drops its pin. -/
  | outside (id : Nat)
  | outsideDone (id : Nat)
  /-- A segment header leaves for a member of an exchange (03 R144). -/
  | header (exch pos gen : Nat) (content : Granule)
  /-- A handler launch has completed: its message's space is freed (07 R293). -/
  | ringFree (chan start : Nat)
  /-- A bring-in launch has completed (08 R335). -/
  | broughtIn (p c status : Nat) (poison : Bool)
  /-- An optimizer launch has completed (09 R398). -/
  | optimized (bucket status : Nat) (poison : Bool)
  /-- A delegated page move is to become a task here (05 R231). -/
  | mover (packet : Nat)
  /-- A wake pulse that `clk_fast` cannot drive yet (12 R491). -/
  | wake (id : Nat)
  /-- A delegated task's work has completed (01 R24). -/
  | completion (packet status : Nat) (poison subnormal : Bool)
deriving DecidableEq, Repr, Inhabited

/-- One Bolrok instance. -/
structure State where
  /-- The build chosen by the integrator (01 R44; log entry 1). -/
  build     : Build := .b512
  /-- The node function of Bolrok 256 and 512 (01 R44). -/
  nodeFn    : Bool := false
  /-- The path at which the integrator has wired the instance into its tree (01 R30; log entry 40). -/
  place     : List Nat := []
  power     : Power := {}
  face      : Face := {}
  faults    : Faults := {}
  tasks     : Tasks := {}
  jigs      : Jigs := {}
  serves    : Tbl Serve := []
  pages     : Tbl Pages := []
  sync      : Sync := {}
  queues    : Queues := {}
  ctxs      : Contexts := {}
  reduce    : Reduce := {}
  dets      : Tbl Det := []
  image     : Image := {}
  reshape   : Reshape := {}
  /-- The nine link ports, index 0 to 8. -/
  ports     : List Port := List.replicate 9 {}
  bed       : Bed := {}
  /-- The block store (01 R46): (address, byte), addresses rising, no byte 0. -/
  store     : List Host.Cell := []
  wrapper   : Wrapper := {}
  /-- Requests held for gated domains: domain and command, in arrival order (01 R39, R40). -/
  held      : List (Nat × Instr) := []
  /-- What the block or the host did to a bit in the present hc, as register offset × 64 + bit: a W1C bit that an event
  set, an engine's release, a third lasting fault that a write of suspect met (00 R18; 02 R114, R118). -/
  fresh     : List Nat := []
  /-- What left the ports during the last command. -/
  outs      : List Out := []
  /-- Work still to do (log entry 4). -/
  work      : List Job := []
  /-- Commands taken so far: the order of readiness (log entry 5). -/
  clock     : Nat := 0
  /-- Free values taken so far (log entry 2). -/
  free      : Nat := 0
  /-- The commands that wait, first in first out. -/
  pending   : List Instr := []
deriving DecidableEq, Repr, Inhabited

/-- The machine right after reset (00 R19, 13 R540 step 1): every field at its reset value, no command waiting. -/
def State.reset : State := {}

/-- Why a step stops with a fault. -/
inductive Fault where
  /-- Raised by every functional command while the functional state is undefined after a test instruction
  (12 R505). Safe: the spec gives no effect until the next cold reset. -/
  | stateUndefined
deriving DecidableEq, Repr

/-- Why a step refuses. -/
inductive Refusal where
  /-- Raised by an arm of exec whose command has no meaning yet. Safe. -/
  | notModelled (mnemonic : String)
deriving DecidableEq, Repr

end Sys2Proof.Machine
end

