-- ==== Sys2Proof/Machine/Bits.lean ====
section
/-!
DEFINITION. Fields of words and byte strings (00 R7, R8), bitmaps, and the sparse tables of the state.
-/
namespace Sys2Proof.Machine

/-- Bits `lo + w - 1 : lo` of a number (00 R7). -/
def fld (v lo w : Nat) : Nat := v / 2 ^ lo % 2 ^ w

/-- Bit `i` of a number (00 R7). -/
def bit (v i : Nat) : Bool := v / 2 ^ i % 2 == 1

/-- A field of `w` bits at `lo`, to be added to other fields. -/
def put (v lo w : Nat) : Nat := v % 2 ^ w * 2 ^ lo

/-- A flag as a number. -/
def flag (b : Bool) : Nat := if b then 1 else 0

/-- Set bit `i` of a bitmap. -/
def setBit (v i : Nat) : Nat := if bit v i then v else v + 2 ^ i

/-- Clear bit `i` of a bitmap. -/
def clearBit (v i : Nat) : Nat := if bit v i then v - 2 ^ i else v

/-- The bits set in the low `w` bits of a bitmap, ascending. -/
def bitsSet (v w : Nat) : List Nat := (List.range w).filter (bit v)

/-- How many of the low `w` bits are set. -/
def popCount (v w : Nat) : Nat := (bitsSet v w).length

/-- Division that rounds up. -/
def ceilDiv (a b : Nat) : Nat := (a + b - 1) / b

/-- Bytes `hi : lo` of a byte string, little-endian (00 R8). -/
def bytesAt (b : Blob) (lo n : Nat) : Nat := fld b.bits (8 * lo) (8 * n)

/-- The `n` bytes of a byte string from `lo`. -/
def blobSlice (b : Blob) (lo n : Nat) : Blob := ⟨n, fld b.bits (8 * lo) (8 * n)⟩

/-- A saturating increment. -/
def satInc (v top : Nat) : Nat := if v < top then v + 1 else v

/-- A counter of `w` bits that wraps. -/
def wrapAdd (v n w : Nat) : Nat := (v + n) % 2 ^ w

/-- `a - b` modulo 2^32. -/
def sub32 (a b : Nat) : Nat := (a % 2 ^ 32 + 2 ^ 32 - b % 2 ^ 32) % 2 ^ 32

/-- The element at an index, if the table lists one. -/
def Tbl.find {α : Type} : Tbl α → Nat → Option α
  | [], _ => none
  | (j, x) :: t, i => if j == i then some x else if i < j then none else Tbl.find t i

/-- The element at an index, or the given one where the table lists none. -/
def Tbl.at {α : Type} (t : Tbl α) (i : Nat) (d : α) : α := (Tbl.find t i).getD d

/-- Put an element at an index; the indices keep rising. -/
def Tbl.put {α : Type} : Tbl α → Nat → α → Tbl α
  | [], i, x => [(i, x)]
  | (j, y) :: t, i, x =>
    if j == i then (i, x) :: t
    else if i < j then (i, x) :: (j, y) :: t
    else (j, y) :: Tbl.put t i x

/-- Take an index out. -/
def Tbl.del {α : Type} (t : Tbl α) (i : Nat) : Tbl α := t.filter (fun e => e.1 != i)

/-- The lowest of the indices 0 to n − 1 that a table does not list. -/
def Tbl.lowestFree {α : Type} (t : Tbl α) (n : Nat) : Option Nat :=
  (List.range (min n (t.length + 1))).find? (fun i => (Tbl.find t i).isNone)

/-- Change the elements of a table one by one. -/
def Tbl.each {α : Type} (t : Tbl α) (f : Nat → α → α) : Tbl α := t.map (fun e => (e.1, f e.1 e.2))

/-- Replace element `i` of a list. -/
def setAt {α : Type} : List α → Nat → α → List α
  | [], _, _ => []
  | _ :: t, 0, x => x :: t
  | h :: t, n + 1, x => h :: setAt t n x

/-- Insert into a list kept in ascending order of a key, behind equal keys. -/
def insertBy {α : Type} (le : α → α → Bool) (x : α) : List α → List α
  | [] => [x]
  | y :: t => if le y x then y :: insertBy le x t else x :: y :: t

/-- Sort by insertion; elements that compare equal keep their order. -/
def sortBy {α : Type} (le : α → α → Bool) (l : List α) : List α :=
  l.foldl (fun acc x => insertBy le x acc) []

/-- The first element with the least key. -/
def leastBy {α : Type} (lt : α → α → Bool) : List α → Option α
  | [] => none
  | x :: t =>
    match leastBy lt t with
    | none => some x
    | some y => if lt y x then some y else some x

/-- Drop repeats, keeping first appearances. -/
def dedup (l : List Nat) : List Nat :=
  l.foldl (fun acc x => if acc.contains x then acc else acc ++ [x]) []

end Sys2Proof.Machine
end

