-- ==== Sys2Proof/Machine/Build.lean ====
section
/-!
DEFINITION. The build parameters of 01 R44 and the layouts that follow from them.
-/
namespace Sys2Proof.Machine

/-- Pick a value by build, in the column order of 01 R44. -/
def Build.pick {α : Type} (b : Build) (v8 v64 v256 v512 vnode : α) : α :=
  match b with
  | .b8 => v8 | .b64 => v64 | .b256 => v256 | .b512 => v512 | .node => vnode

/-- The build code of BUILD_ID (14 R565). -/
def Build.code (b : Build) : Nat := b.pick 0 1 2 3 4

def Build.enginePorts (b : Build) : Nat := b.pick 8 64 256 512 0
def Build.dispatchWidth (b : Build) : Nat := b.pick 1 2 4 4 4
def Build.decrementWidth (b : Build) : Nat := b.pick 4 8 16 16 16
def Build.completionWidth (b : Build) : Nat := b.pick 2 4 8 8 8
def Build.taskSlots (b : Build) : Nat := b.pick 4096 32768 131072 262144 65536
def Build.cacheSlots (b : Build) : Nat := b.pick 4096 2048 8192 16384 4096
def Build.jigSlots (b : Build) : Nat := b.pick 64 1024 4096 8192 4096
def Build.jigNodesMax (b : Build) : Nat := b.pick 256 1024 4096 4096 4096
def Build.jigLanes (b : Build) : Nat := b.pick 1 2 4 4 4
def Build.streamCache (b : Build) : Nat := b.pick 0 512 2048 4096 4096
def Build.pageLedger (b : Build) : Nat := b.pick 0 1 1 1 1
def Build.semaphores (b : Build) : Nat := b.pick 256 4096 32768 65536 16384
def Build.barriers (b : Build) : Nat := b.pick 32 512 2048 4096 1024
def Build.maskCount (b : Build) : Nat := b.pick 32 256 512 1024 256
def Build.maskBits (b : Build) : Nat := b.pick 8 64 256 512 8
def Build.wakeEngine (b : Build) : Nat := b.pick 8 64 256 512 0
def Build.wakeCore (b : Build) : Nat := b.pick 4 16 32 64 0
def Build.remoteSync (b : Build) : Nat := b.pick 0 64 128 256 256
def Build.channels (b : Build) : Nat := b.pick 64 512 2048 4096 1024
def Build.handlers (b : Build) : Nat := b.pick 64 256 1024 1024 1024
def Build.queues (b : Build) : Nat := b.pick 16 64 128 256 64
def Build.queueBedLog2 (b : Build) : Nat := b.pick 0 26 26 26 26
def Build.partitions (b : Build) : Nat := b.pick 1 8 64 64 64
def Build.contexts (b : Build) : Nat := b.pick 4 32 32 32 32
def Build.combineEntries (b : Build) : Nat := b.pick 64 256 1024 4096 4096
def Build.bedPort (b : Build) : Nat := b.pick 0 1 1 1 1
def Build.parentPorts (b : Build) : Nat := b.pick 0 1 1 1 1

/-- The node function is present (14 R565): Bolrok Node, and Bolrok 256 or 512 built with it. -/
def State.hasNodeFn (s : State) : Bool :=
  match s.build with
  | .node => true
  | .b256 => s.nodeFn
  | .b512 => s.nodeFn
  | _ => false

/-- child_ports (01 R44, 14 R567). -/
def State.childPorts (s : State) : Nat := if s.hasNodeFn then 8 else 0

/-- The build has a bed memory port (01 R45). -/
def State.hasBed (s : State) : Bool := s.build.bedPort == 1

/-- Cells of the wrapper boundary register: one on every signal of the faceplate, dispatch, completion, request, wake, bed, intake,
power governor and link ports (12 R481, R484, R486, R488, R491, R492, R496, R498, R503, R507). -/
def State.boundaryWidth (s : State) : Nat :=
  let lanes := 553 + 593 + (557 + 300) + (279 + 150) + (557 + 535) + (151 + 150)
  160 + lanes + 576 + (if s.hasBed then 1246 else 0) + 259 + 65 + 1095 * (s.build.parentPorts + s.childPorts)

/-- BUILD_PARAM `k` (14 R567). -/
def State.buildParam (s : State) (k : Nat) : Nat :=
  let b := s.build
  match k with
  | 0 => put b.enginePorts 0 16 + put 8 16 16 + put b.dispatchWidth 32 16 + put b.decrementWidth 48 16
  | 1 => put b.completionWidth 0 16 + put b.jigLanes 16 16 + put b.jigSlots 32 16 + put b.jigNodesMax 48 16
  | 2 => put b.taskSlots 0 32 + put b.cacheSlots 32 16 + put b.streamCache 48 16
  | 3 => put b.semaphores 0 32 + put b.barriers 32 16 + put b.maskCount 48 16
  | 4 => put b.maskBits 0 16 + put b.wakeEngine 16 16 + put b.wakeCore 32 16 + put b.remoteSync 48 16
  | 5 => put b.channels 0 16 + put b.handlers 16 16 + put b.queues 32 16 + put b.queueBedLog2 48 16
  | 6 => put b.partitions 0 16 + put b.contexts 16 16 + put b.combineEntries 32 16 + put 2400 48 16
  | _ => put b.pageLedger 0 1 + put b.bedPort 1 1 + put b.parentPorts 2 1 + put s.childPorts 4 4

/-- The granules of a synchronisation dump: the offsets of 06 R277. -/
def Build.dumpBarOff (b : Build) : Nat := 0x40 + 32 * b.semaphores
def Build.dumpBmpOff (b : Build) : Nat := b.dumpBarOff + 32 * b.barriers
def Build.dumpWaitOff (b : Build) : Nat := b.dumpBmpOff + 2 * (b.maskBits / 8) * b.barriers
def Build.dumpMaskOff (b : Build) : Nat := b.dumpWaitOff + 8 * (b.wakeEngine + b.wakeCore)
def Build.dumpSize (b : Build) : Nat := b.dumpMaskOff + (b.maskBits / 8) * b.maskCount

end Sys2Proof.Machine
end

