-- ==== Sys2Proof/Machine/Records.lean ====
section
/-!
DEFINITION. The running image's records, read by the layouts of 11 R426 to R443, the tree position they give
the instance (01), and the routing of messages (12 R521).
-/
namespace Sys2Proof.Machine

/-- `n` bytes of a record from byte `lo` (11, record bodies). -/
def Rec.u (r : Rec) (lo n : Nat) : Nat := fld r.bits (8 * lo) (8 * n)

/-! ### Record types (11 R428) -/

def tyHeader := 0x0001
def tyTreeRole := 0x0010
def tyCredit := 0x0011
def tyEngineMap := 0x0020
def tyCensus := 0x0021
def tyVgroup := 0x0022
def tyQos := 0x0023
def tyPartition := 0x0030
def tyAlloc := 0x0031
def tyContext := 0x0032
def tyScratch := 0x0033
def tySpill := 0x0034
def tyDet := 0x0035
def tyPolicy := 0x0036
def tyServe := 0x0040
def tyHostq := 0x0041
def tyCost := 0x0042
def tyPageFormat := 0x0043
def tyJig := 0x0050
def tyExchange := 0x0051
def tyCold := 0x0052
def tyHandler := 0x0053
def tySemaphore := 0x0060
def tyBarrier := 0x0061
def tyMask := 0x0062
def tySyncRef := 0x0063
def tyChannel := 0x0070
def tyQueue := 0x0071
def tyReduce := 0x0080
def tyData := 0x0090
def tyDebug := 0x00F0
def tyReshape := 0x00F8

/-- Record types that are loaded into a double-banked table (11 R428). -/
def isBanked (ty : Nat) : Bool :=
  ty == tyEngineMap || ty == tyCensus || ty == tyQos || ty == tyCost || ty == tyHandler

/-- The table of a banked type, in the order of RELOAD_BUSY (11 R476). -/
def tableOf (ty : Nat) : Nat :=
  if ty == tyHandler then 1 else if ty == tyQos then 2 else if ty == tyCost then 3 else 0

/-! ### Paths (01 R28 to R30, 11 R426) -/

/-- Depth and path digits in 15 bits, as scope bits 14:0. -/
def pathCode (path : List Nat) : Nat :=
  put path.length 0 3 + put (path.getD 0 0) 3 3 + put (path.getD 1 0) 6 3
    + put (path.getD 2 0) 9 3 + put (path.getD 3 0) 12 3

/-- The path digits of a 15-bit code. -/
def codePath (code : Nat) : List Nat :=
  (List.range (min 4 (fld code 0 3))).map (fun j => fld code (3 + 3 * j) 3)

/-- The instance's own code. -/
def State.selfCode (s : State) : Nat := pathCode s.face.path

/-- A path lies in the subtree of another. -/
def under (top path : List Nat) : Bool := path.take top.length == top

/-- The record is kept by the instance: its scope is all, or the instance's own path (11 R427). -/
def Rec.keptBy (r : Rec) (code : Nat) : Bool := bit r.scope 15 || fld r.scope 0 15 == code

/-- The first kept record of a type with the given keys. -/
def findRec (rs : List Rec) (code ty k0 k1 : Nat) : Option Rec :=
  rs.find? (fun r => r.type == ty && r.key0 == k0 && r.key1 == k1 && r.keptBy code)

/-- A record of the running image. -/
def State.recAt (s : State) (ty k0 k1 : Nat) : Option Rec :=
  findRec s.image.recs s.selfCode ty k0 k1

/-- A field of a record of the running image; 0 where there is no such record. -/
def State.recU (s : State) (ty k0 k1 lo n : Nat) : Nat :=
  match s.recAt ty k0 k1 with
  | some r => r.u lo n
  | none => 0

/-- The kept records of a type. -/
def State.recsOf (s : State) (ty : Nat) : List Rec :=
  s.image.recs.filter (fun r => r.type == ty && r.keptBy s.selfCode)

/-- The active bank of a banked table (11 R469). -/
def State.activeBank (s : State) (table : Nat) : Nat := s.image.active.getD table 0

/-- The records of one bank. -/
def State.bank (s : State) (b : Nat) : List Rec := if b == 0 then s.image.bank0 else s.image.bank1

/-- A record of a banked table in a given bank. -/
def State.bankRec (s : State) (b ty k0 k1 : Nat) : Option Rec := findRec (s.bank b) s.selfCode ty k0 k1

/-- A record of a banked table in its active bank. -/
def State.activeRec (s : State) (ty k0 k1 : Nat) : Option Rec :=
  s.bankRec (s.activeBank (tableOf ty)) ty k0 k1

/-- A role is held (01 R22). -/
def State.hasRole (s : State) : Bool := s.face.role != 0

/-- The instance has a leaf function (01, roles 1 and 3). -/
def State.isLeaf (s : State) : Bool := s.face.role == 1 || s.face.role == 3

/-- The instance has a node function (01, roles 2 and 3). -/
def State.isNode (s : State) : Bool := s.face.role == 2 || s.face.role == 3

/-- The instance is the root of its tree (01, The tree). -/
def State.isRoot (s : State) : Bool := s.hasRole && s.face.path.isEmpty

/-! ### Partitions and contexts -/

/-- The partition has a PARTITION record (11 R429). -/
def State.partConfigured (s : State) (p : Nat) : Bool := (s.recAt tyPartition p 0).isSome

/-- The context has a CONTEXT record (13 R549). -/
def State.ctxConfigured (s : State) (p c : Nat) : Bool := (s.recAt tyContext p c).isSome

/-- Numbers of the configured partitions, ascending. -/
def State.parts (s : State) : List Nat := (s.recsOf tyPartition).map (·.key0)

/-- Numbers of a partition's configured contexts, ascending. -/
def State.ctxsOf (s : State) (p : Nat) : List Nat :=
  ((s.recsOf tyContext).filter (fun r => r.key0 == p)).map (·.key1)

/-- The code of a partition's home (01 R33, 11 R434). -/
def State.homeCode (s : State) (p : Nat) : Nat := fld (s.recU tyPartition p 0 16 2) 0 15

/-- The instance is the partition's home. -/
def State.isHome (s : State) (p : Nat) : Bool := s.partConfigured p && s.homeCode p == s.selfCode

/-- Quantum in µs (11 R434). -/
def State.quantumUs (s : State) (p : Nat) : Nat := s.recU tyPartition p 0 20 4

/-- Hold limit in µs; 0 selects 200 (11 R434). -/
def State.holdLimitUs (s : State) (p : Nat) : Nat :=
  let v := s.recU tyPartition p 0 24 4
  if v == 0 then 200 else v

/-- Priority of a slice class (11 R434). -/
def State.classPrio (s : State) (p k : Nat) : Nat := fld (s.recU tyPartition p 0 (32 + k) 1) 0 3

/-- A CONTEXT record's attribute byte (11 R436). -/
def State.ctxAttrs (s : State) (p c : Nat) : Nat := s.recU tyContext p c 16 1
def State.ctxClass (s : State) (p c : Nat) : Nat := fld (s.ctxAttrs p c) 0 3
def State.ctxResident (s : State) (p c : Nat) : Bool := bit (s.ctxAttrs p c) 3
def State.ctxSpillable (s : State) (p c : Nat) : Bool := bit (s.ctxAttrs p c) 4
def State.ctxServing (s : State) (p c : Nat) : Bool := bit (s.ctxAttrs p c) 5
def State.ctxFormat (s : State) (p c : Nat) : Nat := fld (s.ctxAttrs p c) 6 2
def State.guarFirst (s : State) (p c : Nat) : Nat := s.recU tyContext p c 20 2
def State.guarCount (s : State) (p c : Nat) : Nat := s.recU tyContext p c 22 2
def State.borrowMax (s : State) (p c : Nat) : Nat := s.recU tyContext p c 24 2
def State.bringInAddr (s : State) (p c : Nat) : Nat := fld (s.recU tyContext p c 32 8) 0 52

/-- Class priority of a context. -/
def State.ctxPrio (s : State) (p c : Nat) : Nat := s.classPrio p (s.ctxClass p c)

/-- ALLOC fields (11 R435). -/
def State.allocEngines (s : State) (p : Nat) : Nat := s.recU tyAlloc p 0 16 64
def State.allocChildren (s : State) (p : Nat) : Nat := s.recU tyAlloc p 0 80 1
def State.edgePool (s : State) (p : Nat) : Nat := s.recU tyAlloc p 0 84 4
def State.serveRegion (s : State) (p : Nat) : Nat := fld (s.recU tyAlloc p 0 88 8) 0 52
def State.coldArea (s : State) (p : Nat) : Nat := fld (s.recU tyAlloc p 0 96 8) 0 52
def State.coldSlots (s : State) (p : Nat) : Nat := s.recU tyAlloc p 0 104 4
def State.coldSlotBytes (s : State) (p : Nat) : Nat := s.recU tyAlloc p 0 108 4
def State.reduceArea (s : State) (p : Nat) : Nat := fld (s.recU tyAlloc p 0 112 8) 0 52

/-- TREE_ROLE fields of the running image (11 R431). -/
def State.treeU (s : State) (lo n : Nat) : Nat := s.recU tyTreeRole 0 0 lo n
def State.bedBase (s : State) : Nat := fld (s.treeU 24 8) 0 52

/-- Bed window size; 0 selects 256 MiB, and the block store is 64 KiB (01 R46, 11 R431). -/
def State.bedSize (s : State) : Nat :=
  if !s.hasBed then 0x10000
  else
    let v := fld (s.treeU 32 8) 0 52
    if v == 0 then 0x10000000 else v

def State.taskTable (s : State) : Nat := fld (s.treeU 40 8) 0 52
def State.edgeRegion (s : State) : Nat := fld (s.treeU 48 8) 0 52
def State.edgeGranules (s : State) : Nat := s.treeU 56 4
def State.jigTable (s : State) : Nat := fld (s.treeU 64 8) 0 52
def State.journalBase (s : State) : Nat := fld (s.treeU 72 8) 0 52

/-- Connected ports by TREE_ROLE (11 R431): bit 0 parent, bits 8:1 children. -/
def State.census (s : State) : Nat := bit (s.treeU 17 1) 0 |> flag |> (· + 2 * s.treeU 18 1)

/-- DET of a partition (10 R405, R406). -/
def State.detOf (s : State) (p : Nat) : Bool := (Tbl.at s.dets p {}).det

/-- os_nodes lists the node (10 R405, R407). -/
def State.listedNode (s : State) (p jig node : Nat) : Bool :=
  match s.recAt tyDet p 0 with
  | none => false
  | some r =>
    (List.range (r.u 32 2)).any (fun i =>
      let e := r.u (48 + 4 * i) 4
      fld e 0 13 == jig && fld e 13 12 == node)

/-- The partition is affected by a reshape that drains or swaps and has not committed here (11 R460, R462), or whose outcome a
replaying instance asks for (R467). -/
def State.draining (s : State) (p : Nat) : Bool :=
  bit s.reshape.affected p && (decide (2 ≤ s.reshape.phase) || s.reshape.querying) &&
    !(s.reshape.phase == 4 && s.image.epoch == s.reshape.newEpoch)

/-- The serving loop's records exist for the partition. -/
def State.serves? (s : State) (p : Nat) : Bool := (s.recAt tyServe p 0).isSome

/-- POLICY bytes 16 and 17 (11 R437). -/
def State.policyClass (s : State) (p k : Nat) : Bool :=
  match s.recAt tyPolicy p 0 with
  | some r => bit (r.u 16 1) k
  | none => bit 0x1C k
def State.policyTransient (s : State) (p : Nat) : Bool := bit (s.recU tyPolicy p 0 17 1) 0

/-! ### Engines (02 R85, R86, 11 R433) -/

/-- Entry `v` of the engine class map in a bank: physical port, class, core; none when absent or not given. -/
def State.engEntry (s : State) (b v : Nat) : Option (Nat × Nat × Nat) :=
  match s.bankRec b tyEngineMap 0 0 with
  | none => none
  | some r =>
    let e := r.u (16 + 4 * v) 4
    if v < 512 && !bit e 9 then some (fld e 0 9, fld e 10 3, fld e 13 8) else none

/-- The virtual engine that a bank maps to a physical port. -/
def State.virtOf (s : State) (b port : Nat) : Option Nat :=
  (List.range 512).find? (fun v =>
    match s.engEntry b v with
    | some (q, _, _) => q == port
    | none => false)

/-- The bank of the engine class map that is active. -/
def State.mapBank (s : State) : Nat := s.activeBank 0

/-- The core of a requester: that of its virtual engine, or the core itself (08 R346). -/
def State.coreOf (s : State) (src : Nat) : Option Nat :=
  if src < 512 then
    match s.virtOf s.mapBank src with
    | some v => (s.engEntry s.mapBank v).map (·.2.2)
    | none => none
  else if src < 576 then some (src - 512)
  else none

/-- A vgroup holds a virtual engine (02 R86, 11 R433). -/
def State.inVgroup (s : State) (g v : Nat) : Bool := g == 0xFFFF || bit (s.recU tyVgroup g 0 16 64) v

/-- An engine class map has an engine of a class that a vgroup names: for 0xFFFF a mapped one, or one of the partition's allocation,
mapped or absent; for a group one of the group's, mapped or absent. The tasks of such a vgroup are for the instance's own engines
(01, roles; log entry 15). -/
def ownEngines (map group : Option Rec) (alloc vg cls : Nat) : Bool :=
  map.any (fun r => (List.range 512).any (fun v =>
    let e := r.u (16 + 4 * v) 4
    fld e 10 3 == cls && (if vg == 0xFFFF then !bit e 9 || bit alloc v else group.any (fun g => bit (g.u 16 64) v))))

/-- The tasks of a partition's vgroup and class go to engines of this instance: at a leaf all of them, at a node none (01,
roles). -/
def State.ownTask (s : State) (p vg cls : Nat) : Bool :=
  match s.face.role with
  | 1 => true
  | 3 => ownEngines (s.bankRec s.mapBank tyEngineMap 0 0) (s.recAt tyVgroup vg 0) (s.allocEngines p) vg cls
  | _ => false

/-- Cores of a partition's allocation at this leaf, ascending. -/
def State.allocCores (s : State) (p : Nat) : List Nat :=
  let a := s.allocEngines p
  dedup (sortBy (· ≤ ·) ((bitsSet a 512).filterMap (fun v => (s.engEntry s.mapBank v).map (·.2.2))))

/-! ### Addresses -/

/-- QoS class of a bed request (08 R360, 11 R433). -/
def State.qosOf (s : State) (p : Nat) (sys : Bool) : Nat :=
  match s.activeRec tyQos 0 0 with
  | some r => if sys then fld (r.u 80 1) 0 4 else fld (r.u (16 + p) 1) 0 4
  | none => 0

/-- Record address of stream `id` (04 R165). -/
def State.streamAddr (s : State) (p id : Nat) : Nat :=
  fld (s.recU tyServe p 0 24 8) 0 52 + 64 * (id - fld (s.recU tyServe p 0 16 4) 0 20)

/-- Address of ledger entry `i` (05 R211). -/
def State.ledgerAddr (s : State) (p i : Nat) : Nat :=
  fld (s.recU tyServe p 0 40 8) 0 52 + 16 * (i - s.recU tyServe p 0 32 3)

/-! ### Routing (12 R521) -/

/-- The link port toward an instance: none when it is this instance, else 0 parent or 1 + child digit. -/
def State.nextHop (s : State) (dest : Nat) : Option Nat :=
  let path := codePath dest
  let own := s.face.path
  if path == own then none
  else if under own path then some (1 + path.getD own.length 0)
  else some 0

end Sys2Proof.Machine
end

