-- ==== Sys2Proof/Machine/Catalogue.lean ====
section
/-!
DEFINITION. The catalogue: fault values (13 R552) and status codes (13 R553), by their names in the spec
without the prefix, and the sources of ledger entries (13 R550).
-/
namespace Sys2Proof.Machine

def fltCplUnknown := 0x0001
def fltEngineSuspect := 0x0002
def fltSkipOp := 0x0003
def fltIntakeGap := 0x0004
def fltIntakeFrame := 0x0005
def fltPageMove := 0x0006
def fltLedgerFull := 0x0007
def fltMemberRecord := 0x0008
def fltTreeMismatch := 0x0009
def fltLinkProtocol := 0x000A
def fltReshapeEpoch := 0x000B
def fltReshapeScope := 0x000C
def fltTelemetry := 0x000D
def fltBusRange := 0x000E
def fltWarmServe := 0x000F
def fltImageFormat := 0x0100
def fltImageDigest := 0x0101
def fltImageRole := 0x0102
def fltImageBuild := 0x0103
def fltImageWindow := 0x0104
def fltImageBound := 0x0105
def fltImageKnot := 0x0106
def fltImageMap := 0x0107
def fltImageHome := 0x0108
def fltImagePartition := 0x0109
def fltImageCredit := 0x010A
def fltImageScratch := 0x010B
def fltImageTask := 0x010C
def fltImageVgroup := 0x010D
def fltImageCold := 0x010E
def fltImageServe := 0x010F
def fltImageFallback := 0x0110
def fltImagePages := 0x0111
def fltImageSync := 0x0112
def fltImageChan := 0x0113
def fltImageQueue := 0x0114
def fltImageReduce := 0x0115
def fltImageDet := 0x0116
def fltEngineErr := 0x1001
def fltMemErr := 0x1002
def fltBlockSize := 0x1003
def fltBedRead := 0x1004
def fltBedWrite := 0x1005
def fltChildTimeout := 0x2001
def fltSlotBusy := 0x2002
def fltEdgeKind := 0x2003
def fltEdgeStale := 0x2004
def fltDepUnderflow := 0x2005
def fltEpochMix := 0x2006
def fltTaskTimeout := 0x2007
def fltScaleRange := 0x2008
def fltVgroupEmpty := 0x2009
def fltCmdInvalid := 0x200A
def fltEngineAccess := 0x200B
def fltJigNode := 0x200C
def fltJigCount := 0x200D
def fltJigSize := 0x200E
def fltExchangeLap := 0x200F
def fltExchangeDup := 0x2010
def fltCmdlist := 0x2011
def fltSyncOp := 0x2012
def fltSyncObject := 0x2013
def fltSyncRemote := 0x2014
def fltSyncAccess := 0x2015
def fltSemOverflow := 0x2016
def fltSemUnderflow := 0x2017
def fltBarrierLap := 0x2018
def fltBarrierMember := 0x2019
def fltChanOp := 0x201A
def fltChanObject := 0x201B
def fltChanAccess := 0x201C
def fltRingOversize := 0x201D
def fltChanLanding := 0x201E
def fltQueueOp := 0x201F
def fltQueueObject := 0x2020
def fltQueueAccess := 0x2021
def fltQueueTimeout := 0x2022
def fltBringIn := 0x2023
def fltScratchOp := 0x2024
def fltScratchAccess := 0x2025
def fltGouge := 0x2026
def fltHoldLimit := 0x2027
def fltHostPart := 0x2028
def fltChildLost := 0x2029
def fltParentLost := 0x202A
def fltReduceArgs := 0x202B
def fltReduceGroup := 0x202C
def fltReduceDup := 0x202D
def fltReduceLength := 0x202E
def fltPartitionUnmapped := 0x3001
def fltEngineFatal := 0x3002
def fltSupervisorParity := 0x4001
def fltClockLoss := 0x4002

/-- The class of a fault value: 0 STATUS, 1 RETRY, 2 CONTEXT, 3 PARTITION, 4 BLOCK (13 R552). -/
def faultClass (v : Nat) : Nat := fld v 12 3

def stOk := 0x00
def stNull := 0x01
def stPoisonIn := 0x02
def stScaleRange := 0x03
def stEngineErr := 0x20
def stMemErr := 0x21
def stBlockSize := 0x22
def stCmdInvalid := 0x40
def stAccess := 0x41
def stParted := 0x42
def stChildLost := 0x43
def stUnmapped := 0x60
def stEngineFatal := 0x61

/-- The class of a status value (13 R553). -/
def statusClass (v : Nat) : Nat := fld v 5 3

/-- The codes an engine may return on cpl_ (13 R553). -/
def isEngineStatus (v : Nat) : Bool :=
  v == stOk || v == stScaleRange || v == stEngineErr || v == stMemErr || v == stBlockSize
    || v == stCmdInvalid || v == stAccess || v == stEngineFatal

/-- The codes that a COMPLETION flit may carry: every listed one (13 R553). -/
def isListedStatus (v : Nat) : Bool :=
  isEngineStatus v || v == stNull || v == stPoisonIn || v == stParted || v == stChildLost || v == stUnmapped

/-- The fault of a status when it is final; 0 for none (13 R553, column Fault when final). -/
def finalFault (v : Nat) : Nat :=
  if v == stEngineErr then fltEngineErr
  else if v == stMemErr then fltMemErr
  else if v == stBlockSize then fltBlockSize
  else if v == stCmdInvalid then fltCmdInvalid
  else if v == stAccess then fltEngineAccess
  else if v == stEngineFatal then fltEngineFatal
  else 0

/-! ### Sources of ledger entries (13 R550) -/

def srcSupervisor := 0
def srcDependency := 1
def srcIssue := 2
def srcJig := 3
def srcBatch := 4
def srcLedger := 5
def srcSync := 6
def srcChannel := 7
def srcQueue := 8
def srcCombine := 9
def srcLink := 10
def srcBed := 11
def srcGovernor := 12
def srcLoader := 13
def srcFaceplate := 14

/-! ### Sapwood domains, in the row order of 01 R38 (13 R555) -/

def swDispatch := 0
def swJig := 1
def swServe := 2
def swSync := 3
def swCombine := 4
def swLink := 5
def swBed := 6
def swGov := 7

end Sys2Proof.Machine
end

