-- ==== Sys2Proof/Machine/Ops.lean ====
section
/-!
DEFINITION. The named operations that every unit uses: outputs, domains, raising a fault, the block store, the
bed controller, and reading and changing one element of the state's tables.
-/
namespace Sys2Proof.Machine

/-! ### Outputs, work, order -/

/-- Something leaves a port. -/
def emit (o : Out) (s : State) : State := { s with outs := s.outs ++ [o] }

/-- Work to be done in this step, behind the work already noted. -/
def later (j : Job) (s : State) : State := { s with work := s.work ++ [j] }

/-- Several jobs. -/
def laters (js : List Job) (s : State) : State := { s with work := s.work ++ js }

/-- A free value of `w` bits (log entry 2); the counter advances. -/
def takeFree (w : Nat) (s : State) : Nat × State :=
  (Sys2Proof.Config.freeValue s.free % 2 ^ w, { s with free := s.free + 1 })

/-- Bit `i` of the register at `off` is noted for the rest of the hc (00 R18). -/
def noteBit (off i : Nat) (s : State) : State := { s with fresh := (off * 64 + i) :: s.fresh }

/-- The bit has been noted in the present hc. -/
def State.noted (s : State) (off i : Nat) : Bool := s.fresh.contains (off * 64 + i)

/-- Heartwood time in µs. -/
def State.us (s : State) : Nat := s.power.heart / 100

/-! ### Domains (01 R38, R39) -/

/-- The domain runs. -/
def State.runs (s : State) (d : Nat) : Bool := s.power.running.getD d false

/-- No sapwood domain can run: `clk_fast` is not stable (12 R501; 13 R532), or the storage is still to be cleared (13 R540,
R543). -/
def Power.stopped (w : Power) : Bool := !w.fastStable || decide (w.phase < 2)

/-- An ungate that a request asks for: it completes at once while domains can run, and is pending until then. The domain's idle
hold starts again (13 R531). -/
def Power.woken (d : Nat) (w : Power) : Power :=
  let w := { w with idleFor := setAt w.idleFor d 0 }
  if !w.stopped then { w with running := setAt w.running d true, ungating := setAt w.ungating d false }
  else if w.running.getD d false then w
  else { w with ungating := setAt w.ungating d true }

/-- A request from inside the block to a gated domain ungates it (01 R39); that takes only time (01, under R42; log entry
3). What is to be done there waits until domains can run (log entry 75). -/
def wakeUp (d : Nat) (s : State) : State := { s with power := s.power.woken d }

/-- A request at a port, or from the faceplate, to a gated domain waits and asks for the ungate (01 R39). -/
def hold (d : Nat) (i : Instr) (s : State) : State :=
  { s with
    held := s.held ++ [(d, i)]
    power := { s.power with ungating := setAt s.power.ungating d true } }

/-- A request reaches a domain that runs: its idle hold starts again (13 R531; 14 R576). -/
def restHold (d : Nat) (s : State) : State := { s with power := { s.power with idleFor := setAt s.power.idleFor d 0 } }

/-- `clk_fast_req` (12 R500): a sapwood domain runs or has an ungate pending, or the storage is being cleared. -/
def State.fastReq (s : State) : Bool :=
  s.power.running.any id || s.power.ungating.any id || s.power.phase == 1

/-! ### Elements of tables -/

def State.slot (s : State) (i : Nat) : Slot := Tbl.at s.tasks.slots i {}

def setSlot (i : Nat) (x : Slot) (s : State) : State :=
  { s with tasks := { s.tasks with slots := Tbl.put s.tasks.slots i x } }

def modSlot (i : Nat) (f : Slot → Slot) (s : State) : State := setSlot i (f (s.slot i)) s

def State.engine (s : State) (p : Nat) : Engine := Tbl.at s.tasks.engines p {}

def modEngine (p : Nat) (f : Engine → Engine) (s : State) : State :=
  { s with tasks := { s.tasks with engines := Tbl.put s.tasks.engines p (f (s.engine p)) } }

def State.launch (s : State) (i : Nat) : Launch := Tbl.at s.jigs.launches i {}

def setLaunch (i : Nat) (x : Launch) (s : State) : State :=
  { s with jigs := { s.jigs with launches := Tbl.put s.jigs.launches i x } }

def modLaunch (i : Nat) (f : Launch → Launch) (s : State) : State := setLaunch i (f (s.launch i)) s

def State.exchange (s : State) (i : Nat) : Exchange := Tbl.at s.jigs.exchanges i {}

def modExchange (i : Nat) (f : Exchange → Exchange) (s : State) : State :=
  { s with jigs := { s.jigs with exchanges := Tbl.put s.jigs.exchanges i (f (s.exchange i)) } }

def coldKey (p b : Nat) : Nat := p * 2048 + b

def State.cold (s : State) (p b : Nat) : Cold := Tbl.at s.jigs.cold (coldKey p b) {}

def modCold (p b : Nat) (f : Cold → Cold) (s : State) : State :=
  { s with jigs := { s.jigs with cold := Tbl.put s.jigs.cold (coldKey p b) (f (s.cold p b)) } }

def State.serve (s : State) (p : Nat) : Serve := Tbl.at s.serves p {}

def modServe (p : Nat) (f : Serve → Serve) (s : State) : State :=
  { s with serves := Tbl.put s.serves p (f (s.serve p)) }

def State.stream (s : State) (p i : Nat) : Stream := Tbl.at (s.serve p).streams i {}

def modStream (p i : Nat) (f : Stream → Stream) (s : State) : State :=
  modServe p (fun v => { v with streams := Tbl.put v.streams i (f (Tbl.at v.streams i {})) }) s

def State.page (s : State) (p : Nat) : Pages := Tbl.at s.pages p {}

def modPages (p : Nat) (f : Pages → Pages) (s : State) : State :=
  { s with pages := Tbl.put s.pages p (f (s.page p)) }

def State.entry (s : State) (p i : Nat) : Page := Tbl.at (s.page p).ledger i {}

def modEntry (p i : Nat) (f : Page → Page) (s : State) : State :=
  modPages p (fun v => { v with ledger := Tbl.put v.ledger i (f (Tbl.at v.ledger i {})) }) s

def State.sem (s : State) (i : Nat) : Sem := Tbl.at s.sync.sems i {}

def modSem (i : Nat) (f : Sem → Sem) (s : State) : State :=
  { s with sync := { s.sync with sems := Tbl.put s.sync.sems i (f (s.sem i)) } }

def State.bar (s : State) (i : Nat) : Bar := Tbl.at s.sync.bars i {}

def modBar (i : Nat) (f : Bar → Bar) (s : State) : State :=
  { s with sync := { s.sync with bars := Tbl.put s.sync.bars i (f (s.bar i)) } }

def State.waiter (s : State) (i : Nat) : Waiter := Tbl.at s.sync.waiters i {}

def setWaiter (i : Nat) (x : Waiter) (s : State) : State :=
  { s with sync := { s.sync with waiters := Tbl.put s.sync.waiters i x } }

def State.chan (s : State) (i : Nat) : Chan := Tbl.at s.queues.chans i {}

def modChan (i : Nat) (f : Chan → Chan) (s : State) : State :=
  { s with queues := { s.queues with chans := Tbl.put s.queues.chans i (f (s.chan i)) } }

def State.queue (s : State) (i : Nat) : Queue := Tbl.at s.queues.queues i {}

def modQueue (i : Nat) (f : Queue → Queue) (s : State) : State :=
  { s with queues := { s.queues with queues := Tbl.put s.queues.queues i (f (s.queue i)) } }

def State.hostq (s : State) (p : Nat) : HostQ := Tbl.at s.queues.hostqs p {}

def modHostq (p : Nat) (f : HostQ → HostQ) (s : State) : State :=
  { s with queues := { s.queues with hostqs := Tbl.put s.queues.hostqs p (f (s.hostq p)) } }

def ctxKey (p c : Nat) : Nat := p * 32 + c

def State.ctx (s : State) (p c : Nat) : Ctx := Tbl.at s.ctxs.ctxs (ctxKey p c) {}

def modCtx (p c : Nat) (f : Ctx → Ctx) (s : State) : State :=
  { s with ctxs := { s.ctxs with ctxs := Tbl.put s.ctxs.ctxs (ctxKey p c) (f (s.ctx p c)) } }

def State.slice (s : State) (p : Nat) : Slice := Tbl.at s.ctxs.slices p {}

def modSlice (p : Nat) (f : Slice → Slice) (s : State) : State :=
  { s with ctxs := { s.ctxs with slices := Tbl.put s.ctxs.slices p (f (s.slice p)) } }

def State.bucket (s : State) (i : Nat) : Bucket := Tbl.at s.reduce.buckets i {}

def modBucket (i : Nat) (f : Bucket → Bucket) (s : State) : State :=
  { s with reduce := { s.reduce with buckets := Tbl.put s.reduce.buckets i (f (s.bucket i)) } }

def State.order (s : State) (g : Nat) : Order := Tbl.at s.reduce.orders g {}

def modOrder (g : Nat) (f : Order → Order) (s : State) : State :=
  { s with reduce := { s.reduce with orders := Tbl.put s.reduce.orders g (f (s.order g)) } }

def State.det (s : State) (p : Nat) : Det := Tbl.at s.dets p {}

def modDet (p : Nat) (f : Det → Det) (s : State) : State :=
  { s with dets := Tbl.put s.dets p (f (s.det p)) }

def State.port (s : State) (i : Nat) : Port := s.ports.getD i {}

def modPort (i : Nat) (f : Port → Port) (s : State) : State :=
  { s with ports := setAt s.ports i (f (s.port i)) }

/-- The offset of CTX_STATE of a context (08 R369, 14 R570). -/
def offCtx (p c : Nat) : Nat := 0x10100 + 0x1000 * p + 8 * c

/-- The context is PARTING or PARTED. -/
def State.gone (s : State) (p c : Nat) : Bool :=
  (s.ctx p c).st == .parting || (s.ctx p c).st == .parted

/-! ### Faults (13 R547 to R551) -/

/-- Parting begins: the context enters PARTING, and the rest follows in this step (08 R363 step 1). A context that is
already PARTING or PARTED is not parted again (08 R362, 13 R554). `tell` says that this instance has decided it and
tells the others (08 R362). -/
def beginPartWith (tell : Bool) (p c fault : Nat) (s : State) : State :=
  if s.gone p c then s
  else
    s |> modCtx p c (fun x => { x with st := .parting, fault := fault, partings := wrapAdd x.partings 1 32 })
      |> later (.part p c fault tell)

/-- This instance decides to part a context. -/
def beginPart (p c fault : Nat) (s : State) : State := beginPartWith true p c fault s

/-- Part every context of a partition (13 R547, class PARTITION). -/
def beginPartAll (p fault : Nat) (s : State) : State :=
  (s.ctxsOf p).foldl (fun s c => beginPart p c fault s) s

/-- A ledger entry is raised: it is numbered when the hc ends (13 R550). -/
def enter (fault src p c scope detail : Nat) (transient : Bool) (s : State) : State :=
  let e : FaultEntry :=
    { value := fault, partition := p, context := c, scope := scope, transient := transient, source := src,
      detail := detail % 2 ^ 32, time := s.us % 2 ^ 32 }
  { s with faults := { s.faults with unnumbered := s.faults.unnumbered ++ [e] } }

/-- Nothing but the ledger hears of the fault: it is raised against a partition or context that the image does not
configure (13 R549). -/
def State.ledgerOnly (s : State) (fault p c scope : Nat) : Bool :=
  let cls := faultClass fault
  (cls == 1 || cls == 2 || cls == 3) && (!s.partConfigured p || (scope == 1 && !s.ctxConfigured p c))

/-- Raise a fault with a given scope: enter it, and act by its class (13 R547). A fault of class PARTITION that a context's
work causes is one against the partition (log entry 57). -/
def raise (fault src p c scope detail : Nat) (s : State) : State :=
  let cls := faultClass fault
  let sc := if cls == 3 && scope == 1 then 2 else scope
  let only := s.ledgerOnly fault p c scope
  let s := enter fault src p c sc detail false s
  if cls == 4 then later .halt s
  else if only then s
  else if sc == 1 && (cls == 1 || cls == 2) then beginPart p c fault s
  else if (sc == 1 || sc == 2) && cls == 3 then beginPartAll p fault s
  else s

/-- Against a context. -/
def raiseCtx (fault src p c detail : Nat) (s : State) : State := raise fault src p c 1 detail s

/-- Against a partition. -/
def raisePart (fault src p detail : Nat) (s : State) : State := raise fault src p 0 2 detail s

/-- Against no context. -/
def raiseNone (fault src detail : Nat) (s : State) : State := raise fault src 0 0 0 detail s

/-! ### The block store (01 R46) -/

/-- What a cell of the block store reads as; an unlisted one reads 0 (01 R46, reset 0). -/
def memRead : List Host.Cell → Nat → Byte
  | [], _ => 0
  | (b, x) :: t, a => if b == a then x else memRead t a

/-- Write one byte; the list stays in canonical form (a cell of 0 is not listed). -/
def memWrite : List Host.Cell → Nat → Byte → List Host.Cell
  | [], a, v => if v == 0 then [] else [(a, v)]
  | (b, x) :: t, a, v =>
    if b == a then (if v == 0 then t else (a, v) :: t)
    else if a < b then (if v == 0 then (b, x) :: t else (a, v) :: (b, x) :: t)
    else (b, x) :: memWrite t a v

/-- The canonical form of the block store: addresses strictly rising inside 64 KiB, and no byte 0 listed. -/
def Memory.wfFrom : Nat → List Host.Cell → Bool
  | _, [] => true
  | lo, (a, v) :: t => decide (lo ≤ a) && decide (a < 0x10000) && v != 0 && Memory.wfFrom (a + 1) t

/-- The block store is in canonical form. -/
def Memory.wf (m : List Host.Cell) : Bool := Memory.wfFrom 0 m

/-- `n` bytes of the store from `a`, as one number. -/
def storeRead (m : List Host.Cell) (a n : Nat) : Nat :=
  (List.range n).foldl (fun acc i => acc + (memRead m (a + i)).toNat * 2 ^ (8 * i)) 0

/-- Write `n` bytes of a number at `a`. Bytes outside the 64 KiB do not exist and are not written. -/
def storeWrite (m : List Host.Cell) (a n bits : Nat) : List Host.Cell :=
  (List.range n).foldl
    (fun m i => if a + i < 0x10000 then memWrite m (a + i) (BitVec.ofNat 8 (fld bits (8 * i) 8)) else m) m

/-! ### The bed controller (12 R492 to R495, 13 R549) -/

/-- The offset of BED_STATUS (12 R528). -/
def offBedStatus := 0x1050

/-- The bytes that exist for this build's bed requests (12 R495; 01 R46 for the block store). -/
def State.winBase (s : State) : Nat := if s.hasBed then s.bedBase else 0
def State.winTop (s : State) : Nat := if s.hasBed then s.bedBase + s.bedSize else 0x10000

/-- The bytes lie inside the bed window (12 R495; 01 R46). -/
def State.inWindow (s : State) (addr len : Nat) : Bool := decide (s.winBase ≤ addr) && decide (addr + len ≤ s.winTop)

/-- The bytes of a span that lie inside the bed window: first byte and length. -/
def State.clip (s : State) (addr len : Nat) : Nat × Nat :=
  (max addr s.winBase, min (addr + len) s.winTop - max addr s.winBase)

/-- How many granules a span touches. -/
def granulesIn (addr len : Nat) : Nat := if len == 0 then 0 else (addr + len - 1) / 64 - addr / 64 + 1

/-- A write of the granule has not been accepted (12 R494). -/
def State.writingGranule (s : State) (g : Nat) : Bool :=
  s.bed.writes.any (fun w => w.2.addr / 64 == g) ||
    s.bed.writeWait.any (fun w => decide (w.addr / 64 ≤ g) && decide (g ≤ (w.addr + w.data.len - 1) / 64))

/-- Order of reads that wait for the port: edge granules, then unseasoned fetches, then the rest, then seasoning (02 R72). -/
def readRank (w : ReadFor) : Nat :=
  match w with
  | .edge _ _ => 0 | .desc _ _ => 1 | .pred _ _ => 1 | .season _ _ => 3 | _ => 2

/-- The first granule of what is to be read, and the rest. -/
def BedRead.head (r : BedRead) : BedRead := { r with len := min r.len (64 - r.addr % 64) }
def BedRead.rest (r : BedRead) : List BedRead :=
  let n := 64 - r.addr % 64
  if r.len ≤ n then [] else [{ r with addr := r.addr + n, len := r.len - n, off := r.off + n }]

/-- The same of what is to be written. -/
def BedWrite.head (w : BedWrite) : BedWrite := { w with data := blobSlice w.data 0 (min w.data.len (64 - w.addr % 64)) }
def BedWrite.rest (w : BedWrite) : List BedWrite :=
  let n := 64 - w.addr % 64
  if w.data.len ≤ n then [] else [{ w with addr := w.addr + n, data := blobSlice w.data n (w.data.len - n) }]

/-- Show a read request on bed_ (12 R492). -/
def showRead (tag : Nat) (r : BedRead) (s : State) : State := emit (.bedRead tag (r.addr / 64) r.part r.sys r.qos) s

/-- Show a write on bed_ (12 R492). -/
def showWrite (tag : Nat) (w : BedWrite) (s : State) : State :=
  let o := w.addr % 64
  emit (.bedWrite tag (w.addr / 64) (BitVec.ofNat 512 (w.data.bits * 2 ^ (8 * o))) ((2 ^ w.data.len - 1) * 2 ^ o) w.part w.sys
    w.qos) s

/-- Put a read of one granule on bed_ under a tag. -/
def startRead (tag : Nat) (r : BedRead) (s : State) : State :=
  let s := { s with bed := { s.bed with reads := Tbl.put s.bed.reads tag r } }
  if s.hasBed then showRead tag r s else s

/-- The first read that waits behind no write of its granule: its first granule, and the reads that wait then (12 R494). -/
def State.pickRead (s : State) : List BedRead → Option (BedRead × List BedRead)
  | [] => none
  | r :: rest =>
    if s.writingGranule (r.addr / 64) then (s.pickRead rest).map (fun e => (e.1, r :: e.2)) else some (r.head, r.rest ++ rest)

/-- Reads that wait go out, granule by granule, under the lowest free tags (12 R494). -/
def drainReads : Nat → State → State
  | 0, s => s
  | k + 1, s =>
    match Tbl.lowestFree s.bed.reads 512, s.pickRead s.bed.readWait with
    | some tag, some (r, l) => drainReads k (startRead tag r { s with bed := { s.bed with readWait := l } })
    | _, _ => s

/-- Reads that wait go out as far as tags, writes and the clock allow. -/
def moreReads (s : State) : State := if s.power.stopped then s else drainReads 512 s

/-- The requests for spans that are read together, as far as they lie inside the window. -/
def State.spanReads (s : State) (r : BedRead) : List (Nat × Nat) → Nat → List BedRead
  | [], _ => []
  | (a, n) :: rest, off =>
    let (lo, m) := s.clip a n
    (if m == 0 then [] else [{ r with addr := lo, len := m, off := off + (lo - a) }]) ++ s.spanReads r rest (off + n)

/-- Read spans of bytes, as one transfer. A granule outside the window is not requested, and fails (12 R495). -/
def issueReads (why : ReadFor) (spans : List (Nat × Nat)) (p c : Nat) (sys : Bool) (s : State) : State :=
  let bad := spans.any (fun e => !s.inWindow e.1 e.2)
  let rs := s.spanReads
    { why := why, part := p, ctx := c, sys := sys, qos := s.qosOf p sys, bank := s.activeBank 2, xfer := s.bed.nextXfer } spans 0
  let t : Transfer :=
    { addr := (spans.headD (0, 0)).1, len := (spans.map (·.2)).foldl (· + ·) 0, bad := bad
      left := (rs.map (fun r => granulesIn r.addr r.len)).foldl (· + ·) 0 }
  let s := { s with bed := { s.bed with
    nextXfer := s.bed.nextXfer + 1, windowErr := s.bed.windowErr || bad
    readXfers := if t.left == 0 then s.bed.readXfers else Tbl.put s.bed.readXfers s.bed.nextXfer t
    readWait := rs.foldl (fun l r => insertBy (fun a b => readRank a.why ≤ readRank b.why) r l) s.bed.readWait } }
  let s := if bad then noteBit offBedStatus 20 s |> later (.readFailed why p c) else s
  moreReads (wakeUp swBed s)

/-- Read one span of bytes. -/
def issueRead (why : ReadFor) (addr len p c : Nat) (sys : Bool) (s : State) : State := issueReads why [(addr, len)] p c sys s

/-- Put a write of one granule on bed_ under a tag. -/
def startWrite (tag : Nat) (w : BedWrite) (s : State) : State :=
  showWrite tag w { s with bed := { s.bed with writes := Tbl.put s.bed.writes tag w } }

/-- Writes that wait go out in order, granule by granule, under the lowest free tags (12 R494). -/
def drainWrites : Nat → State → State
  | 0, s => s
  | k + 1, s =>
    match Tbl.lowestFree s.bed.writes 512, s.bed.writeWait with
    | some tag, w :: rest =>
      drainWrites k (startWrite tag w.head { s with bed := { s.bed with writeWait := w.rest ++ rest } })
    | _, _ => s

/-- Writes that wait go out as far as tags and the clock allow. -/
def moreWrites (s : State) : State := if s.power.stopped then s else drainWrites 512 s

/-- Write bytes, as one transfer. A granule outside the window is not written, and fails (12 R495). In a build without a bed port
they reach the block store at once, without error (01 R46). -/
def issueWrite (why : WriteFor) (addr : Nat) (data : Blob) (p c : Nat) (sys : Bool) (s : State) : State :=
  let bad := !s.inWindow addr data.len
  let (lo, n) := s.clip addr data.len
  let part := blobSlice data (lo - addr) n
  let s := wakeUp swBed { s with bed := { s.bed with windowErr := s.bed.windowErr || bad } }
  let s := if bad then noteBit offBedStatus 20 s |> later (.writeDone why p c false) else s
  if !s.hasBed then
    let s := { s with store := storeWrite s.store lo n part.bits }
    if bad then s else later (.writeDone why p c true) s
  else if n == 0 then if bad then s else later (.writeDone why p c true) s
  else
    let w : BedWrite :=
      { addr := lo, data := part, why := why, part := p, ctx := c, sys := sys, qos := s.qosOf p sys, bank := s.activeBank 2
        xfer := s.bed.nextXfer }
    moreWrites { s with bed := { s.bed with
      nextXfer := s.bed.nextXfer + 1, writeWait := s.bed.writeWait ++ [w]
      writeXfers := Tbl.put s.bed.writeXfers s.bed.nextXfer { addr := addr, len := data.len, left := granulesIn lo n, bad := bad } } }

/-- A bed request that succeeded on its second issue (13 R549, R551): counted, and entered as a transient failure where
the partition's POLICY says so. -/
def bedRetried (fault p c : Nat) (sys : Bool) (s : State) : State :=
  let s := { s with bed := { s.bed with retried := satInc s.bed.retried 0xFFFF } }
  if !sys && s.policyTransient p then enter fault srcBed p c 1 0 true s else s

/-- What a bed response means to its owner. -/
inductive Reply where
  /-- Nothing yet: the request was issued once more, other granules are still to come, or the owner knows of a failure. -/
  | more (s : State)
  /-- The last granule came: the transfer and its bytes. -/
  | got (r : BedRead) (data : Nat) (s : State)
  /-- A request failed for good, the first of its transfer. -/
  | failed (r : BedRead) (s : State)

/-- The bytes of a granule that a read asked for; in a build without a bed port they are the block store's (01 R46). -/
def State.readPart (s : State) (r : BedRead) (g : Granule) : Nat :=
  if s.hasBed then fld g.toNat (8 * (r.addr % 64)) (8 * r.len) else storeRead s.store r.addr r.len

/-- The transfer of a read, when its granule has come, or has failed. -/
def State.xferThen (s : State) (r : BedRead) (g : Granule) (bad : Bool) : Transfer :=
  let t := Tbl.at s.bed.readXfers r.xfer {}
  { t with left := t.left - 1, data := t.data + s.readPart r g * 2 ^ (8 * r.off), bad := t.bad || bad }

/-- The read of a tag has come to an end: the tag is free again, and its transfer is a granule further (12 R494). -/
def endRead (tag : Nat) (r : BedRead) (t : Transfer) (s : State) : State :=
  moreReads { s with bed := { s.bed with
    reads := Tbl.del s.bed.reads tag
    readXfers := if t.left == 0 then Tbl.del s.bed.readXfers r.xfer else Tbl.put s.bed.readXfers r.xfer t } }

/-- Take a read response (13 R549): the first failure is issued again, the second is reported. -/
def takeRead (tag : Nat) (r : BedRead) (g : Granule) (err : Bool) (s : State) : Reply :=
  let err := err && s.hasBed
  if err && !r.retried then
    .more (showRead tag r { s with bed := { s.bed with reads := Tbl.put s.bed.reads tag { r with retried := true } } })
  else
    let t := s.xferThen r g err
    let told := (Tbl.at s.bed.readXfers r.xfer {}).bad
    let s := endRead tag r t s
    let s := if r.retried && !err then bedRetried fltBedRead r.part r.ctx r.sys s else s
    if err && !told then .failed r s
    else if t.left == 0 && !t.bad then .got { r with addr := t.addr, len := t.len } t.data s
    else .more s

/-! ### Stopping -/

/-- A step's answer. -/
abbrev Result := Host.Outcome State Fault Refusal

/-- The command names an event that does not occur in this state, for the reason given: nothing happens (log entry 62). -/
def noEvent (_why : String) (s : State) : Result := .next { s with outs := [] }

/-- A functional command begins: with the functional state undefined it stops (12 R505); in reset or halted nothing
moves (12 R502, 13 R548); else the ports start empty and the order counter advances. -/
def functional (s : State) (k : State → Result) : Result :=
  if s.wrapper.undefined then .fault .stateUndefined
  else if s.power.inReset || s.power.phase == 5 then .next { s with outs := [] }
  else k { s with outs := [], clock := s.clock + 1 }

/-- An event of a sapwood unit, or at its ports: it does not come while no sapwood domain can run (12 R501; 13 R532). -/
def sapwood (s : State) (k : State → Result) : Result :=
  functional s fun s => if s.power.stopped then noEvent "no sapwood domain can run" s else k s

/-- A timer that has fallen due is a request to its domain (13 R531). What it does there follows when it is told again, once
domains can run (log entry 75). -/
def timerDue (d : Nat) (s : State) (k : State → Result) : Result :=
  if s.power.stopped then .next (wakeUp d s) else k (wakeUp d s)

end Sys2Proof.Machine
end

