-- ==== Sys2Proof/Machine/Link.lean ====
section
/-!
DEFINITION. The Isaic link (12 R507 to R523, 08 R354 to R356): building flits, queueing messages, sending them
flit by flit against credits, acknowledging, and the reception of a flit.
-/
namespace Sys2Proof.Machine

/-- The place of a class in the lists of sequence numbers (12 R513): classes 0, 1, 2, 3, 5. -/
def classIdx (cls : Nat) : Nat := if cls == 5 then 4 else cls

/-- The credit table's key of a pool and virtual channel; control task credits are apart (08 R354). -/
def creditKey (pool vc : Nat) (task : Bool) : Nat := pool * 8 + vc + (if task then 4 else 0)

def poolSystem := 127
def poolNone := 255

/-- The build has the port (01 R44). -/
def State.hasPort (s : State) (x : Nat) : Bool :=
  if x == 0 then s.build.parentPorts == 1 else decide (x ≤ 8) && s.childPorts == 8

/-- TREE_ROLE names the port as connected (11 R431, 01 R23). -/
def State.connected (s : State) (x : Nat) : Bool :=
  s.hasPort x && s.hasRole && bit s.census x && !(s.face.role == 3 && x == 1)

/-- The root's parent port, toward the integrator's bridge (12 R518). -/
def State.isBridge (s : State) (x : Nat) : Bool := x == 0 && s.isRoot

/-- The path that the partner on a port has (01 R32, 12 R517). -/
def State.partnerPath (s : State) (x : Nat) : List Nat :=
  if x == 0 then s.face.path.dropLast else s.face.path ++ [x - 1]

/-- The CREDIT record of the partner's receive side of the link on port `x`; the bridge has none, and the instance's
own record of that port stands for it (log entry 10). -/
def State.creditRec (s : State) (x : Nat) : Option Rec :=
  if s.isBridge x then s.recAt tyCredit 0 0
  else
    let own := s.face.path
    let port := if x == 0 then 1 + own.getLast?.getD 0 else 0
    findRec s.image.recs (pathCode (s.partnerPath x)) tyCredit port 0

/-- The credits of a port at their image values (08 R354, R366 step 2; 11 R432). -/
def State.imageCredits (s : State) (x : Nat) : Tbl Nat :=
  match s.creditRec x with
  | none => []
  | some r =>
    let sys := (List.range 4).map (fun vc => (creditKey poolSystem vc false, r.u (16 + 2 * vc) 2))
    let part := (List.range 64).flatMap (fun p =>
      let b := 24 + 8 * p
      [(creditKey p 0 false, r.u b 1), (creditKey p 1 false, r.u (b + 2) 2), (creditKey p 2 false, r.u (b + 4) 2),
        (creditKey p 3 false, r.u (b + 6) 2), (creditKey p 0 true, r.u (b + 1) 1)])
    (part ++ sys).filter (fun e => e.2 != 0)

/-- LINK_STATE.state is UP (or it is UP and in L1, or retraining): messages may be queued. -/
def State.portUp (s : State) (x : Nat) : Bool := (s.port x).state == 3 || (s.port x).state == 4

/-! ### Flits -/

/-- A route word from an instance (12 R520). -/
def routeWord (src dest p : Nat) (sys : Bool) : Nat :=
  put dest 0 15 + put src 22 15 + put p 37 6 + put (flag sys) 43 1

/-- A route word (12 R520). -/
def State.route (s : State) (dest p : Nat) (sys : Bool) : Nat := routeWord s.selfCode dest p sys

/-- A route word through the bridge (12 R520). -/
def State.bridgeRoute (s : State) (pkg p : Nat) : Nat :=
  put 1 15 1 + put pkg 16 6 + put s.selfCode 22 15 + put p 37 6

/-- First-flit content: up to 56 bytes and the route word in bytes 63:56. -/
def routed (content route : Nat) : Granule := BitVec.ofNat 512 (content % 2 ^ 448 + route * 2 ^ 448)

def routeOf (f : Granule) : Nat := fld f.toNat 448 64
def routeDest (f : Granule) : Nat := fld (routeOf f) 0 15
def routeBridge (f : Granule) : Bool := bit (routeOf f) 15
def routePkg (f : Granule) : Nat := fld (routeOf f) 16 6
def routeSrc (f : Granule) : Nat := fld (routeOf f) 22 15
def routePart (f : Granule) : Nat := fld (routeOf f) 37 6

/-- The acknowledgement fields of ACK and NAK: the last number accepted in order, by class (12 R513). -/
def State.ackContent (s : State) (x : Nat) : Granule :=
  BitVec.ofNat 512 ((List.range 5).foldl
    (fun acc i => acc + put ((s.port x).rx.getD i 0 + 0xFFFF) (16 * i) 16) 0)

/-- One bit through the CRC-16 register: polynomial 0x1021 (12 R508). -/
def flitCrcBit (c : Nat) (b : Bool) : Nat :=
  if bit c 15 != b then (c * 2 % 65536) ^^^ 0x1021 else c * 2 % 65536

/-- One byte, most significant bit first. -/
def flitCrcByte (c v : Nat) : Nat := [7, 6, 5, 4, 3, 2, 1, 0].foldl (fun c i => flitCrcBit c (bit v i)) c

/-- The CRC of a flit: content bytes 0 to 63, then envelope bits 7:0 and 15:8, from 0xFFFF on (12 R508). -/
def flitCrc (content low : Nat) : Nat :=
  [fld low 0 8, fld low 8 8].foldl flitCrcByte ((List.range 64).foldl (fun c k => flitCrcByte c (fld content (8 * k) 8)) 0xFFFF)

/-- The envelope of a flit: class, bits 4:0 of its sequence number, kind, CRC (12 R508). -/
def envelope (cls seq kind : Nat) (content : Granule) : BitVec 32 :=
  let low := put cls 0 3 + put seq 3 5 + put kind 8 8
  BitVec.ofNat 32 (low + put (flitCrc content.toNat low) 16 16)

/-- A received flit is right: its CRC is, and a sequenced one carries the next expected number of its class (12 R510). -/
def State.flitRight (s : State) (x : Nat) (env : BitVec 32) (content : Granule) : Bool :=
  let e := env.toNat
  let cls := fld e 0 3
  fld e 16 16 == flitCrc content.toNat (fld e 0 16)
    && (decide (4 ≤ cls) && cls != 5 || fld e 3 5 == (s.port x).rx.getD (classIdx cls) 0 % 32)

/-- A flit leaves on a port (12 R507). -/
def emitFlit (x cls seq kind : Nat) (content : Granule) (s : State) : State :=
  emit (.flit x (envelope cls seq kind content) content) s

/-- Send an ACK (class 4, neither sequenced nor held; 12 R509, R511). -/
def sendAck (x : Nat) (s : State) : State :=
  s |> emitFlit x 4 0 0x40 (s.ackContent x) |> modPort x (fun p => { p with unacked := 0 })

/-- Send a NAK (12 R511). -/
def sendNak (x : Nat) (s : State) : State :=
  s |> emitFlit x 4 0 0x41 (s.ackContent x) |> modPort x (fun p => { p with unacked := 0, lastBusy := s.power.heart })

/-! ### Sending -/

/-- Queue a message on a port; a port in L1 is asked back to active (12 R515). -/
def sendOn (x : Nat) (m : TxMsg) (s : State) : State :=
  if s.hasPort x then
    s |> modPort x (fun p => { p with queue := p.queue ++ [m], pmReq := false })
      |> wakeUp swLink |> later (.transmit x)
  else s

/-- Send toward an instance by the routing of 12 R521. -/
def sendTo (dest : Nat) (m : TxMsg) (s : State) : State :=
  match s.nextHop dest with
  | some x => sendOn x m s
  | none => s

/-- The content of a CREDIT flit that returns up to 31 × 63 credits of one pool, in entries of at most 63 (12 R513). -/
def creditContent (key n : Nat) : Granule :=
  let entry (k : Nat) := put (key % 8) 0 3 + put (key / 8) 3 7 + put k 10 6
  let entries := List.replicate (n / 63) (entry 63) ++ (if n % 63 == 0 then [] else [entry (n % 63)])
  BitVec.ofNat 512 ((List.range entries.length).foldl
    (fun acc e => acc + put (entries.getD e 0) (16 + 16 * e) 16) (entries.length))

/-- Return credits to the partner on a port by CREDIT flits, as many as it takes (08 R356, 12 R513). -/
def creditBack (x key n : Nat) (s : State) : State :=
  let flit (k : Nat) : TxMsg := { cls := 5, pool := poolNone, kind := 0x50, content := creditContent key k }
  let flits := List.replicate (n / 1953) (flit 1953) ++ (if n % 1953 == 0 then [] else [flit (n % 1953)])
  flits.foldl (fun s m => sendOn x m s) s

/-- The port may send a flit of a message now: it is active, the message is one that the port's state lets through
(12 R517, R518), and the replay buffer has room (12 R510). -/
def State.mayCarry (s : State) (x : Nat) (m : TxMsg) : Bool :=
  let p := s.port x
  p.isl == 1 && !p.replayAll && decide (p.replay.length < 256) &&
    (p.state == 3 || m.cls == 5 || m.kind == 0x20)

/-- The message's pool has a credit for one flit (08 R355). -/
def State.hasCredit (s : State) (x : Nat) (m : TxMsg) : Bool :=
  m.pool == poolNone || decide (0 < Tbl.at (s.port x).credits (creditKey m.pool m.cls m.task) 0)

/-- The first queued message, as its index, that can send its next flit: a message in progress occupies its class (12 R516),
and a message without a credit holds up no other pool (08 R355). -/
def State.pickMsg (s : State) (x : Nat) : Option Nat :=
  let q := (s.port x).queue
  (List.range q.length).find? (fun i =>
    match q[i]? with
    | none => false
    | some m =>
      s.mayCarry x m && s.hasCredit x m &&
        (decide (0 < m.sent) || !q.any (fun o => o.cls == m.cls && decide (0 < o.sent))))

/-- Put one sequenced flit on the port and into its replay buffer (12 R508 to R510). -/
def sendFlit (x cls kind : Nat) (content : Granule) (s : State) : State :=
  let seq := (s.port x).tx.getD (classIdx cls) 0
  s |> emitFlit x cls seq kind content
    |> modPort x (fun p =>
      { p with
        tx := setAt p.tx (classIdx cls) (wrapAdd seq 1 16)
        replay := p.replay ++ [{ cls := cls, seq := seq, kind := kind, content := content }]
        lastBusy := s.power.heart })

/-- A message has gone out: the credits of a forwarded one return (08 R356), and a remote request of this instance is counted
(06 R271, R284). -/
def messageSent (m : TxMsg) (s : State) : State :=
  match m.back with
  | some (y, k) => creditBack y k m.flits s
  | none =>
    if m.kind == 0x10 then { s with sync := { s.sync with remoteSent := wrapAdd s.sync.remoteSent 1 64 } } else s

/-- Send the next flit of message `i`. A continuation flit that carries bytes of bed memory carries a free value, since no
command brings those bytes into the model (log entry 11); the last one is padded with 0 (09 R389). -/
def sendNext (x i : Nat) (s : State) : State :=
  match (s.port x).queue[i]? with
  | none => s
  | some m =>
    let key := creditKey m.pool m.cls m.task
    let (content, s) :=
      if m.sent == 0 then (m.content, s)
      else
        match m.span with
        | none => (BitVec.ofNat 512 (blobSlice m.payload (64 * (m.sent - 1)) 64).bits, s)
        | some (_, bytes) =>
          let head := ceilDiv m.payload.len 64
          if m.sent ≤ head then (BitVec.ofNat 512 (blobSlice m.payload (64 * (m.sent - 1)) 64).bits, s)
          else
            let (v, s) := takeFree (8 * min 64 (bytes - 64 * (m.sent - 1 - head))) s
            (BitVec.ofNat 512 v, s)
    let s := sendFlit x m.cls (if m.sent == 0 then m.kind else 0) content s
    let s := modPort x (fun p =>
      { p with
        credits := if m.pool == poolNone then p.credits else Tbl.put p.credits key (Tbl.at p.credits key 0 - 1)
        queue :=
          if m.flits ≤ m.sent + 1 then p.queue.eraseIdx i
          else setAt p.queue i { m with sent := m.sent + 1 } }) s
    if m.flits ≤ m.sent + 1 then messageSent m s else s

/-- Send flits while any can go. -/
def transmitLoop : Nat → Nat → State → State
  | 0, _, s => s
  | n + 1, x, s =>
    match s.pickMsg x with
    | none => s
    | some i => transmitLoop n x (sendNext x i s)

/-- The channel whose send a message of this instance is (07 R298): that of a MESSAGE, or of a segment header's exchange. -/
def State.sendsFor (s : State) (m : TxMsg) : Option Nat :=
  if routeSrc m.content != s.selfCode then none
  else if m.kind == 0x11 then some (fld m.content.toNat 43 12)
  else if m.kind == 0x12 then some (s.recU tyExchange (fld m.content.toNat 304 8) 0 22 2)
  else none

/-- Count the channel sends of this instance that wait for a credit, each once (07 R329, CHAN_STALLS). -/
def countStalls (x : Nat) (s : State) : State :=
  let q := (s.port x).queue
  (List.range q.length).foldl
    (fun s i =>
      match q[i]? with
      | none => s
      | some m =>
        match s.sendsFor m with
        | some ch =>
          if m.stalled || s.hasCredit x m then s
          else
            s |> modPort x (fun p => { p with queue := setAt p.queue i { m with stalled := true } })
              |> modChan ch (fun c => { c with stalls := wrapAdd c.stalls 1 64 })
        | none => s) s

/-- The work of a port: send what can be sent. -/
def transmit (x : Nat) (s : State) : State := countStalls x (transmitLoop 256 x s)

/-! ### Replay (12 R511, R512) -/

/-- REPLAY_BEGIN, and every flit still in the buffer, in the original order (12 R512). -/
def replayBuffer (x : Nat) (s : State) : State :=
  let s := emitFlit x 4 0 0x42 0 s
  let s := (s.port x).replay.foldl (fun s f => emitFlit x f.cls f.seq f.kind f.content s) s
  s |> modPort x (fun p => { p with replays := satInc p.replays 0xFFFF, replayAll := false, lastBusy := s.power.heart })
    |> later (.transmit x)

/-- The port asks for retraining, and replays its whole buffer once it is active again (12 R512, R523). -/
def retrainPort (x : Nat) (s : State) : State :=
  s |> emit (.retrain x)
    |> modPort x (fun p => { p with retrains := satInc p.retrains 0xFF, replayAll := true, naks := 0 })

/-- The live bit of a port (01 R35): a combined instance's bit 0 is its own leaf function. -/
def setLive (x : Nat) (up : Bool) (s : State) : State :=
  { s with
    face := { s.face with
      parentLive := if x == 0 then up else s.face.parentLive
      childLive :=
        if x == 0 || (x == 1 && s.face.role == 3) then s.face.childLive
        else if up then setBit s.face.childLive (x - 1) else clearBit s.face.childLive (x - 1) } }

/-! ### Admission (12 R517) -/

/-- Content of an ADMIT flit. -/
def State.admitContent (s : State) (x : Nat) (reply accept : Bool) : Granule :=
  BitVec.ofNat 512
    (put 0x00030001 0 32 + put s.face.role 32 8 + put x 40 8 + put s.selfCode 48 16
      + put (flag reply + 2 * flag accept) 64 8 + put s.image.digest 128 256
      + put s.image.census 384 64 + put s.image.epoch 448 32)

/-- Send an ADMIT. -/
def sendAdmit (x : Nat) (reply accept : Bool) (s : State) : State :=
  sendOn x { cls := 1, pool := poolSystem, kind := 0x20, content := s.admitContent x reply accept } s

/-- A port that is active, with a role held, begins admission, with the credits of the image; the root's bridge port comes up at
once (12 R517, R518; 08 R354). Its sequence numbers go on: they start only as it enters the active state (12 R509). -/
def beginAdmission (x : Nat) (s : State) : State :=
  let s := modPort x (fun p =>
    { p with
      credits := s.imageCredits x, queue := [], replayAll := false, naks := 0, ours := none, theirs := none
      lastRx := s.power.heart, lastBusy := s.power.heart }) s
  if s.isBridge x then
    if s.connected x then s |> modPort x (fun p => { p with state := 3, lost := false }) |> later .start
    else modPort x (fun p => { p with state := 1 }) s
  else
    s |> modPort x (fun p => { p with state := 2 }) |> sendAdmit x false false

/-! ### Receiving -/

/-- A sequenced flit of a class is accepted on a port; every 32nd is acknowledged at once (12 R510, R511, R514). -/
def acceptFlit (x cls : Nat) (s : State) : State :=
  let s := modPort x (fun p =>
    { p with
      rx := setAt p.rx (classIdx cls) (wrapAdd (p.rx.getD (classIdx cls) 0) 1 16)
      unacked := p.unacked + 1
      lastRx := s.power.heart
      lastBusy := s.power.heart }) s
  if 32 ≤ (s.port x).unacked then sendAck x s else s

/-- The flits of a message are accepted, one after the other. -/
def accepted (x cls : Nat) : Nat → State → State
  | 0, s => s
  | n + 1, s => accepted x cls n (acceptFlit x cls s)

/-- A flit of any class restarts the link timer (12 R514). -/
def touched (x : Nat) (s : State) : State :=
  modPort x (fun p => { p with lastRx := s.power.heart }) s

/-- A flit other than ACK also ends the idleness before L1 (12 R515). -/
def busied (x : Nat) (s : State) : State :=
  modPort x (fun p => { p with lastRx := s.power.heart, lastBusy := s.power.heart }) s

/-- Flits are discarded by the receiver, and counted (12 R511, R525). -/
def discarded (x n : Nat) (s : State) : State :=
  modPort x (fun p =>
    { p with crcErr := min 0xFFFF (p.crcErr + n), lastRx := s.power.heart, lastBusy := s.power.heart }) s

/-- Reception of a message of `n` flits and a class on a port: the port must exist, be active and UP; a receiver that
waits for REPLAY_BEGIN discards the flits (12 R511). -/
def onFlit (x cls n : Nat) (s : State) (k : State → Result) : Result :=
  if !s.hasPort x || (s.port x).isl != 1 || (s.port x).state != 3 then
    noEvent "a message on a port that is not UP" s
  else if s.isBridge x && cls != 3 then noEvent "the bridge carries only REDUCE" s
  else if (s.port x).waiting then .next (discarded x n s)
  else k (accepted x cls n s)

/-- A remote request toward a lost subtree is dropped and counted (08 R366 step 5). -/
def loseRemote (p : Nat) (s : State) : State := modSlice p (fun v => { v with remoteLost := wrapAdd v.remoteLost 1 64 }) s

/-- Forward a message that is not for this instance, one output class at a time (12 R521, R522). The credit of its input
returns once it is sent on, or once a remote request that a lost link keeps from going on is dropped (08 R366 step 5). -/
def forward (x dest : Nat) (m : TxMsg) (s : State) : State :=
  match s.nextHop dest with
  | none => s
  | some y =>
    if m.kind == 0x10 && (s.port y).lost then
      (if y == 0 then s else loseRemote m.pool s) |> creditBack x (creditKey m.pool m.cls false) m.flits
    else sendOn y { m with back := some (x, creditKey m.pool m.cls false) } s

end Sys2Proof.Machine
end

