-- ==== Sys2Proof/Machine/HostQ.lean ====
section
/-!
DEFINITION. The completion and event host queues of a partition (07 R318 to R324), and the FAULT events and
numbering of the fault ledger (13 R550, R551).
-/
namespace Sys2Proof.Machine

/-- The header of a record (07 R319). -/
def recordHeader (seq type p c : Nat) (lost : Bool) : Nat :=
  put seq 0 32 + put type 32 8 + put p 40 6 + put c 46 5 + put (flag lost) 51 1

/-- Ring base and log2 size (07 R318, 11 R438). -/
def State.ringBase (s : State) (p : Nat) (evt : Bool) : Nat :=
  fld (s.recU tyHostq p 0 (if evt then 32 else 16) 8) 0 52
def State.ringLog (s : State) (p : Nat) (evt : Bool) : Nat :=
  s.recU tyHostq p 0 (if evt then 40 else 24) 1

/-- The address of record `seq` (07 R318). -/
def State.ringAddr (s : State) (p : Nat) (evt : Bool) (seq : Nat) : Nat :=
  s.ringBase p evt + 64 * (seq % 2 ^ s.ringLog p evt)

/-- The partition has host queues here. -/
def State.hasHostq (s : State) (p : Nat) : Bool := s.isHome p && (s.recAt tyHostq p 0).isSome

/-- A ring has room for record `seq` (07 R321). -/
def State.ringRoom (s : State) (p : Nat) (evt : Bool) (seq acked : Nat) : Bool :=
  decide (sub32 seq acked ≤ 2 ^ s.ringLog p evt)

/-! ### Events -/

/-- An event record is dropped (07 R322). -/
def dropEvent (p : Nat) (s : State) : State :=
  modHostq p (fun h => { h with drops := wrapAdd h.drops 1 64, lost := true }) s

/-- Write an event record at the home: `body` is the record without seq and lost (07 R321, R322). A partition without
a HOSTQ record has no event ring and the event goes nowhere (log entry 12). -/
def putEvent (p body : Nat) (s : State) : State :=
  if !s.hasHostq p then s
  else
    let h := s.hostq p
    let seq := h.evtSeq
    let s := modHostq p (fun h => { h with evtSeq := wrapAdd seq 1 32 }) s
    if s.ringRoom p true seq h.evtAcked then
      let bits := body + put seq 0 32 + put (flag h.lost) 51 1
      s |> modHostq p (fun h => { h with lost := false, evtWriting := h.evtWriting ++ [seq] })
        |> issueWrite (.hostq p true seq) (s.ringAddr p true seq) ⟨64, bits⟩ p (fld body 46 5) false
    else dropEvent p s

/-- Report an event of a partition: here, or by an EVENT flit to the home (12 R519). -/
def sendEvent (type p c body : Nat) (s : State) : State :=
  let bits := recordHeader 0 type p c false + body
  if !s.partConfigured p then s
  else if s.isHome p then putEvent p bits s
  else sendTo (s.homeCode p) { cls := 1, pool := p, kind := 0x21, content := BitVec.ofNat 512 bits } s

/-! ### Completion records -/

/-- HOSTQ_STATUS.cpl_full: a completion record waits for room in the ring, for its repeated write, or behind a record that has
failed (07 R321, R330). -/
def State.cplWaits (s : State) (p : Nat) : Bool :=
  let h := s.hostq p
  (h.failed && (h.retryAt.isSome || !h.waiting.isEmpty)) || (!h.waiting.isEmpty && !s.ringRoom p false h.cplSeq h.cplAcked)

/-- Judge cpl_full. -/
def judgeCpl (p : Nat) (s : State) : State :=
  let full := s.cplWaits p
  modHostq p (fun h => { h with cplFull := full }) s

/-- Write the next completion record when the ring and the records before it allow (07 R321). -/
def pumpHostq (p : Nat) (s : State) : State :=
  let h := s.hostq p
  match h.waiting, h.writing with
  | body :: rest, none =>
    if s.ringRoom p false h.cplSeq h.cplAcked then
      let bits := body + put h.cplSeq 0 32
      s |> modHostq p (fun h =>
            { h with
              writing := some (h.cplSeq, bits), waiting := rest, cplSeq := wrapAdd h.cplSeq 1 32, failed := false })
        |> issueWrite (.hostq p false h.cplSeq) (s.ringAddr p false h.cplSeq) ⟨64, bits⟩ p (fld body 46 5) false
        |> judgeCpl p
    else judgeCpl p s
  | _, _ => judgeCpl p s

/-- A completion record, without its seq, joins the others. A partition without a HOSTQ record has no ring (log entry 12). -/
def putCompletion (p body : Nat) (s : State) : State :=
  if !s.hasHostq p then s
  else s |> modHostq p (fun h => { h with waiting := h.waiting ++ [body] }) |> pumpHostq p

/-- A record's granule is accepted: produced takes its number (07 R321). -/
def producedRecord (p : Nat) (evt : Bool) (seq : Nat) (s : State) : State :=
  if evt then
    modHostq p (fun h => { h with evtProduced := seq, evtWriting := h.evtWriting.filter (· != seq) }) s
  else
    s |> modHostq p (fun h => { h with cplProduced := seq, writing := none, retryAt := none, failed := false })
      |> pumpHostq p

/-- A record's write failed twice: entered once for the record, against no context; a completion record is written
again after 64 hc, an event record is dropped (07 R321, R322). -/
def failedRecord (p : Nat) (evt : Bool) (seq : Nat) (s : State) : State :=
  if evt then
    s |> modHostq p (fun h => { h with evtWriting := h.evtWriting.filter (· != seq) })
      |> raiseNone fltBedWrite srcBed 0 |> dropEvent p
  else
    let s := if (s.hostq p).failed then s else raiseNone fltBedWrite srcBed 0 s
    s |> modHostq p (fun h => { h with retryAt := some s.power.heart, failed := true }) |> pumpHostq p

/-! ### The fault ledger -/

/-- The 128 bits of an entry (13 R550). -/
def FaultEntry.bits (e : FaultEntry) : Nat :=
  put e.value 0 16 + put e.partition 16 6 + put e.context 22 5 + put e.scope 27 2 + put (flag e.transient) 29 1
    + put e.source 32 4 + put e.seq 48 16 + put e.detail 64 32 + put e.time 96 32

/-- FAULT_SEL shows an entry of the ledger, when it holds it (13 R558). -/
def showFault (s : State) : State :=
  match s.faults.ledger.find? (fun e => e.seq == s.faults.selSeq) with
  | some e =>
    { s with faults := { s.faults with selValid := true, entry0 := fld e.bits 0 64, entry1 := fld e.bits 64 64 } }
  | none => { s with faults := { s.faults with selValid := false, entry0 := 0, entry1 := 0 } }

/-- Number one entry and put it into the ledger; the oldest of 1,024 is overwritten (13 R550). -/
def numberEntry (e : FaultEntry) (s : State) : State :=
  let f := s.faults
  let seq := wrapAdd f.lastSeq 1 16
  let full := decide (1024 ≤ f.ledger.length)
  { s with
    faults := { f with
      ledger := (if full then f.ledger.drop 1 else f.ledger) ++ [{ e with seq := seq }]
      lastSeq := seq
      empty := false
      overwritten := if full then satInc f.overwritten 0xFFFFFFFF else f.overwritten
      raised := wrapAdd f.raised 1 64 } }

/-- The FAULT events of a numbered entry (13 R551, R548); none for a fault that only the ledger hears of (13 R549). -/
def faultEvents (e : FaultEntry) (s : State) : State :=
  let body := e.bits * 2 ^ 64
  let cls := faultClass e.value
  if s.ledgerOnly e.value e.partition e.context e.scope then s
  else if e.scope == 1 || e.scope == 2 then
    if e.transient || s.policyClass e.partition cls then sendEvent 20 e.partition e.context body s else s
  else if e.scope == 3 && cls == 4 then
    s.parts.foldl
      (fun s p => if s.isHome p && s.policyClass p 4 then sendEvent 20 p e.context body s else s) s
  else s

/-- The hc ends: its entries are numbered in ascending source, in the order each source raised them (13 R550). -/
def numberFaults (s : State) : State :=
  let es := sortBy (fun a b => a.source ≤ b.source) s.faults.unnumbered
  let s := { s with faults := { s.faults with unnumbered := [] } }
  showFault (es.foldl
    (fun s e =>
      let s := numberEntry e s
      faultEvents { e with seq := s.faults.lastSeq } s) s)

end Sys2Proof.Machine
end

