-- ==== Sys2Proof/Machine/Slices.lean ====
section
/-!
DEFINITION. Which contexts run: eligibility of slice classes, the running class, and what a context holds
(08 R335 to R340, R357, R358; 02 R80).
-/
namespace Sys2Proof.Machine

/-- The vgroup marks a task that is never placed on an engine (02 R88). -/
def neverPlaced (vgroup : Nat) : Bool := decide (0xFFFB ≤ vgroup) && decide (vgroup ≤ 0xFFFE)

/-- The task is a gouge task; it runs whatever class runs (08 R350, R351; log entry 13). -/
def isGouge (x : Slot) : Bool :=
  match x.role with
  | .gouge _ _ _ => true
  | _ => false

/-- The task belongs to the bring-in launch of its context (08 R335). -/
def State.ofBringIn (s : State) (x : Slot) : Bool :=
  match (s.ctx x.part x.ctx).bringIn, x.launch with
  | some b, some l => b == l
  | _, _ => false

/-- The context's state lets the task be selected (08 R335). -/
def State.ctxAllows (s : State) (x : Slot) : Bool :=
  match (s.ctx x.part x.ctx).st with
  | .resident => true
  | .arriving => s.ofBringIn x
  | _ => false

/-- The semaphores on which a context has a hold count above 0 (08 R357). -/
def State.heldSems (s : State) (p c : Nat) : List Sem :=
  (s.sync.sems.filter (fun e => e.2.part == p && e.2.shared && decide (0 < (Tbl.at e.2.holds c (0, 0)).1))).map (·.2)

/-- The context holds a shared semaphore (08 R357). -/
def State.holding (s : State) (p c : Nat) : Bool := !(s.heldSems p c).isEmpty

/-- The highest ceiling among the objects a context holds (08 R358). -/
def State.ceilingOf (s : State) (p c : Nat) : Nat := (s.heldSems p c).foldl (fun m x => max m x.ceiling) 0

/-- Some context of the class holds a shared semaphore (08 R358). -/
def State.classHolds (s : State) (p k : Nat) : Bool :=
  (s.ctxsOf p).any (fun c => s.ctxClass p c == k && s.holding p c)

/-- A class is eligible (08 R337): a context of it has a task READY or ISSUED that its state allows. -/
def State.eligible (s : State) (p k : Nat) : Bool :=
  s.tasks.slots.any (fun e =>
    let x := e.2
    x.part == p && (x.st == .ready || x.st == .issued) && s.ctxClass p x.ctx == k && s.ctxAllows x)

/-- The classes in the order of preference behind a reference class: ascending, wrapping from 7 to 0 (08 R338). -/
def classOrder (ref : Nat) : List Nat := (List.range 8).map (fun i => (ref + 1 + i) % 8)

/-- The eligible class of highest priority; among equals the next one after the reference class (08 R338). -/
def State.bestClass (s : State) (p ref : Nat) : Option Nat :=
  leastBy (fun a b => decide (s.classPrio p b < s.classPrio p a)) ((classOrder ref).filter (s.eligible p))

/-- A class starts to run: its quantum starts, and the change is counted (08 R339, R372). -/
def startClass (p k : Nat) (preempt : Bool) (s : State) : State :=
  modSlice p (fun v =>
    { v with
      running := some k, last := k, since := s.power.heart, deferred := false
      switches := wrapAdd v.switches 1 64
      preempts := wrapAdd v.preempts (flag preempt) 64 }) s

/-- The eligible class that follows the running one at the same priority (08 R338). -/
def State.peerClass (s : State) (p k : Nat) : Option Nat :=
  ((classOrder k).filter (fun j => j != k && s.eligible p j && s.classPrio p j == s.classPrio p k)).head?

/-- Judge the running class of a partition (08 R338, R358): a stop of eligibility, which counts as a change also when no class
follows (08 R372), a pre-emption, a deferred switch, which
ends when nothing asks for it any more. -/
def judgeSlice (p : Nat) (s : State) : State :=
  let v := s.slice p
  match v.running with
  | none =>
    match s.bestClass p v.last with
    | some k => startClass p k false s
    | none => s
  | some r =>
    if !s.eligible p r then
      match s.bestClass p r with
      | some k => startClass p k false s
      | none =>
        modSlice p (fun v => { v with running := none, deferred := false, switches := wrapAdd v.switches 1 64 }) s
    else
      match s.bestClass p r with
      | some k =>
        if s.classPrio p r < s.classPrio p k then
          if s.classHolds p r then modSlice p (fun v => { v with deferred := true }) s
          else startClass p k true s
        else if !v.deferred then s
        else if s.power.heart < v.since + 100 * s.quantumUs p then modSlice p (fun v => { v with deferred := false }) s
        else
          match s.peerClass p r with
          | some j => if s.classHolds p r then s else startClass p j false s
          | none => modSlice p (fun v => { v with deferred := false }) s
      | none => s

/-- Every partition's running class (08 R336: each instance takes its decisions on its own). -/
def judgeSlices (s : State) : State := s.parts.foldl (fun s p => judgeSlice p s) s

/-- The epoch of a task is newer than the committed one, modulo 256 (02 R80, 11 R453). -/
def State.newerEpoch (s : State) (epoch : Nat) : Bool :=
  let d := (epoch + 256 - s.image.epoch % 256) % 256
  decide (0 < d) && decide (d < 128)

/-- The partition's work has started at this instance and the instance runs (13 R540 step 6). -/
def State.started (s : State) (p : Nat) : Bool := s.power.phase == 4 && s.ctxs.started.contains p

/-- A READY task may be selected: its context allows it, its class runs, and its epoch is not newer than the committed
one (02 R77, R80; 08 R335, R336). -/
def State.maySelect (s : State) (x : Slot) : Bool :=
  s.started x.part && !s.newerEpoch x.epoch && s.ctxAllows x &&
    (isGouge x || (s.slice x.part).running == some (s.ctxClass x.part x.ctx))

end Sys2Proof.Machine
end

