-- ==== Sys2Proof/Machine/SyncFabric.lean ====
section
/-!
DEFINITION. The synchronisation fabric (06): the request layout, the checks, semaphores, barriers, waiter entries
and wake wires, the debug records and the dump; and what parting and restore do to the objects (08 R363 to R365).
-/
namespace Sys2Proof.Machine

/-! ### Requests (06 R246) -/

/-- A synchronisation request, field by field. -/
structure SyncReq where
  op          : Nat
  kind        : Bool
  object      : Nat
  n           : Nat
  participant : Nat
  part        : Nat
  ctx         : Nat
  dest        : Nat
  destValid   : Bool
  generation  : Nat
  requester   : Nat
  src         : Nat
deriving DecidableEq, Repr, Inhabited

/-- The request in a 128-bit word (06 R246). -/
def syncReqOf (w : Nat) : SyncReq :=
  { op := fld w 0 4, kind := bit w 4, object := fld w 5 16, n := fld w 21 8, participant := fld w 29 10
    part := fld w 39 6, ctx := fld w 45 5, dest := fld w 50 15, destValid := bit w 65
    generation := fld w 66 32, requester := fld w 98 10, src := fld w 108 15 }

/-- The word of a request that goes over the link, with the fields that the block fills in (06 R246, R271). -/
def SyncReq.word (r : SyncReq) : Nat :=
  put r.op 0 4 + put (flag r.kind) 4 1 + put r.object 5 16 + put r.n 21 8 + put r.participant 29 10
    + put r.part 39 6 + put r.ctx 45 5 + put r.dest 50 15 + put (flag r.destValid) 65 1
    + put r.generation 66 32 + put r.requester 98 10 + put r.src 108 15

/-- An answer: resp, fault, value (06 R247). -/
structure SyncAns where
  resp  : Nat := 0
  fault : Nat := 0
  value : Nat := 0
deriving DecidableEq, Repr, Inhabited

def respDone := 0
def respGranted := 1
def respSleep := 2
def respRefused := 3
def respFault := 4

def idRemote := 1022
def idHost := 1023

/-- The requester id has a wake wire in the build and may make requests (06 R245). -/
def State.hasWire (s : State) (id : Nat) : Bool :=
  decide (id < s.build.wakeEngine) || (decide (512 ≤ id) && decide (id < 512 + s.build.wakeCore))

/-- Detail of a ledger entry of the fabric: kind in bit 16, object below (13 R550). -/
def SyncReq.detail (r : SyncReq) : Nat := r.object + put (flag r.kind) 16 1

/-- A request answered FAULT with a value; the fault is raised against the context it names (06 R247, R251). -/
def syncFaultAt (value fault : Nat) (r : SyncReq) (s : State) : SyncAns × State :=
  ({ resp := respFault, fault := fault, value := value }, raiseCtx fault srcSync r.part r.ctx r.detail s)

/-- A request that fails a check, before it comes to an object's value. -/
def syncFault (fault : Nat) (r : SyncReq) (s : State) : SyncAns × State := syncFaultAt 0 fault r s

/-- A pulse on a wake wire (06 R263, R284). -/
def pulse (id : Nat) (s : State) : State :=
  emit (.wake id) { s with sync := { s.sync with wakes := wrapAdd s.sync.wakes 1 64 } }

/-- A requester is woken (06 R263). While `clk_fast` is stopped the wires are 0: the pulse comes when it runs (12 R491). -/
def wakeWire (id : Nat) (s : State) : State :=
  if s.hasWire id then (if s.power.stopped then later (.wake id) s else pulse id s) else s

/-! ### Hold counts (08 R357) -/

/-- h(c) rises by n on a shared semaphore; the time is noted when it rises above 0. -/
def holdAdd (i c n : Nat) (s : State) : State :=
  if (s.sem i).shared then
    modSem i (fun x =>
      let (h, t) := Tbl.at x.holds c (0, 0)
      { x with holds := Tbl.put x.holds c (h + n, if h == 0 then s.power.heart else t) }) s
  else s

/-- h(c) falls by n, never below 0. -/
def holdSub (i c n : Nat) (s : State) : State :=
  modSem i (fun x =>
    let (h, t) := Tbl.at x.holds c (0, 0)
    { x with holds := if h ≤ n then Tbl.del x.holds c else Tbl.put x.holds c (h - n, t) }) s

/-! ### Grants (06 R254 to R256) -/

/-- A grant made while two or more waiters are queued on an order-sensitive object is counted (06 R256, 10 R412, R421). -/
def countGrant (x : Sem) (s : State) : State :=
  if x.ordered && decide (2 ≤ x.queue.length) then
    modDet x.part (fun d =>
      if d.det then { d with hazard := wrapAdd d.hazard 1 64 } else { d with nondet := wrapAdd d.nondet 1 64 }) s
  else s

/-- Grant the waiter at the head of a semaphore's queue (06 R254). -/
def grantHead (i id : Nat) (s : State) : State :=
  let x := s.sem i
  let w := s.waiter id
  s |> countGrant x
    |> modSem i (fun x => { x with value := x.value - w.n, granted := x.granted + w.n, queue := x.queue.drop 1 })
    |> setWaiter id { w with state := 2 }
    |> holdAdd i w.ctx w.n
    |> wakeWire id

/-- Examine the queue from its head and grant until the first waiter whose n exceeds the value (06 R254). -/
def grantQueue : Nat → Nat → State → State
  | 0, _, s => s
  | k + 1, i, s =>
    match (s.sem i).queue with
    | [] => s
    | id :: _ => if (s.waiter id).n ≤ (s.sem i).value then grantQueue k i (grantHead i id s) else s

/-- Examine the whole queue of a semaphore. -/
def examine (i : Nat) (s : State) : State := grantQueue (s.sem i).queue.length i s

/-- The units of a pending grant come back and its entry is NONE (06 R255). -/
def returnUnits (id : Nat) (s : State) : State :=
  let w := s.waiter id
  s |> modSem w.object (fun x => { x with value := x.value + w.n, granted := x.granted - w.n })
    |> holdSub w.object w.ctx w.n
    |> setWaiter id {}
    |> (fun s => { s with sync := { s.sync with returned := wrapAdd s.sync.returned 1 64 } })

/-- A pending grant returns (06 R255): its units come back, and the queue is examined. -/
def returnGrant (id : Nat) (s : State) : State := s |> returnUnits id |> examine (s.waiter id).object

/-- The semaphore whose queue a WAITING entry heads: it is examined when the entry leaves (06 R254). -/
def State.leavesHead (s : State) (id : Nat) : Option Nat :=
  let w := s.waiter id
  if w.state == 1 && w.kind == 0 && (s.sem w.object).queue.head? == some id then some w.object else none

/-- A WAITING entry is taken out of its queue (06 R262). -/
def dropWaiter (id : Nat) (s : State) : State :=
  let w := s.waiter id
  let s := setWaiter id {} s
  if w.state != 1 then s
  else if w.kind == 0 then modSem w.object (fun x => { x with queue := x.queue.filter (· != id) }) s
  else modBar w.object (fun x => { x with queue := x.queue.filter (· != id) }) s

/-- A WAITING entry leaves its queue without a grant; a semaphore whose head left is examined (06 R254, R262). -/
def leaveQueue (id : Nat) (s : State) : State :=
  match s.leavesHead id with
  | some i => s |> dropWaiter id |> examine i
  | none => dropWaiter id s

/-- The wait and acquire state of a requester is cleared (06 R268, R269): no wake pulse. -/
def clearWaiter (id : Nat) (s : State) : State :=
  match (s.waiter id).state with
  | 1 => leaveQueue id s
  | 2 => returnGrant id s
  | _ => s

/-! ### Operations -/

/-- The answer of an applied request, counted (06 R284). -/
def applied (resp value : Nat) (s : State) : SyncAns × State :=
  ({ resp := resp, fault := 0, value := value },
    { s with
      sync := { s.sync with
        requests := wrapAdd s.sync.requests 1 64
        sleeps := wrapAdd s.sync.sleeps (if resp == respSleep then 1 else 0) 64 } })

/-- The taint of a shared semaphore clears at the first WAIT, TRY or TAKE of another context (08 R364). -/
def seeTaint (r : SyncReq) (s : State) : State :=
  let x := s.sem r.object
  if x.tainted && x.taintCtx != r.ctx then
    s |> modSem r.object (fun x => { x with tainted := false })
      |> modSlice x.part (fun v => { v with taintSeen := wrapAdd v.taintSeen 1 64 })
  else s

/-- Queue a requester on a semaphore: at the tail, or in ascending requester id under DET=1 (06 R256). -/
def queueWaiter (id : Nat) (r : SyncReq) (s : State) : State :=
  s |> modSem r.object (fun x =>
        { x with
          queue := if s.detOf x.part then insertBy (fun a b => decide (a ≤ b)) id x.queue else x.queue ++ [id] })
    |> setWaiter id { state := 1, kind := 0, object := r.object, n := r.n, ctx := r.ctx, gen := 0 }

/-- SIGNAL (06 R252, R253). The value answered is the one after the grant made in the same fc (06 R265, log entry 14). -/
def semSignal (id : Nat) (r : SyncReq) (s : State) : SyncAns × State :=
  let x := s.sem r.object
  if x.max < x.value + x.granted + r.n then syncFaultAt x.value fltSemOverflow r s
  else
    let s := s |> modSem r.object (fun x => { x with value := x.value + r.n, lastSig := id, lastSrc := r.src })
               |> holdSub r.object r.ctx r.n
    let value := (grantQueue 1 r.object s).sem r.object |>.value
    applied respDone value (examine r.object s)

/-- WAIT (06 R252, R254, R255, R262). A WAIT that queues the requester removes its earlier registration; when that one
headed a queue, the queue is examined with the requester queued again. -/
def semWait (id : Nat) (r : SyncReq) (s : State) : SyncAns × State :=
  let w := s.waiter id
  if w.state == 1 && w.kind == 0 && w.object == r.object && w.n == r.n then
    applied respSleep (s.sem r.object).value (seeTaint r s)
  else
    let s := seeTaint r s
    let x := s.sem r.object
    if r.n ≤ x.value && x.queue.isEmpty then
      let s := s |> modSem r.object (fun x => { x with value := x.value - r.n }) |> holdAdd r.object r.ctx r.n
      applied respGranted (x.value - r.n) s
    else
      let left := s.leavesHead id
      let s := s |> dropWaiter id |> queueWaiter id r
      applied respSleep x.value (match left with
        | some i => examine i s
        | none => s)

/-- TRY (06 R252). -/
def semTry (r : SyncReq) (s : State) : SyncAns × State :=
  let s := seeTaint r s
  let x := s.sem r.object
  if r.n ≤ x.value && x.queue.isEmpty then
    let s := s |> modSem r.object (fun x => { x with value := x.value - r.n }) |> holdAdd r.object r.ctx r.n
    applied respGranted (x.value - r.n) s
  else applied respRefused x.value s

/-- TAKE (06 R252, R253). -/
def semTake (r : SyncReq) (s : State) : SyncAns × State :=
  let x := s.sem r.object
  if x.value < r.n then syncFaultAt x.value fltSemUnderflow r s
  else
    let s := seeTaint r s
    let s := s |> modSem r.object (fun x => { x with value := x.value - r.n }) |> holdAdd r.object r.ctx r.n
    applied respDone (x.value - r.n) s

/-- The participant an arrival counts for (06 R258). `child` is the child port the request came in on, if any. -/
def State.participant (s : State) (id : Nat) (child : Option Nat) (r : SyncReq) : Option Nat :=
  if r.participant == 0x3FF then
    match child with
    | some i => some i
    | none => if id < 512 then s.virtOf s.mapBank id else none
  else some r.participant

/-- A generation completes (06 R260): the bitmaps shift, and its waiters are released in ascending requester id. -/
def completeGen (i : Nat) (s : State) : State :=
  let x := s.bar i
  let freed := sortBy (fun a b => decide (a ≤ b)) (x.queue.filter (fun id => (s.waiter id).gen == x.gen))
  let s := modBar i (fun x =>
    { x with
      gen := wrapAdd x.gen 1 32, cur := x.next, next := 0, tainted := false
      queue := x.queue.filter (fun id => !freed.contains id) }) s
  freed.foldl (fun s id => s |> setWaiter id {} |> wakeWire id) s

/-- An arrival (06 R258 to R260): the generation it counted toward and whether that generation completed, or a fault. -/
def arriveAt (id : Nat) (child : Option Nat) (r : SyncReq) (s : State) :
    (Nat × Bool × State) ⊕ (SyncAns × State) :=
  let x := s.bar r.object
  match s.participant id child r with
  | none => .inr (syncFault fltBarrierMember r s)
  | some q =>
    if !bit x.members q then .inr (syncFault fltBarrierMember r s)
    else if bit x.cur q && bit x.next q then .inr (syncFault fltBarrierLap r s)
    else
      let first := !bit x.cur q
      let s := modBar r.object (fun x =>
        { x with
          cur := if first then setBit x.cur q else x.cur
          next := if first then x.next else setBit x.next q
          lastArr := id, lastPart := q, lastSrc := r.src }) s
      let full := popCount (s.bar r.object).cur 512 == popCount x.members 512
      if first && full then .inl (x.gen, true, completeGen r.object s)
      else .inl (if first then x.gen else wrapAdd x.gen 1 32, false, s)

/-- Queue a requester on a barrier for a generation (06 R261, R262). -/
def queueBarrier (id gen : Nat) (r : SyncReq) (s : State) : State :=
  let w := s.waiter id
  if w.state == 1 && w.kind == 1 && w.object == r.object && w.gen == gen then s
  else
    let s := if w.state == 1 then leaveQueue id s else s
    s |> modBar r.object (fun x => { x with queue := x.queue ++ [id] })
      |> setWaiter id { state := 1, kind := 1, object := r.object, n := 0, ctx := r.ctx, gen := gen }

def barArrive (id : Nat) (child : Option Nat) (r : SyncReq) (s : State) : SyncAns × State :=
  match arriveAt id child r s with
  | .inr f => f
  | .inl (g, _, s) => applied respDone g s

def barArriveWait (id : Nat) (r : SyncReq) (s : State) : SyncAns × State :=
  match arriveAt id none r s with
  | .inr f => f
  | .inl (g, done, s) => if done then applied respGranted g s else applied respSleep g (queueBarrier id g r s)

def barBwait (id : Nat) (r : SyncReq) (s : State) : SyncAns × State :=
  let g := (s.bar r.object).gen
  let d := sub32 g r.generation
  if 1 ≤ d && d ≤ 0x80000000 then applied respGranted g s
  else applied respSleep g (queueBarrier id r.generation r s)

/-! ### Checks (06 R251, R270) -/

/-- The fields of an object that the checks read: configured, remote, partition, context, shared. -/
def State.objectOf (s : State) (r : SyncReq) : Bool × Bool × Nat × Nat × Bool :=
  if r.kind then
    let x := s.bar r.object
    (decide (r.object < s.build.barriers) && x.configured, x.remote, x.part, x.ctx, x.shared)
  else
    let x := s.sem r.object
    (decide (r.object < s.build.semaphores) && x.configured, x.remote, x.part, x.ctx, x.shared)

/-- The first check (06 R251). -/
def badOp (id : Nat) (r : SyncReq) : Bool :=
  decide (8 < r.op)
    || (decide (r.op ≤ 3) && (r.n == 0 || r.kind))
    || (decide (4 ≤ r.op) && decide (r.op ≤ 6) && !r.kind)
    || (decide (idRemote ≤ id) && !(r.op == 0 || r.op == 3 || r.op == 4 || r.op == 8))

/-- The first failing check of a request, if one fails (06 R251). -/
def State.syncCheck (s : State) (id : Nat) (r : SyncReq) : Option Nat :=
  let (conf, remote, part, ctx, shared) := s.objectOf r
  if badOp id r then some fltSyncOp
  else if r.op == 7 then none
  else if !conf then some fltSyncObject
  else if id == idRemote && !remote then some fltSyncRemote
  else if part != r.part || (!shared && ctx != r.ctx) then some fltSyncAccess
  else none

/-- The object is private and its owner context is being parted or parted: it is frozen (08 R363 step 4). -/
def State.frozen (s : State) (r : SyncReq) : Bool :=
  let (_, _, part, ctx, shared) := s.objectOf r
  !shared && s.gone part ctx

/-- The value a READ answers: a semaphore's value, a barrier's generation (06 R247, R252). -/
def State.readValue (s : State) (r : SyncReq) : Nat :=
  if r.kind then (s.bar r.object).gen else (s.sem r.object).value

/-- A pending grant of the requester is consumed by the same WAIT; any other request returns it first (06 R255). -/
def settleGrant (id : Nat) (r : SyncReq) (s : State) : Bool × State :=
  let w := s.waiter id
  if w.state == 2 then
    if r.op == 1 && w.object == r.object && w.n == r.n then (true, s) else (false, returnGrant id s)
  else (false, s)

/-- SWITCH releases the window that a BORROW of the requester reserved (08 R351, R368). -/
def releaseWindow (id : Nat) (s : State) : State :=
  let mine := s.ctxs.windows.filter (fun w => w.src == id)
  if mine.isEmpty then s
  else
    { s with ctxs := { s.ctxs with windows := s.ctxs.windows.filter (fun w => w.src != id) } }
      |> laters (mine.map (fun w => Job.gouge w.core))

/-- Apply a request that has passed its checks (06 R252, R255, R261, R268). -/
def syncApply (id : Nat) (child : Option Nat) (r : SyncReq) (s : State) : SyncAns × State :=
  let (consumed, s) := settleGrant id r s
  if consumed then
    let w := s.waiter id
    let s := seeTaint r s |> modSem w.object (fun x => { x with granted := x.granted - w.n }) |> setWaiter id {}
    applied respGranted (s.sem r.object).value s
  else
    match r.op with
    | 0 => semSignal id r s
    | 1 => semWait id r s
    | 2 => semTry r s
    | 3 => semTake r s
    | 4 => barArrive id child r s
    | 5 => barArriveWait id r s
    | 6 => barBwait id r s
    | 7 =>
      let s := if (s.waiter id).state == 1 then leaveQueue id s else s
      applied respDone 0 (releaseWindow id s)
    | _ => applied respDone (s.readValue r) s

/-- A send whose payload is still being read (07 R290). -/
def State.stillReading (s : State) (m : Nat × Nat) : Bool :=
  (s.chan m.1).sends.any (fun x => x.seq == m.2 && !x.sent && !x.writing && x.resendAt.isNone && x.payload.isNone)

/-- Sends of a partition toward a next hop that a remote request must not pass (06 R272; 07 R300). -/
def State.sendsAhead (s : State) (p hop : Nat) : List (Nat × Nat) :=
  s.queues.chans.flatMap (fun e =>
    if s.recU tyChannel e.1 0 17 1 == p && s.nextHop (fld (s.recU tyChannel e.1 0 22 2) 0 15) == some hop then
      ((e.2.sends.map (fun m => (e.1, m.seq))).filter s.stillReading)
    else [])

/-- A remote request leaves for its target (06 R270, R271), or is dropped where its link is lost, which is counted toward a child
(08 R366 step 5). -/
def sendRemote (dest p : Nat) (flit : Granule) (s : State) : State :=
  match s.nextHop dest with
  | none => s
  | some x =>
    if !s.connected x then s
    else if !(s.port x).lost then sendOn x { cls := 2, pool := p, kind := 0x10, content := flit } s
    else if x == 0 then s
    else loseRemote p s

/-- A request whose target is another instance is sent there (06 R270 to R272); it too returns a pending grant of its
requester (R255). -/
def syncSend (id : Nat) (r : SyncReq) (s : State) : SyncAns × State :=
  if !badOp id r && ((r.op == 0 && !r.kind) || (r.op == 4 && r.kind && r.participant != 0x3FF)) then
    let s := (settleGrant id r s).2
    let r' := { r with requester := id, src := s.selfCode }
    let flit : Granule := BitVec.ofNat 512 r'.word
    let ahead := match s.nextHop r.dest with
      | some x => s.sendsAhead r.part x
      | none => []
    let s :=
      match ahead with
      | [] => sendRemote r.dest r.part flit s
      | ms => { s with sync := { s.sync with remoteOut := s.sync.remoteOut ++ [{ flit := flit, behind := ms }] } }
    ({ resp := respDone, fault := 0, value := 0 }, s)
  else syncFault fltSyncOp r s

/-- The request's target is another instance (06 R246, R270). -/
def State.remoteReq (s : State) (r : SyncReq) : Bool := r.destValid && r.dest != s.selfCode

/-- The block fills in where a local request came from (06 R246). -/
def State.sourced (s : State) (id : Nat) (r : SyncReq) : SyncReq := if id == idRemote then r else { r with src := s.selfCode }

/-- Handle a request of requester `id` (06 R251, R270; 08 R363 step 4 for frozen objects). -/
def syncHandle (id : Nat) (child : Option Nat) (r : SyncReq) (s : State) : SyncAns × State :=
  let r := s.sourced id r
  if id != idRemote && s.remoteReq r then syncSend id r s
  else
    match s.syncCheck id r with
    | some f => syncFault f r s
    | none =>
      if r.op != 7 && s.frozen r then
        let s := (settleGrant id r s).2
        if r.op == 8 then applied respDone (s.readValue r) s
        else ({ resp := respRefused, fault := 0, value := s.readValue r }, s)
      else
        let (a, s) := syncApply id child r s
        if id == idRemote && a.resp != respFault then
          (a, { s with sync := { s.sync with remoteApplied := wrapAdd s.sync.remoteApplied 1 64 } })
        else (a, s)

/-- A request at a lane: it is answered on its lane (06 R247). -/
def syncLane (id : Nat) (r : SyncReq) (s : State) : State :=
  let (a, s) := syncHandle id none r s
  emit (.response 0 id a.resp a.fault a.value) s

/-- A request of SYNC_HOST_OP: it is answered in SYNC_HOST_RESULT (06 R247, R282). -/
def syncHost (w : Nat) (s : State) : State :=
  let r := syncReqOf (fld w 0 50)
  let (a, s) := syncHandle idHost none r s
  { s with
    sync := { s.sync with hostValue := a.value, hostResp := a.resp, hostFault := a.fault, hostDone := true } }

/-! ### Initial values (06 R278) and parting (08 R363 step 4, R365) -/

/-- A semaphore as its record gives it (11 R440). -/
def semOfRec (r : Rec) : Sem :=
  { value := r.u 24 4, max := r.u 20 4, part := r.u 16 1, ctx := r.u 17 1
    shared := bit (r.u 18 1) 0, remote := bit (r.u 18 1) 1, ordered := bit (r.u 18 1) 2
    ceiling := fld (r.u 19 1) 0 4, configured := true }

/-- A barrier as its record gives it (11 R440). -/
def State.barOfRec (s : State) (r : Rec) : Bar :=
  { mask := r.u 20 2, members := s.recU tyMask (r.u 20 2) 0 16 64, part := r.u 16 1, ctx := r.u 17 1
    shared := bit (r.u 18 1) 0, remote := bit (r.u 18 1) 1, configured := true }

/-- Every object takes its initial value (06 R278). -/
def initObjects (s : State) : State :=
  { s with
    sync := { s.sync with
      sems := (s.recsOf tySemaphore).foldl (fun t r => Tbl.put t r.key0 (semOfRec r)) []
      bars := (s.recsOf tyBarrier).foldl (fun t r => Tbl.put t r.key0 (s.barOfRec r)) []
      waiters := [] } }

/-- The objects of the named partitions take their initial values; others keep theirs (11 R461). -/
def initObjectsOf (ps : List Nat) (s : State) : State :=
  let keepS := s.sync.sems.filter (fun e => !ps.contains e.2.part)
  let keepB := s.sync.bars.filter (fun e => !ps.contains e.2.part)
  { s with
    sync := { s.sync with
      sems := ((s.recsOf tySemaphore).filter (fun r => ps.contains (r.u 16 1))).foldl
        (fun t r => Tbl.put t r.key0 (semOfRec r)) keepS
      bars := ((s.recsOf tyBarrier).filter (fun r => ps.contains (r.u 16 1))).foldl
        (fun t r => Tbl.put t r.key0 (s.barOfRec r)) keepB } }

/-- The partition of the object that a waiter entry names. -/
def State.waiterPart (s : State) (w : Waiter) : Nat :=
  if w.kind == 0 then (s.sem w.object).part else (s.bar w.object).part

/-- Parting step 4 for waiter entries (08 R363): all are set to NONE without a pulse and their pending grants returned; then
waiters of other contexts are granted. -/
def partWaiters (p c : Nat) (s : State) : State :=
  let mine := s.sync.waiters.filter (fun e => e.2.state != 0 && e.2.ctx == c && s.waiterPart e.2 == p)
  let sems := dedup ((mine.filter (fun e => e.2.kind == 0)).map (·.2.object))
  let s := mine.foldl (fun s e => if e.2.state == 2 then returnUnits e.1 s else dropWaiter e.1 s) s
  sems.foldl (fun s i => examine i s) s

/-- Parting step 4 for shared objects: a semaphore takes back what the context holds, both kinds are tainted (08 R363). -/
def partObjects (p c : Nat) (s : State) : State :=
  let sems := (s.sync.sems.filter (fun e => e.2.part == p && e.2.shared)).map (·.1)
  let s := sems.foldl
    (fun s i =>
      s |> modSem i (fun x =>
            { x with
              value := min x.max (x.value + (Tbl.at x.holds c (0, 0)).1)
              holds := Tbl.del x.holds c, tainted := true, taintCtx := c })
        |> examine i) s
  let bars := (s.sync.bars.filter (fun e => e.2.part == p && e.2.shared)).map (·.1)
  bars.foldl (fun s i => modBar i (fun x => { x with tainted := true }) s) s

/-- Restore: the context's private objects take their initial values again (08 R365). -/
def restoreObjects (p c : Nat) (s : State) : State :=
  let s := (s.recsOf tySemaphore).foldl
    (fun s r =>
      let x := semOfRec r
      if x.part == p && x.ctx == c && !x.shared then modSem r.key0 (fun _ => x) s else s) s
  (s.recsOf tyBarrier).foldl
    (fun s r =>
      let x := s.barOfRec r
      if x.part == p && x.ctx == c && !x.shared then modBar r.key0 (fun _ => x) s else s) s

/-! ### Debug records and the dump (06 R275 to R277) -/

def headId (q : List Nat) : Nat := q.head?.getD 0x3FF
def tailId (q : List Nat) : Nat := q.getLast?.getD 0x3FF

/-- The semaphore record (06 R275). -/
def Sem.record (x : Sem) : Nat :=
  put x.value 0 32 + put x.max 32 32 + put x.granted 64 18 + put x.part 82 6 + put x.ctx 88 5
    + put (flag x.shared) 93 1 + put (flag x.remote) 94 1 + put (flag x.tainted) 95 1
    + put (flag x.configured) 96 1 + put (flag x.ordered) 97 1 + put (headId x.queue) 98 10
    + put (tailId x.queue) 108 10 + put x.queue.length 118 10 + put x.lastSig 128 10 + put x.lastSrc 138 15

/-- The barrier record (06 R275). -/
def Bar.record (x : Bar) : Nat :=
  put x.gen 0 32 + put x.mask 32 10 + put (popCount x.members 512) 42 10 + put (popCount x.cur 512) 52 10
    + put (popCount x.next 512) 62 10 + put x.part 72 6 + put x.ctx 78 5 + put (flag x.shared) 83 1
    + put (flag x.remote) 84 1 + put (flag x.tainted) 85 1 + put (flag x.configured) 86 1
    + put (headId x.queue) 88 10 + put (tailId x.queue) 98 10 + put x.lastArr 108 10
    + put x.lastPart 118 10 + put x.lastSrc 128 15 + put x.queue.length 143 10

/-- The waiter entry (06 R275). -/
def Waiter.record (w : Waiter) : Nat :=
  put w.state 0 2 + put w.kind 2 1 + put w.object 3 16 + put w.n 19 8 + put w.ctx 27 5 + put w.gen 32 32

/-- SYNC_DBG_SEL: latch a snapshot of the selected object (06 R275, R280); while a dump runs, of the dump's frozen state (06
R279). -/
def latchObject (s : State) : State :=
  let i := s.sync.dbgObject
  let bar := if s.sync.dumpBusy then Tbl.at s.sync.snapBars i {} else s.bar i
  let sem := if s.sync.dumpBusy then Tbl.at s.sync.snapSems i {} else s.sem i
  let (bits, conf) :=
    if s.sync.dbgKind then (bar.record, decide (i < s.build.barriers) && bar.configured)
    else (sem.record, decide (i < s.build.semaphores) && sem.configured)
  { s with sync := { s.sync with dbgData := bits, dbgValid := conf } }

/-- 2^d records of `w` bits from index `i`, one behind the other. -/
def packTree (w : Nat) (f : Nat → Nat) : Nat → Nat → Nat
  | 0, i => f i
  | d + 1, i => packTree w f d i + packTree w f d (i + 2 ^ d) * 2 ^ (w * 2 ^ d)

/-- The header of a dump (06 R277). -/
def State.dumpHeader (s : State) : Nat :=
  let b := s.build
  put 0x00030001 0 32 + put s.selfCode 32 15 + put s.power.heart 64 64 + put b.semaphores 128 32
    + put b.barriers 160 32 + put (b.wakeEngine + b.wakeCore) 192 32 + put b.maskCount 224 32
    + put b.maskBits 256 32 + put b.dumpBarOff 288 32 + put b.dumpBmpOff 320 32 + put b.dumpWaitOff 352 32
    + put b.dumpMaskOff 384 32 + put (s.sync.dumps + 1) 416 32

/-- The bytes of a dump (06 R277). -/
def State.dumpBytes (s : State) : Blob :=
  let b := s.build
  let mb := b.maskBits
  let bitmaps (i : Nat) := put (s.bar i).cur 0 mb + put (s.bar i).next mb mb
  let wires := (List.range b.wakeEngine) ++ (List.range b.wakeCore).map (· + 512)
  let waits := (List.range wires.length).foldl
    (fun acc k => acc + (s.waiter (wires.getD k 0)).record * 2 ^ (64 * k)) 0
  ⟨b.dumpSize,
    s.dumpHeader
      + packTree 256 (fun i => (s.sem i).record) (Nat.log2 b.semaphores) 0 * 2 ^ (8 * 0x40)
      + packTree 256 (fun i => (s.bar i).record) (Nat.log2 b.barriers) 0 * 2 ^ (8 * b.dumpBarOff)
      + packTree (2 * mb) bitmaps (Nat.log2 b.barriers) 0 * 2 ^ (8 * b.dumpBmpOff)
      + waits * 2 ^ (8 * b.dumpWaitOff)
      + packTree mb (fun i => fld (s.recU tyMask i 0 16 64) 0 mb) (Nat.log2 b.maskCount) 0 * 2 ^ (8 * b.dumpMaskOff)⟩

/-- SYNC_DUMP (06 R276): a dump that is misaligned or does not lie in the bed window writes nothing and sets error. -/
def startDump (addr : Nat) (s : State) : State :=
  if s.sync.dumpBusy then s
  else if addr % 4096 != 0 || !s.inWindow addr s.build.dumpSize then
    { s with sync := { s.sync with dumpError := true } }
  else
    { s with
      sync := { s.sync with dumpBusy := true, dumpError := false, snapSems := s.sync.sems, snapBars := s.sync.bars } }
      |> issueWrite .dump addr s.dumpBytes 0 0 true

end Sys2Proof.Machine
end

