-- ==== Sys2Proof/Machine/TaskUnit.lean ====
section
/-!
DEFINITION. The dependency engine, the seasoning unit and the issue unit (02): descriptors, creation, decrements,
seasoning, ready detect, selection and dispatch, completion handling, retries, timeouts and edge walks.
-/
namespace Sys2Proof.Machine

/-! ### Descriptors, packets, status records (02 R50, R94, R95) -/

/-- The 256 bits of a descriptor (02 R50). -/
def Desc.bits (d : Desc) : Nat :=
  put d.taskId 0 32 + put d.partition 32 6 + put d.context 38 5 + put d.epoch 43 8 + put d.engineClass 51 3
    + put d.prio 54 4 + put d.formatClass 58 2 + put (flag d.poison) 60 1 + put (flag d.ordered) 61 1
    + put (flag d.gang) 62 1 + put (flag d.gangEnd) 63 1 + put d.escalate 64 2 + put (flag d.skip) 66 1
    + put (flag d.pageWait) 67 1 + put d.vgroup 68 16 + put d.depCount 84 16 + put d.costCycles 100 24
    + put d.costBytes 124 24 + put d.cmdPtr 148 44 + put d.edgePtr 192 32 + put d.detKey 224 32

/-- The descriptor in 256 bits (02 R50). -/
def descOf (w : Nat) : Desc :=
  { taskId := fld w 0 32, partition := fld w 32 6, context := fld w 38 5, epoch := fld w 43 8
    engineClass := fld w 51 3, prio := fld w 54 4, formatClass := fld w 58 2, poison := bit w 60
    ordered := bit w 61, gang := bit w 62, gangEnd := bit w 63, escalate := fld w 64 2, skip := bit w 66
    pageWait := bit w 67, vgroup := fld w 68 16, depCount := fld w 84 16, costCycles := fld w 100 24
    costBytes := fld w 124 24, cmdPtr := fld w 148 44, edgePtr := fld w 192 32, detKey := fld w 224 32 }

/-- Order group and order index of a det_key (09 R380). -/
def orderGroup (d : Desc) : Nat := fld d.detKey 12 16
def orderIndex (d : Desc) : Nat := fld d.detKey 0 12

/-- The task_id of a slot: index and generation (02 R50, R55, R56). -/
def State.taskId (s : State) (slot : Nat) : Nat := put slot 0 18 + put (s.slot slot).gen 18 14

def idSlot (id : Nat) : Nat := fld id 0 18
def idGen (id : Nat) : Nat := fld id 18 14

/-- A status record (02 R95). -/
def statusRecord (taskId status : Nat) (poison subnormal : Bool) (epoch : Nat) (attempt variant : Bool) : Nat :=
  put taskId 0 32 + put status 32 8 + put (flag poison) 40 1 + put (flag subnormal) 41 1 + put epoch 42 8
    + put (flag attempt) 50 1 + put (flag variant) 51 1

/-- The dispatch packet of a task (02 R94). `gi` and `gs` are the gang index and the gang size less 1. -/
def packetOf (d : Desc) (attempt : Nat) (variant : Bool) (gi gs : Nat) : Nat :=
  put d.taskId 0 32 + put d.partition 32 6 + put d.context 38 5 + put d.epoch 43 8 + put d.engineClass 51 3
    + put (if variant then 2 else d.formatClass) 54 2 + put (flag variant) 56 1 + put attempt 57 1
    + put gi 58 2 + put gs 60 2 + put (d.cmdPtr * 256 + (if variant then 128 else 0)) 64 52

/-! ### Cache entries (02 R69 to R71, R75) -/

/-- How many descriptors the seasoning cache holds. -/
def State.cached (s : State) : Nat := (s.tasks.slots.filter (fun e => e.2.entry)).length

/-- The unpinned entry that goes first: highest live count, then lowest prio, then highest slot (02 R70). The entry of a slot
that is SEASONING, whose descriptor is still on its way, is not evicted (DESIGN CHOICE, log entry 95: R70 does not list it as
pinned). -/
def State.evictee (s : State) : Option Nat :=
  let cand := s.tasks.slots.filter (fun e => e.2.entry && e.2.st == .seasoned && decide (0 < e.2.count))
  let pr (x : Slot) : Nat := (x.desc.map (·.prio)).getD 0
  (leastBy (fun a b =>
    decide (b.2.count < a.2.count) ||
      (a.2.count == b.2.count && (decide (pr a.2 < pr b.2) || (pr a.2 == pr b.2 && decide (b.1 < a.1))))) cand).map (·.1)

/-- Room for one more descriptor in the cache, by eviction if need be; none when every entry is pinned (02 R70). A build
without a bed port holds every slot on-block (01 R45). -/
def cacheRoom (s : State) : Option State :=
  if !s.hasBed || decide (s.cached < s.build.cacheSlots) then some s
  else
    match s.evictee with
    | some i => some (modSlot i (fun x => { x with st := .pending, entry := false, desc := none }) s)
    | none => none

/-- Entries that can be taken now: free ones and those that may be evicted. -/
def State.entriesLeft (s : State) : Nat :=
  s.build.cacheSlots - s.cached
    + (s.tasks.slots.filter (fun e => e.2.entry && e.2.st == .seasoned && decide (0 < e.2.count))).length

/-- FETCHING tasks that wait for an entry. -/
def State.entriesDue (s : State) : Nat := (s.tasks.slots.filter (fun e => e.2.st == .fetching && !e.2.entry)).length

/-- An entry for a request that stands behind the FETCHING tasks that wait for one (02 R75). -/
def cacheGrant (s : State) : Option State :=
  if s.hasBed && decide (s.entriesLeft ≤ s.entriesDue) then none else cacheRoom s

/-- A seasoning request of a PENDING slot (02 R69, R70): an entry and a fetch, or it is dropped and counted. -/
def season (i : Nat) (s : State) : State :=
  let x := s.slot i
  match cacheGrant s with
  | some s =>
    s |> modSlot i (fun x => { x with st := .seasoning, entry := true })
      |> issueRead (.season i x.gen) (s.taskTable + 32 * i) 32 x.part x.ctx false
  | none => { s with tasks := { s.tasks with seasonDrop := wrapAdd s.tasks.seasonDrop 1 64 } }

/-- The partition's seasoning threshold (02 R69, R115). -/
def State.threshold (s : State) (p : Nat) : Nat := Tbl.at s.tasks.thresholds p 1

/-! ### Counts reaching zero (02 R73 to R76) -/

/-- Read the predicate word of a task with skip 1 whose input is not poisoned (02 R76, R81). -/
def readPredicate (i : Nat) (s : State) : State :=
  let x := s.slot i
  match x.skipAt with
  | some a => if x.poisonIn then s else issueRead (.pred i x.gen) a 8 x.part x.ctx false s
  | none => s

/-- Read the descriptor of a FETCHING task that holds an entry (02 R74). -/
def readDesc (i : Nat) (s : State) : State :=
  let x := s.slot i
  issueRead (.desc i x.gen) (s.taskTable + 32 * i) 32 x.part x.ctx false s

/-- A FETCHING task with its descriptor and, where it needs one, its predicate word becomes READY (02 R74, R76). -/
def maybeReady (i : Nat) (s : State) : State :=
  let x := s.slot i
  if x.st == .fetching && x.desc.isSome && (x.skipAt.isNone || x.pred.isSome || x.poisonIn) then
    s |> modSlot i (fun x => { x with st := .ready, since := s.clock }) |> later (.ready i)
  else s

/-- The count of a slot has reached 0 (02 R57, R73 to R76); an ordered task enters the ordered-combine buffer (02 R79). A cached task with skip 1 stands in FETCHING while its predicate
word is read, which the table of R57 does not show (DESIGN CHOICE, log entry 95). -/
def countZero (i : Nat) (s : State) : State :=
  let x := s.slot i
  let s := if x.ordered then later (.ready i) s else s
  match x.st with
  | .seasoned =>
    s |> modSlot i (fun x => { x with st := .fetching, warm := true, since := s.clock }) |> readPredicate i |> maybeReady i
  | .seasoning =>
    s |> modSlot i (fun x => { x with st := .fetching, since := s.clock }) |> readPredicate i
  | .pending =>
    match cacheGrant s with
    | some s =>
      s |> modSlot i (fun x => { x with st := .fetching, entry := true, since := s.clock })
        |> readDesc i |> readPredicate i
    | none => modSlot i (fun x => { x with st := .fetching, since := s.clock }) s
  | _ => s

/-- The FETCHING task that waits longest for a cache entry (02 R75). -/
def State.waitsEntry (s : State) : Option Nat :=
  (leastBy (fun a b => decide (a.2.since < b.2.since))
    (s.tasks.slots.filter (fun e => e.2.st == .fetching && !e.2.entry))).map (·.1)

/-- A decrement counts: the slot holds the task that it names, whose context is not parted, and its count is not 0 (02 R63,
R64). -/
def State.counts (s : State) (i gen : Nat) : Bool :=
  let x := s.slot i
  x.st != .free && x.gen % 4096 == gen % 4096 && !s.gone x.part x.ctx && x.count != 0

/-- The count of a slot falls by a decrement of a task of context (p, c), or the decrement is discarded (02 R63, R64). -/
def lowerCount (i gen : Nat) (poison : Bool) (p c taskId : Nat) (s : State) : State :=
  let x := s.slot i
  if s.counts i gen then modSlot i (fun x => { x with count := x.count - 1, poisonIn := x.poisonIn || poison }) s
  else if x.st == .free || x.gen % 4096 != gen % 4096 then
    if s.gone p c then s else raiseCtx fltEdgeStale srcDependency p c taskId s
  else if s.gone x.part x.ctx then s
  else raiseCtx fltDepUnderflow srcDependency x.part x.ctx (s.taskId i) s

/-- What follows for a slot whose count has fallen: it has reached 0, or the slot is to be seasoned (02 R57, R69). -/
def countFell (i : Nat) (s : State) : State :=
  let x := s.slot i
  if x.count == 0 then countZero i s
  else if x.st == .pending && decide (x.count ≤ s.threshold x.part) then season i s
  else s

/-- One decrement (02 R63, R64, R67, R69) by a task of context (p, c): a request to SW_DISPATCH (01 R38). -/
def decrement (i gen : Nat) (poison : Bool) (p c taskId : Nat) (s : State) : State :=
  let s := wakeUp swDispatch s
  let t := lowerCount i gen poison p c taskId s
  if s.counts i gen then countFell i t else t

/-! ### Creation (02 R57 to R59, R69) -/

/-- Create the task of a slot with its descriptor (02 R57, R58). `x` carries what the creator sets beside it. Without a bed
every task is seasoned (01 R45). A new task ungates SW_DISPATCH (01 R38). -/
def createTask (i : Nat) (x : Slot) (d : Desc) (p c : Nat) (s : State) : State :=
  let s := wakeUp swDispatch s
  if (s.slot i).st != .free then raiseCtx fltSlotBusy srcDependency p c d.taskId s
  else
    let x : Slot :=
      { x with
        gen := (s.slot i).gen, count := d.depCount, part := d.partition, ctx := d.context, epoch := d.epoch
        edgePtr := d.edgePtr, ordered := d.ordered
        okey := if d.ordered || x.listed then some d.detKey else none, poisonIn := d.poison || x.poisonIn
        skipAt := if d.skip then some (d.cmdPtr * 256 + 192) else none }
    let s := if d.ordered && d.depCount == 0 then later (.ready i) s else s
    let wants := !s.hasBed || decide (d.depCount ≤ s.threshold d.partition)
    if wants then
      match cacheGrant s with
      | some s =>
        if d.depCount == 0 then
          setSlot i { x with st := .fetching, entry := true, desc := some d, warm := true, since := s.clock } s
            |> readPredicate i |> maybeReady i
        else setSlot i { x with st := .seasoned, entry := true, desc := some d } s
      | none =>
        if d.depCount == 0 then setSlot i { x with st := .fetching, since := s.clock } s
        else
          setSlot i { x with st := .pending }
            { s with tasks := { s.tasks with seasonDrop := wrapAdd s.tasks.seasonDrop 1 64 } }
    else setSlot i { x with st := .pending } s

/-- How many task slots are neither taken nor reserved for a task that a launch has still to create (03 R132). -/
def State.slotsFree (s : State) : Nat :=
  s.build.taskSlots - (s.tasks.slots.filter (fun e => e.2.st != .free)).length
    - (s.jigs.launches.map (fun l => l.2.todo.length)).foldl (· + ·) 0

/-- The slot is in a run that is held for a gang (03 R132). -/
def State.slotReserved (s : State) (i : Nat) : Bool :=
  s.jigs.launches.any (fun l => l.2.todo.any (fun t => t.slot == some i))

/-- The slot is free and held for no gang. -/
def State.slotFree (s : State) (i : Nat) : Bool := (s.slot i).st == .free && !s.slotReserved i

/-- The first index from `i` on, wrapping below `n`, that passes a test (03 R133). -/
def searchFrom (ok : Nat → Bool) (n : Nat) : Nat → Nat → Option Nat
  | 0, _ => none
  | k + 1, i => if ok (i % n) then some (i % n) else searchFrom ok n k (i + 1)

/-- The slot of a single task, by the search of 03 R133: the lowest free one at or above the previous allocation, wrapping. -/
def State.nextSlot (s : State) : Option Nat :=
  searchFrom s.slotFree s.build.taskSlots s.build.taskSlots s.tasks.lastAlloc

/-- A slot for a single task for which no launch has reserved one. -/
def State.pickSlot (s : State) : Option Nat := if s.slotsFree == 0 then none else s.nextSlot

/-- Create one task without edges in the next free slot, if there is one; its creator waits otherwise (02 R58). -/
def createSingle (d : Desc) (role : Role) (launch : Option Nat) (s : State) : Option (Nat × State) :=
  match s.pickSlot with
  | none => none
  | some i =>
    let d := { d with taskId := s.taskId i }
    let s := { s with tasks := { s.tasks with lastAlloc := i } }
    let s := createTask i { role := role, launch := launch } d d.partition d.context s
    let s := if s.hasBed then issueWrite (.task d.taskId) (s.taskTable + 32 * i) ⟨32, d.bits⟩ d.partition d.context false s else s
    some (i, s)

/-! ### Freeing and retiring (02 R56, R57, R65) -/

/-- Return the granules a task or launch holds to the partition's edge pool (03 R132). -/
def returnGranules (gs : List Nat) (s : State) : State :=
  { s with tasks := { s.tasks with granules := s.tasks.granules.filter (fun e => !gs.contains e.1) } }

/-- EPOCH_OLDER drops a partition when its last slot of the epoch before is freed (11 R452). -/
def clearOlder (p : Nat) (s : State) : State :=
  let old := (s.image.epoch % 256 + 255) % 256
  if bit s.image.older p && !s.tasks.slots.any (fun e => e.2.st != .free && e.2.part == p && e.2.epoch == old) then
    { s with image := { s.image with older := clearBit s.image.older p } } |> later .reshape
  else s

/-- Some launch-created task of an order group that passes a test holds a slot. -/
def State.inOrder (s : State) (g : Nat) (f : Slot → Bool) : Bool :=
  s.tasks.slots.any (fun e =>
    e.2.st != .free && f e.2 && e.2.okey.any (fun k => fld k 12 16 == g && decide (fld k 0 12 < 0xF00)))

/-- The launch counter of a group returns to 0 (09 R381). -/
def restOrder (g : Nat) (s : State) : State := modOrder g (fun o => { o with next := 0, nulls := [] }) s

/-- A task of an order group has left its slot: the launch counter returns to 0 when no launch-created ordered task of the
group holds a slot (09 R381), and the tracker of listed tasks starts anew when no listed one does (10 R421). -/
def leaveOrder (g : Nat) (s : State) : State :=
  let s := if s.inOrder g (·.ordered) then s else restOrder g s
  if s.inOrder g (·.listed) then s else modOrder g (fun o => { o with highest := none }) s

/-- What this step still has to do for the task of a slot goes with it. -/
def dropSlotJobs (i : Nat) (s : State) : State :=
  { s with work := s.work.filter (fun j => j != .retire i && j != .ready i && j != .zero i) }

/-- Free a slot: its generation rises modulo 2^14 (02 R56). -/
def freeSlot (i : Nat) (s : State) : State :=
  let x := s.slot i
  s |> dropSlotJobs i |> returnGranules x.granules
    |> setSlot i { gen := (x.gen + 1) % 16384 }
    |> clearOlder x.part
    |> (fun s =>
      match x.okey with
      | some k => s |> leaveOrder (fld k 12 16) |> laters [.order (fld k 12 16), .buckets]
      | none => s)
    |> (fun s =>
      match x.launch with
      | some l =>
        if (Tbl.find s.jigs.launches l).isSome then
          s |> modLaunch l (fun v => { v with alive := v.alive - 1 }) |> later (.launchCheck l)
        else s
      | none => s)

/-- The last edge entry has been applied (02 R57). -/
def edgesDone (i : Nat) (s : State) : State := freeSlot i s

/-- Request an edge granule of a task (02 R65). -/
def readEdge (i g : Nat) (s : State) : State :=
  let x := s.slot i
  issueRead (.edge i x.gen) (s.edgeRegion + 64 * g) 64 x.part x.ctx false s

/-- The task of the slot is the fetch task of a cold block. -/
def Slot.fetches (x : Slot) : Bool :=
  match x.role with
  | .coldFetch _ => true
  | _ => false

/-- Request the first edge granule, once (02 R65). A fetch task's waiter list still grows when it is dispatched: it is read
when the task has its final status (03 R155; log entry 88). -/
def askEdge (i : Nat) (s : State) : State :=
  let x := s.slot i
  if x.edgePtr == 0 || x.asked || (x.fetches && x.st != .retiring) then s
  else s |> modSlot i (fun x => { x with asked := true }) |> readEdge i x.edgePtr

/-- One edge entry `e` of the task in slot `i` (02 R60, R63): a decrement, with the slot that it counted at among `ls`. One of
kind 2 waits until the index of the completing task has been released (09 R381), which it has when the task has left the
ordered-combine buffer. -/
def walkEntry (i : Nat) (poison : Bool) (e : Nat) (ls : List Nat × State) : List Nat × State :=
  let (l, s) := ls
  let x := s.slot i
  let id := s.taskId i
  let j := fld e 0 18
  if fld e 18 2 == 1 || (fld e 18 2 == 2 && x.released) then
    (if s.counts j (fld e 20 12) then l ++ [j] else l, lowerCount j (fld e 20 12) poison x.part x.ctx id s)
  else if fld e 18 2 == 2 then
    let d := x.desc.getD {}
    let k : Kind2 :=
      { group := orderGroup d, index := orderIndex d, slot := j, gen := fld e 20 12, poison := poison
        part := x.part, ctx := x.ctx, taskId := id }
    (l, { s with reduce := { s.reduce with kind2 := s.reduce.kind2 ++ [k] } } |> later (.order k.group))
  else (l, raiseCtx fltEdgeKind srcDependency x.part x.ctx id s)

/-- The decrements of a granule (02 R60, R63). Those to one slot are merged: what follows from its count follows once, after all of
them, so that no entry of the cache is evicted whose slot a decrement of the granule brings to 0 (02 R67, R114). -/
def walkEntries (i : Nat) (poison : Bool) (g n : Nat) (s : State) : State :=
  let (l, s) := (List.range n).foldl (fun a k => walkEntry i poison (fld g (64 + 32 * k) 32) a) ([], s)
  (dedup l).foldl (fun s j => countFell j s) s

/-- Walk one granule of a RETIRING task (02 R60, R63, R65). -/
def walkGranule (i : Nat) (g : Granule) (s : State) : State :=
  let x := s.slot i
  let n := g.toNat
  let count := fld n 0 4
  if count == 15 || fld n 36 28 != 0 then
    raiseCtx fltEdgeKind srcDependency x.part x.ctx (s.taskId i) s |> edgesDone i
  else
    let poison := (x.fin.map (·.2)).getD false
    let s := walkEntries i poison n count s
    let next := fld n 4 32
    if next == 0 then edgesDone i s else readEdge i next s

/-- Start the edge walk of a RETIRING task: with the granule held since dispatch, or when it arrives (02 R65). -/
def startWalk (i : Nat) (s : State) : State :=
  let x := s.slot i
  if x.edgePtr == 0 || x.edgeErr then edgesDone i s
  else
    match x.held with
    | some g => s |> modSlot i (fun x => { x with held := none }) |> walkGranule i g
    | none => askEdge i s

/-- The task of a slot goes to RETIRING with its final status and poison (02 R57); telling its creator and walking its
edges follow in this step. -/
def retire (i status : Nat) (poison : Bool) (s : State) : State :=
  s |> modSlot i (fun x => { x with st := .retiring, fin := some (status, poison) }) |> later (.retire i)

/-! ### Engines (02 R86, R97 to R103, R117) -/

/-- The offset of ENGINE_STATE of a port (14 R574). -/
def offEngine (port : Nat) : Nat := 0xE1000 + 8 * port

/-- The port is marked free; the requester's wait state is cleared (02 R97, 06 R269). -/
def freeEngine (port : Nat) (s : State) : State :=
  s |> modEngine port (fun e => { e with busy := false, timedOut := false, taskId := 0, parted := false }) |> clearWaiter port

/-- An engine is marked suspect: FLT_ENGINE_SUSPECT with scope none, under the task's partition and context (02 R101). -/
def markSuspect (port p c taskId : Nat) (s : State) : State :=
  s |> modEngine port (fun e => { e with suspect := true }) |> noteBit (offEngine port) 11
    |> enter fltEngineSuspect srcDependency p c 0 taskId false
    |> later .sweep

/-- One lasting fault is charged to an engine; the third marks it suspect (02 R100, R101), also when a write has taken lasting
from 2 to 0 in the same hc (02 R114). -/
def chargeLasting (port p c taskId : Nat) (s : State) : State :=
  let e := s.engine port
  let s := { s with tasks := { s.tasks with lastingCount := wrapAdd s.tasks.lastingCount 1 64 } }
  let third := e.lasting == 2 || s.noted (offEngine port) 12
  let s := modEngine port (fun e => { e with lasting := if third then 3 else min 3 (e.lasting + 1) }) s
  if third then markSuspect port p c taskId s else s

/-- A transient failure: counted, charged to the engine of the first attempt, and entered where POLICY says so
(02 R99, 13 R551). -/
def chargeTransient (i : Nat) (s : State) : State :=
  let x := s.slot i
  match x.firstFail with
  | none => s
  | some (port, st) =>
    let s := { s with tasks := { s.tasks with transientCount := wrapAdd s.tasks.transientCount 1 64 } }
    let s := modEngine port (fun e => { e with transient := satInc e.transient 0xFFFF }) s
    let s := modSlot i (fun x => { x with firstFail := none }) s
    if s.policyTransient x.part then enter (finalFault st) srcDependency x.part x.ctx 1 (s.taskId i) true s else s

/-- The engines that R86 could ever pick for a task: class, vgroup, allocation, mapped, not suspect (02 R86, R87). -/
def State.pickable (s : State) (x : Slot) (d : Desc) : List Nat :=
  (List.range 512).filter (fun v =>
    bit (s.allocEngines x.part) v && s.inVgroup d.vgroup v &&
      match s.engEntry s.mapBank v with
      | some (q, cls, _) => cls == d.engineClass && !(s.engine q).suspect
      | none => false)

/-- Port and core of a virtual engine; it is called with mapped engines. -/
def State.portOf (s : State) (v : Nat) : Nat := ((s.engEntry s.mapBank v).map (·.1)).getD 0
def State.coreNo (s : State) (v : Nat) : Nat := ((s.engEntry s.mapBank v).map (·.2.2)).getD 0

/-- The gouge mover of a core (08 R344, 11 R436). -/
def State.gougeMover (s : State) (core : Nat) : Nat := s.recU tyScratch 0 0 (32 + 2 * core) 2

/-- A gouge task goes to its core's gouge mover only (08 R350). -/
def State.gougeMay (s : State) (x : Slot) (v : Nat) : Bool :=
  match x.role with
  | .gouge core _ _ => v == s.gougeMover core
  | _ => true

/-- A context has a task ISSUED on an engine of a core (08 R351). -/
def State.issuedOn (s : State) (p c core : Nat) : Bool :=
  s.tasks.slots.any (fun e =>
    e.2.st == .issued && e.2.part == p && e.2.ctx == c && e.2.child.isNone && e.2.avoid.map (·.2) == some core)

/-- A context has a SPILLED run on a core, so none of its tasks but the restore go there (08 R352). -/
def State.spilledOn (s : State) (p c core : Nat) : Bool :=
  s.ctxs.runs.any (fun r => r.part == p && r.ctx == c && r.core == core && (r.st == 3 || r.st == 4))

/-- The engines that a task can be placed on now, ascending (02 R86, 08 R352). -/
def State.freeEngines (s : State) (x : Slot) (d : Desc) : List Nat :=
  (s.pickable x d).filter (fun v =>
    !(s.engine (s.portOf v)).busy && s.gougeMay x v && (isGouge x || !s.spilledOn x.part x.ctx (s.coreNo v)))

/-- The child ports that can take a delegated task now: up, with the partition's work below, and with a task credit
(01, 08 R354, R356). -/
def State.freeChildren (s : State) (x : Slot) : List Nat :=
  (List.range 8).filterMap (fun i =>
    let y := i + 1
    let used := ((s.port y).queue.filter (fun m => m.kind == 0x01 && m.pool == x.part)).length
    if s.connected y && (s.port y).state == 3 && bit (s.allocChildren x.part) i &&
        decide (used < Tbl.at (s.port y).credits (creditKey x.part 0 true) 0) then some y
    else none)

/-- The child port on the path to the mover leaf of a page format (05 R231). -/
def State.moverChild (s : State) (p format : Nat) : Option Nat :=
  ((s.image.recs.filter (fun r => r.type == tyTreeRole && (r.u 16 1 == 1 || r.u 16 1 == 3))).find? (fun r =>
    let path := codePath r.scope
    (List.range path.length).foldl (fun acc j => acc + path.getD j 0 * 8 ^ (s.face.treeDepth - (j + 1))) 0
      == s.recU tyPageFormat p format 28 2)).bind (fun r => s.nextHop (fld r.scope 0 15))

/-- The page format of a page move, or of one that a node home has delegated: that of its context. -/
def State.moveFormat (s : State) (x : Slot) : Option Nat :=
  match x.role with
  | .move i => some (s.entry x.part i).format
  | .mover _ _ => some (s.ctxFormat x.part x.ctx)
  | _ => none

/-- A page move that runs below the instance (05 R231): the child it goes to. -/
def State.moveChild (s : State) (x : Slot) : Option Nat :=
  match s.moveFormat x with
  | some f =>
    if s.isNode && (s.recAt tyPageFormat x.part f).isSome && s.recU tyPageFormat x.part f 28 2 != 0xFFFF then
      s.moverChild x.part f
    else none
  | none => none

/-- The children that a task may go to now; a page move has one only (05 R231). -/
def State.childrenFor (s : State) (x : Slot) : List Nat :=
  match s.moveChild x with
  | some y => (s.freeChildren x).filter (· == y)
  | none => s.freeChildren x

/-- The task is one for the node function: the partition has children here, and the task is for no engine of the instance
itself (01, roles; log entry 15). -/
def State.delegates (s : State) (x : Slot) (d : Desc) : Bool :=
  (s.moveChild x).isSome || (s.isNode && !s.ownTask x.part d.vgroup d.engineClass && s.allocChildren x.part != 0)

/-! ### Gangs (02 R89 to R93) -/

/-- The slots of the gang that a slot belongs to, ascending (02 R89). A member whose vgroup is never placed is handed to its unit by
itself, and the others are dispatched without it (02 R88; DESIGN CHOICE, log entry 54). -/
def State.gangOf (s : State) (i : Nat) : List Nat :=
  match (s.slot i).gangAt with
  | some (first, n) =>
    ((List.range n).map (first + ·)).filter (fun j =>
      (s.slot j).gangAt == some (first, n) && !(s.slot j).desc.any (fun d => neverPlaced d.vgroup))
  | none => [i]

/-! ### Ready detect (02 R73, R79, R81, R87, R88, R90) -/

/-- The task completes with ST_POISON_IN (02 R81). -/
def poisonIn (i : Nat) (s : State) : State := retire i stPoisonIn true s

/-- No engine can ever take the task: FLT_VGROUP_EMPTY, once, and it completes with ST_PARTED (02 R87). -/
def vgroupEmpty (i : Nat) (s : State) : State :=
  let x := s.slot i
  s |> raiseCtx fltVgroupEmpty srcIssue x.part x.ctx (s.taskId i)
    |> retire i stParted true

/-- The skip predicate of a word (03 R140): none for a bad op or a non-zero reserved bit. -/
def evalPredicate (w : BitVec 64) : Option Bool :=
  let v := fld w.toNat 0 32
  let t := fld w.toNat 32 16
  if fld w.toNat 51 13 != 0 then none
  else
    match fld w.toNat 48 3 with
    | 0 => some false
    | 1 => some (v != 0)
    | 2 => some (v == 0)
    | 3 => some (decide (v < t))
    | 4 => some (decide (t ≤ v))
    | _ => none

/-- FLT_SKIP_OP: raised against the context, which it parts as R141 says, although its catalogue class is STATUS
(03 R141, 13 R552; log entry 16). -/
def skipOp (i : Nat) (s : State) : State :=
  let x := s.slot i
  s |> raiseCtx fltSkipOp srcDependency x.part x.ctx (s.taskId i)
    |> (fun s => if s.ctxConfigured x.part x.ctx then beginPart x.part x.ctx fltSkipOp s else s)
    |> retire i stParted true

/-- The unit that a READY task is handed to (02 R73, R79, R81, R87, R88, R90). -/
inductive Handed where
  /-- It stays READY: for its engine, its gang, its context or its predecessors in a buffer. -/
  | stays
  | buffer | poison | null | badSkip | join | launch | contribute | recv | empty
deriving DecidableEq, Repr

/-- What becomes of a READY task that is no gang member. -/
def State.detect (s : State) (x : Slot) (d : Desc) : Handed :=
  if d.ordered && !x.released then .buffer
  else if x.poisonIn then .poison
  else
    match x.pred.map evalPredicate with
    | some none => .badSkip
    | some (some true) => .null
    | _ =>
      if neverPlaced d.vgroup then
        if !s.ctxAllows x then .stays
        else if d.vgroup == 0xFFFE then .launch
        else if d.vgroup == 0xFFFD then .contribute
        else if d.vgroup == 0xFFFC then .join
        else .recv
      else if (s.pickable x d).isEmpty && !s.delegates x d then .empty
      else .stays

/-! ### Selection and dispatch (02 R77, R78, R86, R90 to R92, R94) -/

/-- The order of selection: prio (raised by a held ceiling), time of readiness, slot; or det_key and task_id
(02 R77, 08 R358). -/
def State.before (s : State) (a b : Nat × Slot × Desc) : Bool :=
  let (i, x, d) := a
  let (j, y, e) := b
  if s.detOf x.part then
    decide (d.detKey < e.detKey) || (d.detKey == e.detKey && decide (d.taskId < e.taskId))
  else
    let pa := max d.prio (s.ceilingOf x.part x.ctx)
    let pb := max e.prio (s.ceilingOf y.part y.ctx)
    decide (pb < pa) || (pa == pb && (decide (x.since < y.since) || (x.since == y.since && decide (i < j))))

/-- The READY tasks of a partition that may be selected, in order. -/
def State.candidates (s : State) (p : Nat) : List (Nat × Slot × Desc) :=
  let l := s.tasks.slots.filterMap (fun e =>
    let x := e.2
    match x.desc with
    | some d =>
      if x.part == p && x.st == .ready && s.maySelect x && !neverPlaced d.vgroup && !x.poisonIn &&
          (!d.ordered || x.released) && (x.pred.map evalPredicate).getD (some false) == some false then
        some (e.1, x, d)
      else none
    | none => none)
  sortBy (fun a b => !s.before b a) l

/-- The engine for a single task: the lowest free one, another than the one to avoid when there is another (02 R86, R98). -/
def State.placeOne (s : State) (x : Slot) (d : Desc) : Option Nat :=
  let vs := s.freeEngines x d
  let other := vs.filter (fun v => x.avoid.map (·.1) != some v)
  match other with
  | v :: _ => some v
  | [] => vs.head?

/-- Engines of one core for every member, assigned in slot order, each the lowest-numbered one left (02 R91). A core on which
this assignment fails does not qualify, even if another one of its free engines would serve every member (DESIGN CHOICE, log
entry 95). -/
def State.placeOn (s : State) (core : Nat) : List (Slot × Desc) → List Nat → Option (List Nat)
  | [], _ => some []
  | (x, d) :: rest, taken =>
    match (s.freeEngines x d).find? (fun v => s.coreNo v == core && !taken.contains v) with
    | none => none
    | some v => (s.placeOn core rest (v :: taken)).map (v :: ·)

/-- The lowest core that takes the whole gang, another than the one to avoid when there is another (02 R91, R98). -/
def State.placeGang (s : State) (ms : List (Slot × Desc)) : Option (List Nat) :=
  let p := (ms.head?.map (fun m => m.1.part)).getD 0
  let avoid := ms.findSome? (fun m => m.1.avoid.map (·.2))
  let try' (c : Nat) := s.placeOn c ms []
  let cores := s.allocCores p
  match (cores.filter (fun c => some c != avoid)).findSome? try' with
  | some vs => some vs
  | none => cores.findSome? try'

/-- Dispatch one task to a virtual engine (02 R94, R97, R116, R65). -/
def dispatchTo (i v gi gs : Nat) (s : State) : State :=
  let x := s.slot i
  let d := x.desc.getD {}
  let port := s.portOf v
  let seasoned := decide (0 < x.tries) || (x.warm && !d.skip)
  let s := s |> modEngine port (fun e =>
      { e with busy := true, taskId := d.taskId, part := x.part, ctx := x.ctx, bank := s.mapBank })
    |> modSlot i (fun x =>
      { x with st := .issued, tries := x.tries + 1, round := none, avoid := some (v, s.coreNo v), skipAt := none, pred := none })
    |> emit (.packet (packetOf d x.attempt x.variant gi gs) port)
  let s := { s with
    tasks := { s.tasks with
      dispSeasoned := wrapAdd s.tasks.dispSeasoned (flag seasoned) 64
      dispUnseasoned := wrapAdd s.tasks.dispUnseasoned (flag !seasoned) 64 } }
  askEdge i s

/-- Dispatch a delegated task to a child port (01, R24 to R26; 12 R519). -/
def dispatchChild (i y : Nat) (s : State) : State :=
  let x := s.slot i
  let d := x.desc.getD {}
  let m : TxMsg :=
    { cls := 0, pool := x.part, task := true, kind := 0x01
      content := BitVec.ofNat 512 (packetOf d x.attempt x.variant 0 0) }
  let s := { s with
    tasks := { s.tasks with delegated := s.tasks.delegated ++ [{ child := y, taskId := d.taskId, part := x.part, ctx := x.ctx }] } }
  s |> modSlot i (fun x =>
        { x with st := .issued, tries := x.tries + 1, child := some y, skipAt := none, pred := none })
    |> sendOn y m |> askEdge i

/-- Listed tasks of DET=0 that are selected below an index already selected count in NONDET_COUNT; at most 4,096 order
groups are tracked (10 R421). -/
def countListed (i : Nat) (s : State) : State :=
  let x := s.slot i
  let d := x.desc.getD {}
  if !x.listed || x.selected || s.detOf x.part then s
  else
    let g := orderGroup d
    let k := orderIndex d
    let tracked := (s.order g).highest
    let free := (s.reduce.orders.filter (fun e => e.2.highest.isSome)).length < 4096
    let bump := match tracked with
      | some h => decide (k < h)
      | none => !decide free
    let s := modSlot i (fun x => { x with selected := true }) s
    let s := if bump then modDet x.part (fun v => { v with nondet := wrapAdd v.nondet 1 64 }) s else s
    match tracked with
    | some h => modOrder g (fun o => { o with highest := some (max h k) }) s
    | none => if decide free then modOrder g (fun o => { o with highest := some k }) s else s

/-- Try to take one task or gang of a partition in the lanes and matrix width that remain (02 R78, R90 to R92). -/
def takeOne (lanes width : Nat) : List (Nat × Slot × Desc) → State → Option (Nat × Nat × State)
  | [], _ => none
  | (i, x, d) :: rest, s =>
    if d.gang then
      let ids := s.gangOf i
      let ms := ids.map (fun j => (s.slot j, ((s.slot j).desc).getD {}))
      let matrix := (ms.filter (fun m => m.2.engineClass == 0)).length
      let ready := ids.all (fun j =>
        (s.slot j).st == .ready && s.maySelect (s.slot j) &&
          (match (s.slot j).desc with
            | some e => !e.ordered || (s.slot j).released
            | none => false))
      if ready && decide (ids.length ≤ lanes) && decide (matrix ≤ width) then
        match s.placeGang ms with
        | some vs =>
          let s := (List.range ids.length).foldl
            (fun s k => s |> countListed (ids.getD k 0) |> dispatchTo (ids.getD k 0) (vs.getD k 0) k (ids.length - 1)) s
          some (ids.length, matrix, s)
        | none => takeOne lanes width rest s
      else takeOne lanes width rest s
    else
      let m := flag (d.engineClass == 0)
      if lanes == 0 then none
      else if width < m then takeOne lanes width rest s
      else if s.delegates x d then
        match s.childrenFor x with
        | [] => takeOne lanes width rest s
        | ys =>
          let (r, s) := takeFree 16 s
          some (1, m, s |> countListed i |> dispatchChild i (ys.getD (r % ys.length) 0))
      else
        match s.placeOne x d with
        | some v => some (1, m, s |> countListed i |> dispatchTo i v 0 0)
        | none => takeOne lanes width rest s

/-- The partitions from the one after `p`, in ascending number, wrapping (02 R78). -/
def State.partsAfter (s : State) (p : Nat) : List Nat :=
  s.parts.filter (p < ·) ++ s.parts.filter (· ≤ p)

/-- Take from the first partition, in the given order, that has something to place. -/
def takeFrom (lanes width : Nat) : List Nat → State → Option (Nat × Nat × Nat × State)
  | [], _ => none
  | p :: rest, s =>
    match takeOne lanes width (s.candidates p) s with
    | some (n, m, s) => some (p, n, m, s)
    | none => takeFrom lanes width rest s

/-- Fill the lanes of one fc, partition by partition in round robin (02 R78). -/
def fillLanes : Nat → Nat → Nat → Nat → Option Nat → State → State
  | 0, _, _, _, first, s => { s with tasks := { s.tasks with rr := first.getD s.tasks.rr } }
  | k + 1, lanes, width, from', first, s =>
    match takeFrom lanes width (s.partsAfter from') s with
    | none => { s with tasks := { s.tasks with rr := first.getD s.tasks.rr } }
    | some (p, n, m, s) => fillLanes k (lanes - n) (width - m) p (some (first.getD p)) s

/-- One fc of the issue unit (02 R77, R78). -/
def issueFc (s : State) : State :=
  fillLanes s.build.dispatchWidth s.build.dispatchWidth s.power.width s.tasks.rr none s

/-! ### Completion handling (02 R97 to R100, R110 to R112) -/

/-- What a returned status asks for. -/
inductive Verdict where
  | retry | escalate | final (lasting fault poison accept : Bool)
deriving DecidableEq, Repr

/-- Judge a status of an engine task (02 R97, R98, R100, R110, R111). -/
def verdict (x : Slot) (d : Desc) (status : Nat) : Verdict :=
  let cls := statusClass status
  if status == stScaleRange then
    if x.variant then .final false true true false
    else if d.escalate == 1 then .final false false false true
    else if d.escalate == 2 then .escalate
    else .final false true true false
  else if cls == 1 then if x.attempt == 0 then .retry else .final true true true false
  else if 2 ≤ cls then .final false true true false
  else .final false false false false

/-- The fault of a final status: the catalogue's, or FLT_SCALE_RANGE (13 R553, 02 R110). -/
def faultOfStatus (status : Nat) : Nat := if status == stScaleRange then fltScaleRange else finalFault status

/-- A final status of one task: faults, charges and counters (02 R99, R100, R110); the task then retires. A lasting failure is
charged, and FLT_ENGINE_SUSPECT entered with the third, before its own fault is raised (DESIGN CHOICE, log entry 95). -/
def finalStatus (i status : Nat) (poisonOut lasting fault poison accept : Bool) (s : State) : State :=
  let x := s.slot i
  let id := s.taskId i
  let s := if lasting then s else chargeTransient i s
  let s :=
    if lasting then
      match x.firstFail with
      | some (port, _) => chargeLasting port x.part x.ctx id s
      | none => s
    else s
  let s := if accept then
      { s with tasks := { s.tasks with scaleAccept := wrapAdd s.tasks.scaleAccept 1 64 } } else s
  let f := faultOfStatus status
  let s :=
    if fault && f != 0 then
      if faultClass f == 3 then raise f srcDependency x.part x.ctx 2 id s
      else raiseCtx f srcDependency x.part x.ctx id s
    else s
  retire i status (poison || poisonOut) s

/-- A retry of a task: READY with attempt 1, away from the engine that failed (02 R98). -/
def retryTask (i port status : Nat) (s : State) : State :=
  s |> modSlot i (fun x =>
        { x with st := .ready, attempt := 1, firstFail := some (port, status), round := none, since := s.clock })
    |> later (.ready i)

/-- An escalation: READY with the wide variant and attempt 0 (02 R110). -/
def escalateTask (i : Nat) (s : State) : State :=
  s |> chargeTransient i
    |> modSlot i (fun x =>
        { x with st := .ready, variant := true, attempt := 0, firstFail := none, avoid := none, round := none, since := s.clock })
    |> later (.ready i)

/-- A member goes back to READY with its attempt and variant unchanged (02 R98, R112). -/
def againTask (i : Nat) (s : State) : State :=
  s |> modSlot i (fun x => { x with st := .ready, round := none, since := s.clock }) |> later (.ready i)

/-- Every member of a gang has returned a status in this round (02 R93, R98, R112). The fault of a member's final status is
raised here, at the last member's completion, and an ST_SCALE_RANGE that a member with escalate 1 returned in a round that is
dispatched again is not counted (DESIGN CHOICE, log entry 95). -/
def gangRound (ids : List Nat) (s : State) : State :=
  let vs := ids.map (fun j =>
    let x := s.slot j
    let (st, po) := x.round.getD (0, false)
    (j, st, po, verdict x (x.desc.getD {}) st))
  let fatal := vs.any (fun v => match v.2.2.2 with
    | .final _ _ po _ => po
    | _ => false)
  let asks := vs.any (fun v => match v.2.2.2 with
    | .final _ _ _ _ => false
    | _ => true)
  let retried := vs.any (fun v => v.2.2.2 == .retry)
  if fatal || !asks then
    vs.foldl (fun s v =>
      match v.2.2.2 with
      | .final la fa po ac => finalStatus v.1 v.2.1 v.2.2.1 la fa po ac s
      | _ => retire v.1 v.2.1 true s) s
  else
    vs.foldl (fun s v =>
      let s := if retried then s else modSlot v.1 (fun x => { x with avoid := none }) s
      match v.2.2.2 with
      | .retry => retryTask v.1 ((s.slot v.1).lastPort) v.2.1 s
      | .escalate => escalateTask v.1 s
      | .final _ _ _ _ => againTask v.1 s) s

/-- A status record with a handled status (02 R97 step 4). -/
def handleStatus (i port status : Nat) (poisonOut : Bool) (s : State) : State :=
  let x := s.slot i
  let d := x.desc.getD {}
  let s := if status == stEngineFatal then markSuspect port x.part x.ctx (s.taskId i) s else s
  if d.gang then
    let s := modSlot i (fun x => { x with round := some (status, poisonOut), lastPort := port }) s
    let ids := s.gangOf i
    if ids.all (fun j => (s.slot j).round.isSome) then gangRound ids s else s
  else
    match verdict x d status with
    | .retry => retryTask i port status s
    | .escalate => escalateTask i s
    | .final la fa po ac => finalStatus i status poisonOut la fa po ac s

/-- The sticky subnormal flag of a task is ORed into its launch (02 R96), that of a delegated page move into its completion. -/
def noteSubnormal (i : Nat) (sub : Bool) (s : State) : State :=
  if !sub then s
  else
    match (s.slot i).launch with
    | some l => if (Tbl.find s.jigs.launches l).isSome then modLaunch l (fun v => { v with subnormal := true }) s else s
    | none =>
      match (s.slot i).role with
      | .mover packet _ => modSlot i (fun x => { x with role := .mover packet true }) s
      | _ => s

/-- The epoch is retired for a partition: neither E nor, while EPOCH_OLDER names it, E − 1 (11 R452). -/
def State.retiredEpoch (s : State) (p epoch : Nat) : Bool :=
  let e := s.image.epoch % 256
  !(epoch == e || (bit s.image.older p && epoch == (e + 255) % 256))

/-- The status of a page move's task whose slot has been taken away with its context: the move ends by it all the same
(05 R241). -/
def tellMove (p id status : Nat) (poison : Bool) (s : State) : State :=
  if (s.page p).moves.any (fun m => m.2.task == id) then
    modPages p (fun v =>
      { v with moves := Tbl.each v.moves (fun _ m => if m.task == id then { m with fin := some (status, poison) } else m) }) s
  else s

/-- A status record from an engine (02 R97). One that comes in the hc of its engine's release is discarded (02 R118). -/
def engineRecord (port : Nat) (w : Nat) (s : State) : State :=
  let e := s.engine port
  let id := fld w 0 32
  let status := fld w 32 8
  let i := idSlot id
  let x := s.slot i
  if (e.busy && (e.parted || s.gone e.part e.ctx)) || (!e.busy && s.noted (offEngine port) 30) then
    freeEngine port { s with tasks := { s.tasks with cplDiscard := wrapAdd s.tasks.cplDiscard 1 64 } }
      |> tellMove e.part id status (bit w 40)
  else if x.st != .issued || x.gen != idGen id || !e.busy || e.taskId != id || !isEngineStatus status then
    let (p, c) := if e.busy then (e.part, e.ctx) else (0, 0)
    s |> enter fltCplUnknown srcDependency p c 0 id false |> freeEngine port
  else if s.retiredEpoch x.part (fld w 42 8) || fld w 42 8 != x.epoch then
    s |> freeEngine port
      |> (fun s => { s with image := { s.image with epochMix := wrapAdd s.image.epochMix 1 64 } })
      |> raiseCtx fltEpochMix srcDependency x.part x.ctx id
      |> retire i stParted true
  else
    s |> freeEngine port |> noteSubnormal i (bit w 41) |> handleStatus i port status (bit w 40)

/-- A COMPLETION from a child (01 R24, R25; 02 R97, R110). A delegated task is never dispatched again, so ESCALATE leaves
ST_SCALE_RANGE final (log entry 15). -/
def childRecord (y : Nat) (w : Nat) (s : State) : State :=
  let id := fld w 0 32
  let status := fld w 32 8
  let i := idSlot id
  let x := s.slot i
  match s.tasks.delegated.find? (fun t => t.child == y && t.taskId == id) with
  | none => enter fltCplUnknown srcDependency 0 0 0 id false s
  | some t =>
    let p := t.part
    let c := t.ctx
    let key := creditKey p 0 true
    let s := { s with
      tasks := { s.tasks with delegated := s.tasks.delegated.filter (fun t => !(t.child == y && t.taskId == id)) } }
    let s := s |> modPort y (fun q => { q with credits := Tbl.put q.credits key (Tbl.at q.credits key 0 + 1) })
               |> later (.transmit y)
    if t.parted || s.gone p c then
      { s with tasks := { s.tasks with cplDiscard := wrapAdd s.tasks.cplDiscard 1 64 } } |> tellMove p id status (bit w 40)
    else if x.st != .issued || x.gen != idGen id || x.child != some y || !isListedStatus status then
      enter fltCplUnknown srcDependency p c 0 id false s
    else if s.retiredEpoch x.part (fld w 42 8) || fld w 42 8 != x.epoch then
      s |> (fun s => { s with image := { s.image with epochMix := wrapAdd s.image.epochMix 1 64 } })
        |> raiseCtx fltEpochMix srcDependency p c id |> retire i stParted true
    else
      let s := noteSubnormal i (bit w 41) s
      let cls := statusClass status
      if status == stScaleRange then
        match (x.desc.getD {}).escalate with
        | 0 => finalStatus i status (bit w 40) false true true false s
        | 1 => finalStatus i status (bit w 40) false false false true s
        | _ => retire i status (bit w 40) s
      else if cls == 0 then retire i status (bit w 40) s
      else if cls == 1 then retire i status true s
      else finalStatus i status (bit w 40) false true true false s

end Sys2Proof.Machine
end

