-- ==== Sys2Proof/Machine/JigUnit.lean ====
section
/-!
DEFINITION. The jig unit and the command-list expander (03): node records and edge specs, launches, counting,
reservation, creation, null instances, cold blocks, exchanges and the completion of a launch.
-/
namespace Sys2Proof.Machine

/-! ### Jig bodies (03 R120 to R122) -/

/-- A node record (03 R121). -/
structure Node where
  engineClass : Nat
  vgroup      : Nat
  prio        : Nat
  formatClass : Nat
  escalate    : Nat
  gang        : Bool
  gangEnd     : Bool
  ordered     : Bool
  skip        : Bool
  pageWait    : Bool
  countKind   : Nat
  countShift  : Nat
  countValue  : Nat
  kind        : Nat
  cold        : Bool
  exchSel     : Bool
  countMax    : Nat
  coldBlock   : Nat
  costCycles  : Nat
  costBytes   : Nat
  cmdOffset   : Nat
  detOffset   : Nat
  edgeFirst   : Nat
  edgeNum     : Nat
deriving DecidableEq, Repr, Inhabited

def nodeOf (w : Nat) : Node :=
  { engineClass := fld w 0 3, vgroup := fld w 3 16, prio := fld w 19 4, formatClass := fld w 23 2
    escalate := fld w 25 2, gang := bit w 27, gangEnd := bit w 28, ordered := bit w 29, skip := bit w 30
    pageWait := bit w 31, countKind := fld w 32 2, countShift := fld w 34 5, countValue := fld w 39 21
    kind := fld w 60 2, cold := bit w 62, exchSel := bit w 63, countMax := fld w 64 21
    coldBlock := fld w 85 11, costCycles := fld w 96 24, costBytes := fld w 120 24, cmdOffset := fld w 144 32
    detOffset := fld w 176 32, edgeFirst := fld w 208 16, edgeNum := fld w 224 8 }

/-- An edge spec (03 R122). -/
structure EdgeSpec where
  target  : Nat
  pattern : Nat
  via     : Bool
  inst    : Nat
deriving DecidableEq, Repr, Inhabited

def edgeSpecOf (w : Nat) : EdgeSpec :=
  { target := fld w 0 12, pattern := fld w 12 3, via := bit w 15, inst := fld w 16 20 }

def jigNodeCount (b : Blob) : Nat := fld b.bits 0 13
def jigEdgeCount (b : Blob) : Nat := fld b.bits 16 14
def jigNodes (b : Blob) : List Node := (List.range (jigNodeCount b)).map (fun k => nodeOf (fld b.bits (512 + 256 * k) 256))
def jigSpecs (b : Blob) : List EdgeSpec :=
  (List.range (jigEdgeCount b)).map (fun k => edgeSpecOf (fld b.bits (512 + 256 * jigNodeCount b + 64 * k) 64))

/-- The exchange a SEND or RECV node names (03 R120, R121). -/
def jigExchange (b : Blob) (n : Node) : Nat := if n.exchSel then fld b.bits 40 8 else fld b.bits 32 8

/-- The specs out of a node. -/
def specsOf (specs : List EdgeSpec) (n : Node) : List EdgeSpec := (specs.drop n.edgeFirst).take n.edgeNum

/-! ### Exchanges (11 R439) -/

def State.exchMembers (s : State) (e : Nat) : Nat := s.recU tyExchange e 0 18 2
def State.exchSelf (s : State) (e : Nat) : Nat := s.recU tyExchange e 0 20 2
def State.exchChannel (s : State) (e : Nat) : Nat := s.recU tyExchange e 0 22 2
def State.exchRing (s : State) (e : Nat) : Nat := fld (s.recU tyExchange e 0 24 8) 0 52
def State.exchPart (s : State) (e : Nat) : Nat := s.recU tyExchange e 0 16 1

/-! ### Launch records (03 R125) -/

def recJig (r : Nat) : Nat := fld r 0 13
def recKind (r : Nat) : Nat := fld r 13 2
def recSkip (r : Nat) : Nat := fld r 16 16
def recDet (r : Nat) : Nat := fld r 32 32
def recParam (r : Nat) : Nat := fld r 64 52
def recCmd (r : Nat) : Nat := fld r 128 52
def recStream (r : Nat) : Nat := fld r 192 20
def recStreamValid (r : Nat) : Bool := bit r 212

/-- A launch record whose reserved bits or kind are wrong (03 R125). `recv` says that it lies in the command area of a
RECV instance. -/
def badRecord (r : Nat) (recv : Bool) : Bool :=
  bit r 15 || fld r 116 12 != 0 || fld r 180 12 != 0 || fld r 213 43 != 0 || recKind r == 3 || (recKind r == 2 && !recv)

/-! ### Completion of a launch (03 R137) -/

/-- The jig body that a launch works with: the one it has taken from the cache, which it keeps if the cache entry goes while it is in
progress (03 R123, R580). -/
def State.bodyOf (s : State) (l : Launch) : Blob := l.body.getD (Tbl.at s.jigs.cache (recJig l.record) ⟨0, 0⟩)

/-- The slot of the launch's own task, and its task_id as detail of a fault; 0 where there is none. -/
def Launch.slotOf (l : Launch) : Option Nat :=
  match l.owner with
  | .task i => some i
  | _ => none

def State.launchDetail (s : State) (l : Launch) : Nat :=
  match l.slotOf with
  | some i => s.taskId i
  | none => 0

/-- A block that no launch pins and no fetch has brought in holds no slot of the cold area. -/
def Cold.settled (x : Cold) : Cold := if x.st == 0 && x.pins == 0 then { x with slot := none } else x

/-- Drop the pins that a launch holds on cold blocks (03 R156). -/
def unpinCold (l : Launch) (s : State) : State :=
  l.cold.foldl (fun s b => modCold l.part b (fun x => Cold.settled { x with pins := x.pins - 1, used := s.clock }) s) s

/-- The lists that have their slots and granules and are not wholly expanded, by the order in which they were started. -/
def State.readyLists (s : State) : List (Nat × Launch) :=
  sortBy (fun a b => decide (a.2.order ≤ b.2.order))
    (s.jigs.launches.filter (fun e => e.2.phase == .creating && recKind e.2.record == 1))

/-- The list that is expanded next: one that has been begun, or else the first started (03 R158). -/
def State.nextList (s : State) : Option Nat :=
  (((s.readyLists.find? (fun e => !e.2.plan.isEmpty)).or s.readyLists.head?).map (·.1))

/-- Once a list is done with, the next one is expanded. -/
def wakeLists (s : State) : State :=
  match s.nextList with
  | some id => later (.create id) s
  | none => s

/-- A launch creates no more: order groups in which only its null instances have moved the launch counter are looked at again
(09 R381). -/
def wakeOrders (s : State) : State :=
  laters ((s.reduce.orders.filter (fun o => decide (0 < o.2.next) || !o.2.nulls.isEmpty)).map (fun o => Job.order o.1)) s

/-- Take a launch away. -/
def dropLaunch (id : Nat) (s : State) : State :=
  let l := s.launch id
  let s := unpinCold l s
  let s := returnGranules l.granules s
  let s := if l.pageWait.isEmpty then s else later (.outsideDone id) s
  { s with jigs := { s.jigs with launches := Tbl.del s.jigs.launches id } } |> wakeLists |> wakeOrders

/-- The launch's context is parted here or a fault ended the launch: a delegated task completes with ST_PARTED, a message
gives its ring space back; a doorbell launch is not reported (03 R136; log entry 17). -/
def abandonLaunch (id : Nat) (s : State) : State :=
  let l := s.launch id
  let s := dropLaunch id s
  match l.owner with
  | .delegated pkt => later (.completion pkt stParted true l.subnormal) s
  | .handler ch start => later (.ringFree ch start) s
  | .optimizer b => later (.optimized b stParted true) s
  | .bringIn => later (.broughtIn l.part l.ctx stParted true) s
  | _ => s

/-- The bits of a LAUNCH_DONE record beside its header (07 R320). -/
def launchDoneBody (addr status : Nat) (poison sub : Bool) (tasks : Nat) : Nat :=
  put addr 64 52 + put status 128 8 + put (flag poison) 136 1 + put (flag sub) 137 1 + put tasks 160 32

/-- Report a doorbell launch (03 R126, 07 R320). -/
def launchDoneRecord (p c addr status : Nat) (poison sub : Bool) (tasks : Nat) (s : State) : State :=
  putCompletion p (recordHeader 0 2 p c false + launchDoneBody addr status poison sub tasks) s

/-- The subnormal flags of a launch's tasks join those of the launch that its own task belongs to, or of its serving
section (02 R96, 04 R193). -/
def tellSubnormal (i : Nat) (sub : Bool) (s : State) : State :=
  match (s.slot i).role with
  | .serveSect k =>
    modServe (s.slot i).part (fun v =>
      let x := v.sections.getD k {}
      { v with sections := setAt v.sections k { x with subnormal := x.subnormal || sub } }) s
  | _ => noteSubnormal i sub s

/-- What a launch's tasks have reported of subnormal numbers is told on. -/
def passSubnormal (id : Nat) (s : State) : State :=
  match (s.launch id).slotOf with
  | some i => tellSubnormal i (s.launch id).subnormal s
  | none => s

/-- A launch completes with a status (03 R124, R126, R137, R148). -/
def endLaunch (id status : Nat) (poison : Bool) (s : State) : State :=
  let l := s.launch id
  let s := dropLaunch id s
  match l.owner with
  | .task i => s |> tellSubnormal i l.subnormal |> retire i status poison
  | .doorbell a => launchDoneRecord l.part l.ctx a status poison l.subnormal l.created s
  | .delegated pkt => later (.completion pkt status poison l.subnormal) s
  | .handler ch start => later (.ringFree ch start) s
  | .bringIn => later (.broughtIn l.part l.ctx status poison) s
  | .optimizer b => later (.optimized b status poison) s

/-- A launch is complete when all its tasks have been created and have retired (03 R137). -/
def checkLaunch (id : Nat) (s : State) : State :=
  match Tbl.find s.jigs.launches id with
  | none => s
  | some l =>
    if l.phase == .running && l.todo.isEmpty && l.alive == 0 then
      if l.created == 0 then endLaunch id stNull false s else endLaunch id l.status l.poisoned s
    else s

/-- The status of a launch takes in a task's final status: the most severe class, and in it the lowest task_id
(01 R24, 03 R137). -/
def noteStatus (id status taskId : Nat) (sink poison : Bool) (s : State) : State :=
  if (Tbl.find s.jigs.launches id).isNone then s
  else
    modLaunch id (fun l =>
      let better := l.statusTask == 0xFFFFFFFF + 1 || decide (statusClass l.status < statusClass status)
        || (statusClass l.status == statusClass status && decide (taskId < l.statusTask))
      { l with
        status := if better then status else l.status
        statusTask := if better then taskId else l.statusTask
        poisoned := l.poisoned || (sink && poison) }) s

/-- The launch raises a fault against its context and creates no task. The dependency engine raises the faults of a command
list that it reads and checks (03 R158). -/
def failLaunch (id fault : Nat) (s : State) : State :=
  let l := s.launch id
  let s := raiseCtx fault (if l.phase == .cmdlist then srcDependency else srcJig) l.part l.ctx (s.launchDetail l) s
  if s.gone l.part l.ctx then s else abandonLaunch id s

/-! ### Starting a launch (03 R124, R126) -/

/-- JIG_LAUNCHES counts launches of every kind, also the handler, bring-in and optimizer launches that other rules than R126 start,
and one whose record is of kind 2 (03 R161; DESIGN CHOICE, log entry 96). -/
def countLaunch (s : State) : State :=
  { s with jigs := { s.jigs with launchesCount := wrapAdd s.jigs.launchesCount 1 64 } }

/-- Start a launch: its record is read (03 R124, R126, R161). -/
def startLaunch (owner : LaunchOwner) (p c epoch addr param : Nat) (s : State) : State :=
  let id := s.jigs.nextLaunch
  let s := countLaunch s
  let l : Launch :=
    { part := p, ctx := c, epoch := epoch, owner := owner, paramPtr := param, order := id, statusTask := 0xFFFFFFFF + 1 }
  { s with jigs := { s.jigs with nextLaunch := id + 1 } }
    |> wakeUp swJig |> setLaunch id l |> issueRead (.launch id) addr 32 p c false

/-- The launch record lies in the command area of a RECV instance. -/
def State.fromRecv (s : State) (l : Launch) : Bool :=
  match l.slotOf with
  | some i =>
    match (s.slot i).role with
    | .recv _ _ => true
    | _ => false
  | none => false

/-- The record has come (03 R125, R148): it is checked, and the jig body, or the predicate word of a list, is next. -/
def launchRecord (id r : Nat) (s : State) : State :=
  let l := s.launch id
  let recv := s.fromRecv l
  let s := setLaunch id { l with record := r, paramPtr := if recv then l.paramPtr else
    match l.owner with
    | .handler _ _ => l.paramPtr
    | .optimizer _ => l.paramPtr
    | _ => recParam r } s
  if badRecord r recv then failLaunch id fltJigNode s
  else if recKind r == 2 then endLaunch id stOk false s
  else if recKind r == 0 then
    if s.build.jigSlots ≤ recJig r then failLaunch id fltJigNode s
    else if (Tbl.find s.jigs.cache (recJig r)).isSome then later (.launchPlan id) s
    else
      let s := modLaunch id (fun l => { l with phase := .jig }) s
      if (Tbl.find s.jigs.filling (recJig r)).isSome then s
      else
        { s with jigs := { s.jigs with filling := Tbl.put s.jigs.filling (recJig r) (0, none) } }
          |> issueRead (.jigDir (recJig r)) (s.jigTable + 16 * recJig r) 16 l.part l.ctx false
  else later (.launchPlan id) s

/-- The launches that wait for a jig body. -/
def State.waitJig (s : State) (slot : Nat) : List Nat :=
  (s.jigs.launches.filter (fun e => e.2.phase == .jig && recJig e.2.record == slot)).map (·.1)

/-- The cache fill of a jig slot ends: with its body, or with nothing. -/
def endFill (slot : Nat) (body : Option Blob) (s : State) : State :=
  { s with
    jigs := { s.jigs with
      filling := Tbl.del s.jigs.filling slot
      cache := match body with
        | some b => Tbl.put s.jigs.cache slot b
        | none => s.jigs.cache } }

/-! ### Parameter words and counts (03 R128 to R131) -/

def Launch.word (l : Launch) (w : Nat) : Nat :=
  ((l.words.find? (fun e => e.1 == w)).map (fun e => e.2.toNat)).getD 0

/-- The parameter words that a launch needs: its predicate word, the counts, and the segment counts of SEND nodes
(03 R130, R131, R143). R128 numbers words 0 to 65,534: a word beyond, which a count_value or a SEND's position can name, is read like
the others (DESIGN CHOICE, log entry 96). -/
def State.wordsNeeded (s : State) (l : Launch) (b : Blob) : List Nat :=
  let skip := if recSkip l.record == 0xFFFF then [] else [recSkip l.record]
  if recKind l.record == 1 then skip
  else
    let ws := (jigNodes b).flatMap (fun n =>
      if n.kind == 2 then
        let m := s.exchMembers (jigExchange b n)
        (List.range m).flatMap (fun p => (List.range 8).map (fun k => n.countValue % 65536 + 16 * p + k))
      else if n.kind != 3 && n.countKind == 1 then [n.countValue % 65536]
      else [])
    dedup (sortBy (fun a b => decide (a ≤ b)) (skip ++ ws))

/-- The count of a node by its record and parameter word (03 R129). -/
def rawCount (l : Launch) (n : Node) : Nat :=
  if n.countKind == 1 then (l.word (n.countValue % 65536) + 2 ^ n.countShift - 1) / 2 ^ n.countShift
  else n.countValue

/-- The eight item counts of a SEND instance, 32 bits each (03 R143, R145). -/
def segmentCounts (l : Launch) (n : Node) (p : Nat) : Nat :=
  (List.range 8).foldl (fun acc k => acc + put (l.word (n.countValue % 65536 + 16 * p + k)) (32 * k) 32) 0

/-- A counted node: its count after null conversion, and the instances that are not null (03 R129, R138, R143, R146). -/
structure Counted where
  node : Node
  n    : Nat
  live : List Nat
deriving DecidableEq, Repr, Inhabited

def State.countNode (s : State) (l : Launch) (b : Blob) (n : Node) : Counted :=
  if n.kind == 2 then
    let m := s.exchMembers (jigExchange b n)
    { node := n, n := m, live := (List.range m).filter (fun p => segmentCounts l n p != 0) }
  else if n.kind == 3 then { node := n, n := 1, live := [0] }
  else
    let c := rawCount l n
    if c == 0 then { node := n, n := 1, live := [] } else { node := n, n := c, live := List.range c }

def State.countJig (s : State) (l : Launch) (b : Blob) : List Counted := (jigNodes b).map (s.countNode l b)

/-! ### Edges (03 R122, R138) -/

/-- The target instances of one spec from source instance `i`, before null instances are taken out. -/
def targetsOf (e : EdgeSpec) (i nt : Nat) : List Nat :=
  match e.pattern with
  | 0 => [i]
  | 1 => [e.inst]
  | 2 => List.range nt
  | 3 => List.range nt
  | _ => []

/-- The condition of a pattern on the counts (03 R122). -/
def patternOk (e : EdgeSpec) (ns nt : Nat) (sameGang : Bool) : Bool :=
  match e.pattern with
  | 0 => ns == nt
  | 1 => decide (e.inst < nt)
  | 2 => ns == 1
  | 3 => decide (ns ≤ 65535)
  | 4 => sameGang
  | _ => false

/-- Edge entries out of one instance: target node, target instance, kind (03 R122, R138; 10 R407). -/
def entriesOf (cs : List Counted) (specs : List EdgeSpec) (listed det : Bool) (a i : Nat) : List (Nat × Nat × Nat) :=
  match cs[a]? with
  | none => []
  | some c =>
    (specsOf specs c.node).flatMap (fun e =>
      match cs[e.target]? with
      | none => []
      | some t =>
        let kind := if e.via && (!listed || det) then 2 else 1
        ((targetsOf e i t.n).filter (fun j => t.live.contains j)).map (fun j => (e.target, j, kind)))

/-- How many edge entries name an instance. -/
def predsOf (cs : List Counted) (specs : List EdgeSpec) (t j : Nat) : Nat :=
  (List.range cs.length).foldl
    (fun acc a =>
      match cs[a]? with
      | none => acc
      | some c =>
        acc + ((specsOf specs c.node).foldl
          (fun k e =>
            if e.target == t then
              k + (c.live.filter (fun i => (targetsOf e i ((cs[t]?.map (·.n)).getD 0)).contains j)).length
            else k) 0)) 0

/-! ### Gangs of nodes (02 R89, 03 R133) -/

/-- The nodes of the gang that starts at node `a`: up to its gang_end, at most 4. -/
def gangNodes (ns : List Node) : Nat → Nat → List Nat
  | 0, _ => []
  | k + 1, a =>
    match ns[a]? with
    | some n => if n.gang && !n.gangEnd then a :: gangNodes ns k (a + 1) else [a]
    | none => []

/-- The first node of each gang and the single nodes, in order, with the nodes of each group. -/
def nodeGroups (ns : List Node) : List (List Nat) :=
  (List.range ns.length).filterMap (fun a =>
    match ns[a]? with
    | none => none
    | some n =>
      let starts := a == 0 || !((ns[a - 1]?.map (fun m => m.gang && !m.gangEnd)).getD false)
      if n.gang then (if starts then some (gangNodes ns 5 a) else none) else some [a])

/-- A gang is 2 to 4 members whose last, and only whose last, has gang_end (02 R89). -/
def gangOk (ns : List Node) (g : List Nat) : Bool :=
  match g with
  | [a] => (ns[a]?.map (fun n => !n.gang && !n.gangEnd)).getD false
  | _ => decide (2 ≤ g.length) && decide (g.length ≤ 4) &&
      (ns[g.getLast?.getD 0]?.map (fun n => n.gang && n.gangEnd)).getD false

/-! ### Checks of a jig launch (02 R53, R89; 03 R122, R127, R129, R135; 09 R380) -/

/-- The descriptor fields that 02 R53 rules out. The rule does not apply to a task that is never placed on an engine
(02 R88, 03 R124, 09 R377). -/
def badTask (placed : Bool) (cost escalate format : Nat) : Bool :=
  placed && (escalate == 3 || format == 3 || cost == 0 || (escalate == 2 && format == 2))

/-- The node's instances go to an engine. -/
def placedNode (n : Node) : Bool := (n.kind == 0 && !neverPlaced n.vgroup) || n.kind == 2

/-- The engine class of a node's tasks: a SEND instance is a mover task (03 R143). -/
def nodeClass (n : Node) : Nat := if n.kind == 2 then 2 else n.engineClass

/-- An ordered key with bits 31:28 set or an index that launches may not use (09 R380). -/
def badOrderKey (k : Nat) : Bool := fld k 28 4 != 0 || decide (0xF00 ≤ k % 4096)

/-- The node's instances carry ordered 1 (10 R407). -/
def State.orderedNode (s : State) (l : Launch) (a : Nat) (n : Node) : Bool :=
  if s.listedNode l.part (recJig l.record) a then s.detOf l.part else n.ordered

/-- Headers already counted for a generation of an exchange, and whether one was poisoned (03 R146). -/
def Exchange.counted (x : Exchange) (g : Nat) : Nat × Bool :=
  let hs := x.headers.filter (fun h => h.1 == g)
  (hs.length, hs.any (fun h => h.2.2))

/-- The counts that an instance of a node takes beside those of its edges (03 R135): page residency, a cold block that is not
RESIDENT, and a RECV instance's headers that have not been counted yet. -/
def State.ownCounts (s : State) (l : Launch) (b : Blob) (n : Node) : Nat :=
  let e := jigExchange b n
  flag n.pageWait + flag (n.cold && (s.cold l.part n.coldBlock).st != 2)
    + (if n.kind == 3 then s.exchMembers e - ((s.exchange e).counted (s.exchange e).recvGen).1 else 0)

/-- The fault that stops the launch, if one does. count_max bounds the counts that R129 computes, of ENGINE and JOIN nodes; the
instances of SEND and RECV nodes are those of R143 and R146 (DESIGN CHOICE, log entry 96). -/
def State.checkJig (s : State) (l : Launch) (b : Blob) : Option Nat :=
  let ns := jigNodes b
  let specs := jigSpecs b
  let cs := s.countJig l b
  let gs := nodeGroups ns
  let gangOf (a : Nat) := gs.findIdx? (fun g => g.contains a)
  if ns.any (fun n => badTask (placedNode n) n.costCycles n.escalate n.formatClass) || gs.any (fun g => !gangOk ns g)
      || ns.any (fun n => n.pageWait && !recStreamValid l.record) then some fltJigNode
  else if cs.any (fun c => c.node.kind ≤ 1 && decide (c.node.countMax < rawCount l c.node)) then some fltJigCount
  else if (List.range cs.length).any (fun a =>
      match cs[a]? with
      | none => false
      | some c => (specsOf specs c.node).any (fun e =>
          match cs[e.target]? with
          | none => true
          | some t => !patternOk e c.n t.n (c.node.gang && gangOf a == gangOf e.target))) then some fltJigCount
  else if (List.range cs.length).any (fun a =>
      match cs[a]? with
      | none => false
      | some c => s.orderedNode l a c.node &&
          c.live.any (fun i => badOrderKey ((recDet l.record + c.node.detOffset + i) % 2 ^ 32))) then some fltJigNode
  else if (List.range cs.length).any (fun a =>
      match cs[a]? with
      | none => false
      | some c => c.live.any (fun i =>
          let k := predsOf cs specs a i
          decide (65535 < k + flag (k == 0) + s.ownCounts l b c.node))) then some fltJigCount
  else none

/-- The tasks to create, in the order of creation: (node, instance); a gang's members follow each other (03 R133). -/
def creationOrder (ns : List Node) (cs : List Counted) : List (List (Nat × Nat)) :=
  (nodeGroups ns).flatMap (fun g =>
    match g with
    | [] => []
    | a :: _ => ((cs[a]?.map (·.live)).getD []).map (fun i => g.map (fun n => (n, i))))

/-- The cold blocks of a jig launch: those that its nodes name (03 R156), and of them those that an instance will need
(03 R155), by first use. -/
def coldBlocks (cs : List Counted) : List Nat × List Nat :=
  let cold := cs.filter (fun c => c.node.cold)
  (dedup (cold.map (fun c => c.node.coldBlock)), dedup ((cold.filter (fun c => !c.live.isEmpty)).map (fun c => c.node.coldBlock)))

/-! ### Command lists (03 R157, R158) -/

def listCount (b : Blob) : Nat := fld b.bits 0 13
def listGranules (b : Blob) : Nat := fld b.bits 16 16
def listDesc (b : Blob) (k : Nat) : Desc := descOf (fld b.bits (512 + 256 * k) 256)
def listGranule (b : Blob) (g : Nat) : Nat := fld b.bits (512 + 256 * listCount b + 512 * g) 512

/-- The length of a list by its header (03 R157). -/
def listBytes (header : Nat) : Nat := 64 + 32 * fld header 0 13 + 64 * fld header 16 16

/-- The granules of a chain, list-relative, in order; `none` when it leaves the list or returns to itself. -/
def chainOf (b : Blob) : Nat → Nat → List Nat → Option (List Nat)
  | 0, p, seen => if p == 0 then some seen.reverse else none
  | k + 1, p, seen =>
    if p == 0 then some seen.reverse
    else if listGranules b < p || seen.contains (p - 1) then none
    else chainOf b k (fld (listGranule b (p - 1)) 4 32) ((p - 1) :: seen)

/-- The valid entries of a granule. -/
def granuleEntries (g : Nat) : List Nat := (List.range (fld g 0 4)).map (fun k => fld g (64 + 32 * k) 32)

/-- The entries of a task's chain, in order. -/
def listEntries (b : Blob) (k : Nat) : List Nat :=
  ((chainOf b (listGranules b) (listDesc b k).edgePtr []).getD []).flatMap (fun g => granuleEntries (listGranule b g))

/-- How many entries of the list name each task. -/
def listPreds (b : Blob) (k : Nat) : Nat :=
  (List.range (listGranules b)).foldl
    (fun acc g => acc + ((granuleEntries (listGranule b g)).filter (fun e => fld e 0 18 == k)).length) 0

/-- The list's task length bound, in fc (11 R449). -/
def State.boundFc (s : State) : Nat := 50 * s.recU tyHeader 0 0 40 2

/-- Gangs of a list: consecutive tasks (02 R89). -/
def listGroups (b : Blob) : List (List Nat) :=
  nodeGroups ((List.range (listCount b)).map (fun k =>
    { (default : Node) with gang := (listDesc b k).gang, gangEnd := (listDesc b k).gangEnd }))

def listGangOk (b : Blob) (g : List Nat) : Bool :=
  gangOk ((List.range (listCount b)).map (fun k =>
    { (default : Node) with gang := (listDesc b k).gang, gangEnd := (listDesc b k).gangEnd })) g

/-- The list passes every check of 03 R158. -/
def State.listOk (s : State) (b : Blob) : Bool :=
  let n := listCount b
  let m := listGranules b
  let ds := (List.range n).map (listDesc b)
  let heads := (ds.map (·.edgePtr)) ++ (List.range m).map (fun g => fld (listGranule b g) 4 32)
  let named := heads.filter (· != 0)
  fld b.bits 13 3 == 0 && fld b.bits 32 480 == 0 && decide (1 ≤ n) && decide (n ≤ 4096)
    && (List.range n).all (fun k => (ds.getD k {}).taskId == k)
    && named.all (fun p => decide (p ≤ m))
    && (List.range m).all (fun g =>
        let w := listGranule b g
        decide (fld w 0 4 ≤ 14) && fld w 36 28 == 0 &&
          (granuleEntries w).all (fun e => decide (fld e 0 18 < n) && (fld e 18 2 == 1 || fld e 18 2 == 2)))
    && decide ((dedup named).length = named.length)
    && (List.range m).all (fun g => (chainOf b m (g + 1) []).isSome)
    && (List.range n).all (fun k => (ds.getD k {}).depCount == listPreds b k + flag (ds.getD k {}).pageWait)
    && ds.all (fun d => !(d.ordered && badOrderKey d.detKey))
    && ds.all (fun d => d.vgroup != 0xFFFC && d.vgroup != 0xFFFB)
    && ds.all (fun d => !badTask (!neverPlaced d.vgroup) d.costCycles d.escalate d.formatClass)
    && (listGroups b).all (listGangOk b)
    && ds.all (fun d => neverPlaced d.vgroup || !s.ownTask d.partition d.vgroup d.engineClass ||
        decide ((if d.escalate == 2 then 16 else 1) * d.costCycles ≤ s.boundFc))

/-! ### Planning (03 R130 to R132) -/

/-- What the launch needs: groups of tasks in creation order, and granules. -/
def State.needs (s : State) (l : Launch) : List (List (Nat × Nat)) × Nat :=
  if recKind l.record == 1 then
    ((listGroups l.list).map (fun g => g.map (fun k => (k, 0))), listGranules l.list)
  else
    let b := s.bodyOf l
    let ns := jigNodes b
    let cs := s.countJig l b
    let specs := jigSpecs b
    let det := s.detOf l.part
    let groups := creationOrder ns cs
    let edges := groups.flatten.foldl
      (fun acc t =>
        acc + ceilDiv (entriesOf cs specs (s.listedNode l.part (recJig l.record) t.1) det t.1 t.2).length 14) 0
    let waits (k : Nat) : Nat := groups.flatten.countP (fun t => (ns[t.1]?.map (fun n => n.cold && n.coldBlock == k)).getD false)
    let missing := (coldBlocks cs).2.filter (fun k => (s.cold l.part k).st != 2)
    (groups, edges + (missing.map (fun k => ceilDiv (waits k) 14)).foldl (· + ·) 0)

/-- The cold blocks of a launch: those it names, and of them those that its instances will need. -/
def State.coldOf (s : State) (l : Launch) : List Nat × List Nat :=
  if recKind l.record == 1 then ([], [])
  else coldBlocks (s.countJig l (s.bodyOf l))

/-- The blocks that the launch needs and that have no slot of the cold area. -/
def State.coldWants (s : State) (l : Launch) : List Nat :=
  (s.coldOf l).2.filter (fun k => (s.cold l.part k).slot.isNone)

/-- All words are there: predicate, counts, checks, and the launch waits at reservation (03 R131, R132). -/
def launchCounted (id : Nat) (s : State) : State :=
  let l := s.launch id
  if recSkip l.record != 0xFFFF && l.word (recSkip l.record) != 0 then endLaunch id stNull false s
  else if recKind l.record == 1 then
    s |> modLaunch id (fun l => { l with phase := .cmdlist })
      |> issueRead (.cmdlist id) (recCmd l.record) 64 l.part l.ctx false
  else
    let b := s.bodyOf l
    match s.checkJig l b with
    | some f => failLaunch id f s
    | none =>
      let (groups, grans) := s.needs l
      let fetches := ((s.coldOf l).2.filter (fun k => (s.cold l.part k).st == 0)).length
      if s.build.taskSlots < groups.flatten.length + fetches || s.edgePool l.part < grans then
        failLaunch id fltJigSize s
      else modLaunch id (fun l => { l with phase := .waiting }) s

/-- The granules that parameter words lie in, ascending. -/
def wordGranules (ptr : Nat) (ws : List Nat) : List Nat :=
  sortBy (fun a b => decide (a ≤ b)) (dedup (ws.flatMap (fun w => [(ptr + 4 * w) / 64, (ptr + 4 * w + 3) / 64])))

/-- The jig body, or the list's turn, has come: read the words the launch needs (03 R130). -/
def launchPlan (id : Nat) (s : State) : State :=
  match Tbl.find s.jigs.launches id with
  | none => s
  | some l =>
    let b := s.bodyOf l
    let s := if recKind l.record == 0 then modLaunch id (fun l => { l with body := some b }) s else s
    match s.wordsNeeded l b with
    | [] => launchCounted id s
    | w :: ws =>
      s |> modLaunch id (fun l => { l with phase := .params })
        |> issueReads (.params id (w :: ws)) ((wordGranules l.paramPtr (w :: ws)).map (fun g => (64 * g, 64))) l.part l.ctx false

/-- The list has been read (03 R158). -/
def launchList (id : Nat) (b : Blob) (s : State) : State :=
  let l := s.launch id
  if !s.listOk b then failLaunch id fltCmdlist s
  else if s.build.taskSlots < listCount b || s.edgePool l.part < listGranules b then failLaunch id fltJigSize s
  else modLaunch id (fun l => { l with list := b, phase := .waiting }) s

/-! ### Reservation (03 R132, R133, R156; 10 R415) -/

/-- The lowest free granules of the edge region. -/
def State.freeGranules (s : State) (k : Nat) : List Nat :=
  (((List.range (s.tasks.granules.length + k)).map (· + 1)).filter (fun g =>
    (Tbl.find s.tasks.granules g).isNone && decide (g < s.edgeGranules))).take k

/-- Granules that a partition holds. -/
def State.granulesHeld (s : State) (p : Nat) : Nat := (s.tasks.granules.filter (fun e => e.2 == p)).length

/-- The tasks of a launch in creation order, each gang with its slots: the first run of free slots, found by the search of
03 R133. A gang's run does not move the point from which singles search (log entry 18). -/
def chooseRuns (s : State) : List (List (Nat × Nat)) → List Nat → List Todo → Option (List Todo)
  | [], _, acc => some acc
  | [t] :: rest, taken, acc => chooseRuns s rest taken (acc ++ [{ node := t.1, inst := t.2 }])
  | g :: rest, taken, acc =>
    let n := s.build.taskSlots
    let run (i : Nat) : List Nat := (List.range g.length).map (i + ·)
    match searchFrom (fun i => decide (i + g.length ≤ n) && (run i).all (fun j => s.slotFree j && !taken.contains j))
        n n s.tasks.lastAlloc with
    | none => none
    | some i =>
      chooseRuns s rest (run i ++ taken)
        (acc ++ List.zipWith (fun t j => { node := t.1, inst := t.2, slot := some j }) g (run i))

/-- Cold blocks of a partition in its cold area. -/
def State.coldUsed (s : State) (p : Nat) : List Nat :=
  (s.jigs.cold.filter (fun e => e.1 / 2048 == p)).filterMap (fun e => e.2.slot)

/-- The block that gives its slot up: RESIDENT and unpinned, least recently used; under DET=1 the one whose last pin began
at the lowest boundary, ties by index (03 R156, 10 R415). -/
def State.coldVictim (s : State) (p : Nat) : Option Nat :=
  let cand := s.jigs.cold.filter (fun e => e.1 / 2048 == p && e.2.st == 2 && e.2.pins == 0)
  let key (x : Cold) : Nat := if s.detOf p then x.boundary else x.used
  (leastBy (fun a b => decide (key a.2 < key b.2) || (key a.2 == key b.2 && decide (a.1 < b.1))) cand).map (fun e => e.1 % 2048)

/-- The boundary count as this instance has it when a pin begins (10 R409, R415). Away from the home no message tells it of the
boundaries that change no membership record, so that it is a free value there (log entry 38). -/
def boundaryHere (p : Nat) (s : State) : Nat × State :=
  if s.isHome p || !s.detOf p then ((s.det p).boundary, s) else takeFree 32 s

/-- Pin a block (03 R156). Last use, by which the least recently used block is told, is the block's last pin, unpin or end of
fetch, in the order of commands (DESIGN CHOICE, log entry 96). -/
def pinCold (p b : Nat) (s : State) : State :=
  let (n, s) := boundaryHere p s
  modCold p b (fun x => { x with pins := x.pins + 1, used := s.clock, boundary := n }) s

/-- Give a block a slot of the cold area: a free one, or the victim's (03 R156). -/
def placeCold (p b : Nat) (s : State) : Option State :=
  match (List.range (s.coldSlots p)).find? (fun k => !(s.coldUsed p).contains k), s.coldVictim p with
  | some k, _ => some (modCold p b (fun x => { x with slot := some k }) s)
  | none, some v =>
    some (s |> modCold p v (fun x => { x with st := 0, slot := none })
      |> modCold p b (fun x => { x with slot := (s.cold p v).slot }))
  | none, none => none

/-- Every block that a launch names is pinned; then those that it will fetch get their slots of the cold area. -/
def pinAll (l : Launch) (s : State) : Option State :=
  (s.coldWants l).foldl (fun o b => o.bind (placeCold l.part b)) (some ((s.coldOf l).1.foldl (fun s b => pinCold l.part b s) s))

/-- Groups with the fetch tasks of ABSENT blocks put before the first instance that names each (03 R155). A fetch task
stands as node 4096 + block. -/
def withFetches (absent : List Nat) (blockOf : Nat → Option Nat) :
    List (List (Nat × Nat)) → List Nat → List (List (Nat × Nat))
  | [], _ => []
  | g :: rest, done =>
    let bs := (g.filterMap (fun t => blockOf t.1)).filter (fun b => absent.contains b && !done.contains b)
    (dedup bs).map (fun b => [(4096 + b, (g.head?.map (·.2)).getD 0)]) ++ g :: withFetches absent blockOf rest (bs ++ done)

/-- Reserve everything a launch needs at once (03 R132), or nothing. -/
def tryReserve (id : Nat) (s : State) : Option State :=
  let l := s.launch id
  let (groups, grans) := s.needs l
  let b := s.bodyOf l
  let absent := (s.coldOf l).2.filter (fun k => (s.cold l.part k).st == 0)
  let blockOf (a : Nat) : Option Nat :=
    match (jigNodes b)[a]? with
    | some n => if n.cold then some n.coldBlock else none
    | none => none
  let groups := if recKind l.record == 1 then groups else withFetches absent blockOf groups []
  if s.edgePool l.part < s.granulesHeld l.part + grans || s.slotsFree < groups.flatten.length then none
  else
    let gs := s.freeGranules grans
    if gs.length < grans then none
    else
      match chooseRuns s groups [] [], pinAll l s with
      | some todo, some s =>
        some ({ s with tasks := { s.tasks with granules := gs.foldl (fun t g => Tbl.put t g l.part) s.tasks.granules } }
          |> modLaunch id (fun l => { l with phase := .creating, todo := todo, granules := gs, cold := (s.coldOf l).1 })
          |> later (.create id))
      | _, _ => none

/-- The launch of a partition that is served next at reservation: the first started. Under DET=1, when that one waits for slots
of the cold area, it is the launch with the lowest det_key_base of all that do (03 R132, 10 R415). -/
def State.nextWaiter (s : State) (p : Nat) : Option Nat :=
  let ws := s.jigs.launches.filter (fun e => e.2.part == p && e.2.phase == .waiting)
  let first := leastBy (fun a b => decide (a.2.order < b.2.order)) ws
  let wants (e : Nat × Launch) : Bool := !(s.coldWants e.2).isEmpty
  if s.detOf p && (first.map wants).getD false then
    (leastBy (fun a b => decide (recDet a.2.record < recDet b.2.record)
      || (recDet a.2.record == recDet b.2.record && decide (a.2.order < b.2.order))) (ws.filter wants)).map (·.1)
  else first.map (·.1)

/-! ### Creation (03 R133 to R135, R138, R143, R146, R155, R158) -/

/-- Write one edge granule: its entries (slot, kind, generation), at most 14, and the next of its chain (02 R60, R61). -/
def writeGranule (id p c g next : Nat) (es : List (Nat × Nat × Nat)) (s : State) : State :=
  let bits := es.zipIdx.foldl
    (fun acc e => acc + (put e.1.1 0 18 + put e.1.2.1 18 2 + put e.1.2.2 20 12) * 2 ^ (64 + 32 * e.2))
    (put es.length 0 4 + put next 4 32)
  issueWrite (.edge id) (s.edgeRegion + 64 * g) ⟨64, bits⟩ p c false s

/-- Write entries into granules, 14 in each, and chain them. -/
def writeGranules (id p c : Nat) : List Nat → List (Nat × Nat × Nat) → State → State
  | [], _, s => s
  | g :: gs, es, s =>
    s |> writeGranule id p c g (gs.head?.getD 0) (es.take 14) |> writeGranules id p c gs (es.drop 14)

/-- The slot of a task that a launch has created. -/
def Launch.slotFor (l : Launch) (a i : Nat) : Nat :=
  ((l.plan.find? (fun t => t.node == a && t.inst == i)).bind (·.slot)).getD 0

/-- The slot in which a task is created: a gang member's own, or by the search of 03 R133, which goes on from there. -/
def takeSlot (t : Todo) (s : State) : Nat × State :=
  match t.slot, s.nextSlot with
  | some i, _ => (i, s)
  | none, some i => (i, { s with tasks := { s.tasks with lastAlloc := i } })
  | none, none => (0, s)

/-- Write a created task: descriptor to bed memory through the creation buffer (03 R133), slot by 02 R57. -/
def emitTask (id i : Nat) (t : Todo) (x : Slot) (d : Desc) (s : State) : State :=
  let l := s.launch id
  let d := { d with taskId := s.taskId i, partition := l.part, context := l.ctx, epoch := l.epoch % 256 }
  let s := createTask i { x with launch := some id } d l.part l.ctx s
  let s :=
    if s.hasBed then
      issueWrite (.desc id) (s.taskTable + 32 * i) ⟨32, d.bits⟩ l.part l.ctx false
        { s with jigs := { s.jigs with buffer := s.jigs.buffer + 1 } }
    else s
  { s with jigs := { s.jigs with created := wrapAdd s.jigs.created 1 64 } }
    |> modLaunch id (fun l => { l with created := l.created + 1, alive := l.alive + 1, plan := l.plan ++ [{ t with slot := some i }] })

/-- The content of a segment header (03 R145). -/
def segmentHeader (counts gen source exch : Nat) (poison zero : Bool) : Granule :=
  BitVec.ofNat 512
    (fld counts 0 256 + put gen 256 32 + put source 288 16 + put exch 304 8 + put (flag poison + 2 * flag zero) 312 8)

/-- The edge entries out of an instance of a launch, before slots are known. -/
def State.entriesFor (s : State) (l : Launch) (a i : Nat) : List (Nat × Nat × Nat) :=
  let b := s.bodyOf l
  entriesOf (s.countJig l b) (jigSpecs b) (s.listedNode l.part (recJig l.record) a) (s.detOf l.part) a i

/-- A granule for a launch's waiters: one that it has reserved; beyond these the lowest free one, if there is one (log entry
88). -/
def takeGranule (id : Nat) (s : State) : Option (Nat × State) :=
  match (s.launch id).granules with
  | g :: gs => some (g, modLaunch id (fun l => { l with granules := gs }) s)
  | [] => (s.freeGranules 1).head?.map (fun g =>
      (g, { s with tasks := { s.tasks with granules := Tbl.put s.tasks.granules g (s.launch id).part } }))

/-- Waiters for which there was no granule: the fetch task counts them down itself (log entry 88). -/
def Cold.beyond (x : Cold) : List (Nat × Nat) := x.waiters.drop (14 * x.chain.length)

/-- Write the tail of a waiter list. -/
def writeTail (id p c : Nat) (x : Cold) (s : State) : State :=
  writeGranule id p c (x.chain.getLastD 0) 0
    ((x.waiters.drop (14 * (x.chain.length - 1))).map (fun w => (w.1, 1, w.2))) s

/-- Append an instance to the waiter list of the fetch task of an INBOUND block (03 R155): edge granules of the fetch task,
written as they grow. -/
def appendWaiter (id block i : Nat) (s : State) : State :=
  let l := s.launch id
  let x := s.cold l.part block
  let grown := { x with waiters := x.waiters ++ [(i, (s.slot i).gen)] }
  let put (x : Cold) (s : State) : State := s |> modCold l.part block (fun _ => x) |> writeTail id l.part l.ctx x
  if x.waiters.length < 14 * x.chain.length then put grown s
  else
  match if x.beyond.isEmpty then takeGranule id s else none with
  | none => modCold l.part block (fun _ => grown) s
  | some (g, s) =>
    let f := x.task.getD 0
    let s := modSlot f (fun y => { y with edgePtr := if y.edgePtr == 0 then g else y.edgePtr, granules := y.granules ++ [g] }) s
    let s := match x.chain.getLast? with
      | some tail => writeGranule id l.part l.ctx tail g ((x.waiters.drop (14 * (x.chain.length - 1))).map (fun w => (w.1, 1, w.2))) s
      | none => s
    put { grown with chain := x.chain ++ [g] } s

/-- Create one instance of a jig node (03 R127, R133 to R135). -/
def createInstance (id : Nat) (t : Todo) (s : State) : State :=
  let (i, s) := takeSlot t s
  let l := s.launch id
  let b := s.bodyOf l
  let cs := s.countJig l b
  match cs[t.node]? with
  | none => s
  | some c =>
    let n := c.node
    let listed := s.listedNode l.part (recJig l.record) t.node
    let grans := l.granules.take (ceilDiv (s.entriesFor l t.node t.inst).length 14)
    let preds := predsOf cs (jigSpecs b) t.node t.inst
    let hold := preds == 0
    let exch := jigExchange b n
    let cold := n.cold && (s.cold l.part n.coldBlock).st != 2
    let gen := (s.exchange exch).recvGen
    let hpoison := n.kind == 3 && ((s.exchange exch).counted gen).2
    let group := ((nodeGroups (jigNodes b)).find? (fun g => g.contains t.node)).getD [t.node]
    let place := (group.findIdx? (· == t.node)).getD 0
    let det_key := (recDet l.record + n.detOffset + t.inst) % 2 ^ 32
    let d : Desc :=
      { engineClass := if n.kind == 1 || n.kind == 3 then 0 else nodeClass n
        prio := n.prio, formatClass := n.formatClass, poison := hpoison
        ordered := if listed then s.detOf l.part else n.ordered
        gang := n.gang, gangEnd := n.gangEnd, escalate := n.escalate, skip := n.skip, pageWait := n.pageWait
        vgroup := if n.kind == 1 then 0xFFFC else if n.kind == 3 then 0xFFFB else n.vgroup
        depCount := preds + flag hold + s.ownCounts l b n
        costCycles := n.costCycles, costBytes := n.costBytes
        cmdPtr := (recCmd l.record / 256 + n.cmdOffset + t.inst) % 2 ^ 44
        edgePtr := grans.headD 0, detKey := det_key }
    let role : Role :=
      if n.kind == 2 then .segment exch t.inst (((l.sends.getD []).find? (fun e => e.1 == t.node)).map (·.2) |>.getD 0) (segmentCounts l n t.inst)
      else if n.kind == 3 then .recv exch gen
      else .plain
    let x : Slot :=
      { role := role, listed := listed, granules := grans, gangAt := if n.gang then some (i - place, group.length) else none }
    let s := modLaunch id (fun l =>
      { l with
        granules := l.granules.drop grans.length
        holders := if hold then l.holders ++ [i] else l.holders
        pageWait := if n.pageWait then l.pageWait ++ [i] else l.pageWait }) s
    let s :=
      if n.kind == 3 then
        modExchange exch (fun x =>
          { x with
            recvGen := wrapAdd x.recvGen 1 32, recvs := x.recvs ++ [(gen, i)]
            headers := x.headers.filter (fun h => h.1 != gen) }) s
      else s
    let s := emitTask id i t x d s
    if cold then appendWaiter id n.coldBlock i s else s

/-- Create the fetch task of a cold block for the instance `inst` of node `n` (03 R155): the entry goes to INBOUND. Its prio is
that of the node (log entry 19); no edge names it, so that it takes the launch hold (R134). -/
def createFetch (id block : Nat) (n : Node) (inst : Nat) (t : Todo) (s : State) : State :=
  let (i, s) := takeSlot t s
  let l := s.launch id
  let d : Desc :=
    { engineClass := 2, vgroup := 0xFFFF, prio := n.prio
      depCount := 1
      costCycles := s.recU tyCold l.part block 36 4, cmdPtr := fld (s.recU tyCold l.part block 40 8) 0 52 / 256
      detKey := (recDet l.record + n.detOffset + inst) % 2 ^ 32 }
  s |> modCold l.part block (fun k => { k with st := 1, task := some i, waiters := [], chain := [] })
    |> (fun s => { s with jigs := { s.jigs with coldFetches := wrapAdd s.jigs.coldFetches 1 64 } })
    |> modLaunch id (fun l => { l with holders := l.holders ++ [i] })
    |> emitTask id i t { role := .coldFetch block } d

/-- The fetch task planned for a block, with the det_key of the first instance that needs it: none when another launch's fetch
has been created since (03 R155); its reserved slot is given back. -/
def createPlanned (id block : Nat) (t : Todo) (s : State) : State :=
  let l := s.launch id
  let cs := s.countJig l (s.bodyOf l)
  match cs.find? (fun c => c.node.cold && c.node.coldBlock == block && !c.live.isEmpty) with
  | some c => if (s.cold l.part block).st == 0 then createFetch id block c.node (c.live.headD 0) t s else s
  | none => s

/-- Before an instance whose block a poisoned fetch has made ABSENT since the reservation, the block is fetched again when a
task slot is free (03 R155); otherwise the instance waits for the block's next fetch. The block has kept its pinned slot. -/
def fetchAgain (id : Nat) (t : Todo) (s : State) : State :=
  let l := s.launch id
  match (jigNodes (s.bodyOf l))[t.node]? with
  | none => s
  | some n =>
    if n.cold && (s.cold l.part n.coldBlock).st == 0 && s.slotsFree != 0 then
      createFetch id n.coldBlock n t.inst { node := 4096 + n.coldBlock, inst := t.inst } s
    else s

/-- Create one task of a command list (03 R157, R158). -/
def createListed (id : Nat) (t : Todo) (s : State) : State :=
  let (i, s) := takeSlot t s
  let l := s.launch id
  let b := l.list
  let d := listDesc b t.node
  let chain := (chainOf b (listGranules b) d.edgePtr []).getD []
  let gran (k : Nat) : Nat := l.granules.getD k 0
  let hold := listPreds b t.node == 0
  let group := ((listGroups b).find? (fun g => g.contains t.node)).getD [t.node]
  let place := (group.findIdx? (· == t.node)).getD 0
  let matrix := (group.filter (fun k => (listDesc b k).engineClass == 0)).length
  let d' := { d with depCount := d.depCount + flag hold, edgePtr := if d.edgePtr == 0 then 0 else gran (d.edgePtr - 1) }
  let s := modLaunch id (fun l =>
    { l with
      holders := if hold then l.holders ++ [i] else l.holders
      pageWait := if d.pageWait then l.pageWait ++ [i] else l.pageWait }) s
  let s :=
    if d.gang then
      let g := max s.power.gangMax matrix
      { s with power := { s.power with
          gangMax := g, width := if s.power.width != 0 && s.power.width < max 1 g then max 1 g else s.power.width } }
    else s
  emitTask id i t { granules := chain.map gran, gangAt := if d.gang then some (i - place, group.length) else none } d' s

/-! ### Edge granules (02 R59, R60; 03 R157)

An edge entry names its target's slot and generation: all edge granules of a launch are written when its last task has been
created, before any holder is counted down (log entry 18). -/

/-- The granules of one instance of a jig. -/
def writeEdges (id : Nat) (t : Todo) (s : State) : State :=
  let l := s.launch id
  let es := (s.entriesFor l t.node t.inst).map (fun e =>
    let j := l.slotFor e.1 e.2.1
    (j, e.2.2, (s.slot j).gen))
  if es.isEmpty then s else writeGranules id l.part l.ctx (s.slot (t.slot.getD 0)).granules es s

/-- The granules of one task of a list: its own, with slots, generations and granule indices rewritten. -/
def writeListed (id : Nat) (t : Todo) (s : State) : State :=
  let l := s.launch id
  let b := l.list
  ((chainOf b (listGranules b) (listDesc b t.node).edgePtr []).getD []).foldl
    (fun s g =>
      let w := listGranule b g
      let es := (granuleEntries w).map (fun e =>
        let j := l.slotFor (fld e 0 18) 0
        (j, fld e 18 2, (s.slot j).gen))
      let gran (k : Nat) : Nat := l.granules.getD k 0
      writeGranule id l.part l.ctx (gran g) (if fld w 4 32 == 0 then 0 else gran (fld w 4 32 - 1)) es s) s

/-- Null instances resolve at instantiation: counted, and a SEND node takes its generation and sends the zero-length
headers of its null instances (03 R138, R143, R144). -/
def resolveNulls (id : Nat) (s : State) : State :=
  let l := s.launch id
  let s := modLaunch id (fun l => { l with sends := some [] }) s
  if recKind l.record == 1 then s
  else
    let b := s.bodyOf l
    let cs := s.countJig l b
    (List.range cs.length).foldl
      (fun s a =>
        match cs[a]? with
        | none => s
        | some c =>
          let nulls := (List.range c.n).filter (fun i => !c.live.contains i)
          let s := { s with jigs := { s.jigs with nulls := wrapAdd s.jigs.nulls nulls.length 64 } }
          let key (i : Nat) := (recDet l.record + c.node.detOffset + i) % 2 ^ 32
          let s :=
            if s.orderedNode l a c.node then
              nulls.foldl (fun s i =>
                s |> modOrder (fld (key i) 12 16) (fun o => { o with nulls := o.nulls ++ [fld (key i) 0 12] })
                  |> later (.order (fld (key i) 12 16))) s
            else s
          if c.node.kind == 2 then
            let e := jigExchange b c.node
            let g := (s.exchange e).sendGen
            s |> modExchange e (fun x => { x with sendGen := wrapAdd x.sendGen 1 32 })
              |> modLaunch id (fun l => { l with sends := some (l.sends.getD [] ++ [(a, g)]) })
              |> laters (nulls.map (fun p => Job.header e p g (segmentHeader 0 g (s.exchSelf e) e false true)))
          else s) s

/-- Everything of a launch has been created: its edge granules are written, granules that no task of it holds go back to the
pool, each holder of the launch hold gets one decrement (03 R134), and the pages of its stream are asked for (05 R228).
The granules of a list that no chain of the list reaches are reserved and their entries count as predecessors (R158); they are
not written, and go back here (DESIGN CHOICE, log entry 96). A list may name page_wait although its launch has stream_valid 0: its
tasks are created, and no residency decrement comes for them (DESIGN CHOICE, log entry 96). -/
def finishCreate (id : Nat) (s : State) : State :=
  let l := s.launch id
  let list := recKind l.record == 1
  let s := l.plan.foldl (fun s t => if list then writeListed id t s else if 4096 ≤ t.node then s else writeEdges id t s) s
  let held := if list then l.plan.flatMap (fun t => (s.slot (t.slot.getD 0)).granules) else []
  let s := s |> returnGranules (l.granules.filter (fun g => !held.contains g))
    |> modLaunch id (fun l => { l with phase := .running, granules := [] })
  let s := if l.pageWait.isEmpty || !recStreamValid l.record then s else later (.outside id) s
  let s := laters (l.holders.map (fun i => Job.decrement i (s.slot i).gen false l.part l.ctx 0)) s
  s |> later (.launchCheck id) |> (if list then wakeLists else fun s => s)
    |> wakeOrders

/-- Create tasks while the creation buffer has room (03 R133, R136). The buffer takes the descriptors of command lists too, so
that list expansion stalls with it (DESIGN CHOICE, log entry 96). -/
def createSome : Nat → Nat → State → State
  | 0, _, s => s
  | k + 1, id, s =>
    match Tbl.find s.jigs.launches id with
    | none => s
    | some l =>
      if l.phase != .creating || s.gone l.part l.ctx then s
      else
        match l.todo with
        | [] => finishCreate id s
        | t :: rest =>
          if s.hasBed && decide (512 ≤ s.jigs.buffer) then s
          else
            let s := if recKind l.record != 1 && decide (t.node < 4096) then fetchAgain id t s else s
            let s := modLaunch id (fun l => { l with todo := rest }) s
            let s :=
              if recKind l.record == 1 then createListed id t s
              else if 4096 ≤ t.node then createPlanned id (t.node - 4096) t s
              else createInstance id t s
            createSome k id s

/-- The work of Job.create: null instances first, once, then the tasks; a list when it is its turn (03 R158). -/
def createWork (id : Nat) (s : State) : State :=
  match Tbl.find s.jigs.launches id with
  | none => s
  | some l =>
    let s := if l.phase == .creating && l.sends.isNone then resolveNulls id s else s
    if recKind l.record == 1 && s.nextList != some id then s else createSome (l.todo.length + 1) id s

/-! ### RECV instances and segment headers (03 R146 to R148) -/

/-- A segment header that has passed every check is applied (03 R146). -/
def segmentArrive (h : Nat) (s : State) : State :=
  let e := fld h 304 8
  let g := fld h 256 32
  let src := fld h 288 16
  let poison := bit h 312
  let s := modExchange e (fun x => { x with seen := x.seen ++ [(g, src)] }) s
  match (s.exchange e).recvs.find? (fun r => r.1 == g) with
  | some (_, i) => decrement i (s.slot i).gen poison (s.slot i).part (s.slot i).ctx (s.taskId i) s
  | none => modExchange e (fun x => { x with headers := x.headers ++ [(g, src, poison)] }) s

/-- A RECV instance has completed: gd takes its generation (03 R148). -/
def recvDone (e g : Nat) (s : State) : State :=
  modExchange e (fun x =>
    { x with
      gd := some g, recvs := x.recvs.filter (fun r => r.1 != g), seen := x.seen.filter (fun r => r.1 != g) }) s

/-! ### Fetches (03 R155) -/

/-- A block whose fetch has ended is RESIDENT, or ABSENT after a poisoned end (03 R155). One that launches pin keeps its slot. -/
def fetchEnds (p block : Nat) (poison : Bool) (s : State) : State :=
  modCold p block (fun k =>
    Cold.settled { k with st := if poison then 0 else 2, task := none, waiters := [], chain := [], used := s.clock }) s

/-- A cold fetch is final (03 R155). The walk of its granules counts its waiters down. -/
def fetchDone (p block : Nat) (poison : Bool) (s : State) : State :=
  let x := s.cold p block
  let f := x.task.getD 0
  laters (x.beyond.map (fun w => Job.decrement w.1 w.2 poison p (s.slot f).ctx (s.taskId f))) (fetchEnds p block poison s)

/-- A cold fetch is discarded with its context: the block is ABSENT, and its waiters are poisoned at once (log entry 39). -/
def fetchLost (p block taskId c : Nat) (s : State) : State :=
  laters ((s.cold p block).waiters.map (fun w => Job.decrement w.1 w.2 true p c taskId)) (fetchEnds p block true s)

end Sys2Proof.Machine
end

