-- ==== Sys2Proof/Machine/ChanUnit.lean ====
section
/-!
DEFINITION. The channel unit (07 R285 to R300): sends, messages, receive rings, answers and outcomes, and the
segment headers of exchanges (03 R144 to R147).
-/
namespace Sys2Proof.Machine

/-! ### Channel records (11 R441) -/

def State.chU (s : State) (ch lo n : Nat) : Nat := s.recU tyChannel ch 0 lo n
def State.chSends (s : State) (ch : Nat) : Bool := decide (ch < s.build.channels) && bit (s.chU ch 16 1) 0
def State.chReceives (s : State) (ch : Nat) : Bool := decide (ch < s.build.channels) && bit (s.chU ch 16 1) 1
def State.chPart (s : State) (ch : Nat) : Nat := s.chU ch 17 1
def State.chSendCtx (s : State) (ch : Nat) : Nat := s.chU ch 18 1
def State.chRecvCtx (s : State) (ch : Nat) : Nat := s.chU ch 19 1
def State.chResend (s : State) (ch : Nat) : Bool := bit (s.chU ch 20 1) 0
def State.chAddressed (s : State) (ch : Nat) : Bool := bit (s.chU ch 20 1) 2
def State.chLog (s : State) (ch : Nat) : Nat := s.chU ch 21 1
def State.chTarget (s : State) (ch : Nat) : Nat := fld (s.chU ch 22 2) 0 15
def State.chTargetChan (s : State) (ch : Nat) : Nat := s.chU ch 24 2
def State.chNotify (s : State) (ch : Nat) : Nat := s.chU ch 26 2
def State.chOutcome (s : State) (ch : Nat) : Nat := fld (s.chU ch 32 8) 0 52
def State.chRing (s : State) (ch : Nat) : Nat := fld (s.chU ch 40 8) 0 52

/-- Granules of a ring. -/
def State.chGranules (s : State) (ch : Nat) : Nat := 2 ^ s.chLog ch / 64

/-- The requester is among the channel's senders, by virtual engine or core number (07 R285, R288). -/
def State.isSender (s : State) (ch id : Nat) : Bool :=
  if id < 512 then
    match s.virtOf s.mapBank id with
    | some v => bit (s.chU ch 48 64) v
    | none => false
  else decide (512 ≤ id) && decide (id < 576) && bit (s.chU ch 112 8) (id - 512)

/-- CHAN_ENABLE names the channel (07 R329). -/
def State.chEnabled (s : State) (ch : Nat) : Bool := bit (Tbl.at s.queues.enables (ch / 64) (2 ^ 64 - 1)) (ch % 64)

/-! ### Leaves (01 R30) -/

/-- The leaf index of a path in a tree of depth `d` (01 R30). -/
def leafIndexOf (path : List Nat) (d : Nat) : Nat :=
  (List.range path.length).foldl (fun acc j => acc + path.getD j 0 * 8 ^ (d - (j + 1))) 0

/-- The instance that holds the leaf function of a leaf index: its path code. -/
def State.leafCode (s : State) (leaf : Nat) : Option Nat :=
  ((s.image.recs.filter (fun r => r.type == tyTreeRole && (r.u 16 1 == 1 || r.u 16 1 == 3))).find? (fun r =>
    leafIndexOf (codePath r.scope) s.face.treeDepth == leaf)).map (fun r => fld r.scope 0 15)

/-! ### Sending (07 R287 to R291) -/

def footprint (len : Nat) : Nat := 1 + ceilDiv len 64

/-- The message header (07 R291), with the sending channel in bits 54:43 for the link (12 R519). -/
def messageHeader (type chan len handler sendChan seq src requester : Nat) : Nat :=
  put type 0 8 + put chan 8 12 + put len 20 13 + put handler 33 10 + put sendChan 43 12 + put seq 64 32
    + put src 96 15 + put requester 111 10

/-- Check a send (07 R288): the fault, or none. -/
def State.checkSend (s : State) (id w : Nat) : Option Nat :=
  let ch := fld w 0 12
  let len := fld w 12 13
  let landing := fld w 35 20
  let n := s.chGranules ch
  if fld w 118 10 != 0 then some fltChanOp
  else if !s.chSends ch then some fltChanObject
  else if !s.isSender ch id || fld w 55 6 != s.chPart ch || fld w 61 5 != s.chSendCtx ch then some fltChanAccess
  else if len == 0 || 4096 < len || 2 ^ s.chLog ch / 4 < len then some fltRingOversize
  else if s.chAddressed ch then
    if landing == 0xFFFFF || n < landing + footprint len then some fltChanLanding else none
  else if landing != 0xFFFFF then some fltChanLanding
  else none

/-- In-flight places of a channel that are taken: sends, and exchange headers that have been sent, up to their ACK
(07 R289, R298). -/
def State.inFlight (s : State) (ch : Nat) : Nat :=
  (s.chan ch).sends.length
    + ((s.jigs.exchanges.filter (fun e => s.exchChannel e.1 == ch)).map (fun e =>
        (e.2.outs.filter (·.since.isSome)).length)).foldl (· + ·) 0

/-- Put one message on its way: to this instance's own channel, or on the link (07 R291, 12 R519). The spec gives the landing
of an ADDRESSED message no place in the flits (log entry 20). -/
def sendMessage (ch : Nat) (m : Sending) (s : State) : State :=
  let data := m.payload.getD ⟨m.length, 0⟩
  let target := s.chTarget ch
  let head := messageHeader 1 (s.chTargetChan ch) m.length m.handler ch m.seq s.selfCode m.requester
  let flit := routed head (s.route target (s.chPart ch) false)
  let s := modChan ch (fun c =>
    { c with sends := c.sends.map (fun x =>
        if x.seq == m.seq then { x with sent := true, sentAt := s.power.heart, resendAt := none } else x) }) s
  if target == s.selfCode then later (.deliver flit data none) s
  else
    sendTo target
      { cls := 2, pool := s.chPart ch, kind := 0x11, content := flit, flits := footprint m.length, payload := data } s

/-- Messages leave a channel in send order, each once its payload has been read (07 R290, R299). -/
def pumpSends (ch : Nat) : List Sending → State → State
  | [], s => s
  | m :: rest, s =>
    if m.sent || m.writing || m.resendAt.isSome then pumpSends ch rest s
    else if m.payload.isSome then pumpSends ch rest (sendMessage ch m s)
    else s

/-- Send the exchange headers that wait, while the channel has in-flight places (03 R144, 07 R298). -/
def sendHeader (e pos gen : Nat) (content : Granule) (s : State) : State :=
  let leaf := s.recU tyExchange e 0 (32 + 2 * pos) 2
  let s := modExchange e (fun x =>
    { x with outs := x.outs.map (fun o =>
        if o.pos == pos && o.gen == gen then { o with sent := true, since := some s.power.heart } else o) }) s
  match s.leafCode leaf with
  | none => s
  | some dest =>
    let p := s.exchPart e
    let flit := routed content.toNat (s.route dest p false)
    if dest == s.selfCode then later (.segment flit none) s
    else sendTo dest { cls := 2, pool := p, kind := 0x12, content := flit } s

def pumpHeaders (e : Nat) : List HeaderOut → State → State
  | [], s => s
  | o :: rest, s =>
    if !o.sent && o.since.isNone && decide (s.inFlight (s.exchChannel e) < 64) then
      pumpHeaders e rest (sendHeader e o.pos o.gen o.content s)
    else pumpHeaders e rest s

/-- The channel's places have changed: messages and headers that waited go on. -/
def pumpChan (ch : Nat) (s : State) : State :=
  let s := pumpSends ch (s.chan ch).sends s
  (s.jigs.exchanges.filter (fun e => s.exchChannel e.1 == ch)).foldl
    (fun s e => pumpHeaders e.1 (s.exchange e.1).outs s) s

/-- NACKs that return to a send side count as hazards of a deterministic partition when the channel has resend 0
(10 R412). -/
def countHazards (ch n : Nat) (s : State) : State :=
  let p := s.chPart ch
  if s.detOf p && !s.chResend ch then modDet p (fun d => { d with hazard := wrapAdd d.hazard n 64 }) s else s

/-- Headers of an exchange that are on their way are NACKed: they go again 64 hc later (03 R144; 07 R295). -/
def nackHeaders (e : Nat) (which : HeaderOut → Bool) (s : State) : State :=
  let hit (o : HeaderOut) : Bool := o.sent && which o
  let n := ((s.exchange e).outs.filter hit).length
  if n == 0 then s
  else
    s |> modExchange e (fun x =>
          { x with outs := x.outs.map (fun o => if hit o then { o with sent := false, since := some s.power.heart } else o) })
      |> modChan (s.exchChannel e) (fun c => { c with nacks := wrapAdd c.nacks n 64 })
      |> countHazards (s.exchChannel e) n
      |> pumpChan (s.exchChannel e)

/-- A segment header is to be sent (03 R144). -/
def newHeader (e pos gen : Nat) (content : Granule) (s : State) : State :=
  s |> modExchange e (fun x => { x with outs := x.outs ++ [{ pos := pos, gen := gen, content := content }] })
    |> pumpChan (s.exchChannel e)

/-- A send request at a lane (07 R288, R289). -/
def sendRequest (id w : Nat) (s : State) : State :=
  let ch := fld w 0 12
  let s := wakeUp swSync s
  match s.checkSend id w with
  | some f =>
    s |> raiseCtx f srcChannel (fld w 55 6) (fld w 61 5) ch |> emit (.response 1 id respFault f 0)
  | none =>
    if s.inFlight ch < 64 then
      let seq := (s.chan ch).nextSeq
      let m : Sending :=
        { seq := seq, handler := fld w 25 10, landing := fld w 35 20, length := fld w 12 13, src := fld w 66 52
          requester := id }
      s |> modChan ch (fun c => { c with nextSeq := wrapAdd seq 1 32, sends := c.sends ++ [m] })
        |> emit (.response 1 id respDone 0 seq)
        |> issueRead (.payload ch seq) m.src m.length (s.chPart ch) (s.chSendCtx ch) false
    else
      s |> modChan ch (fun c => { c with stalls := wrapAdd c.stalls 1 64 }) |> emit (.response 1 id respRefused 0 0)

/-! ### Answers (07 R295, R297, R298) -/

/-- Send an answer to the sender of a message (12 R519). -/
def sendAnswer (p back sendChan seq outcome reason : Nat) (s : State) : State :=
  let body := put seq 0 32 + put sendChan 32 16 + put outcome 48 8 + put reason 56 8
  let flit := routed body (s.route back p false)
  if back == s.selfCode then later (.answered flit) s
  else sendTo back { cls := 0, pool := p, kind := 0x03, content := flit } s

/-- The outcome word (07 R297). -/
def outcomeWord (seq outcome reason : Nat) : Nat := put seq 0 32 + put outcome 32 4 + put reason 36 8

/-- An outcome is known for a send: written, or sent again later (07 R297, R298). -/
def sendOutcome (ch seq outcome reason : Nat) (s : State) : State :=
  match (s.chan ch).sends.find? (fun m => m.seq == seq && m.sent && !m.writing) with
  | none => s
  | some _ =>
    let p := s.chPart ch
    let ack := outcome == 1
    let s := modChan ch (fun c =>
      { c with
        msgs := wrapAdd c.msgs (flag ack) 64
        nacks := wrapAdd c.nacks (flag !ack) 64 }) s
    if !ack && s.chResend ch then
      modChan ch (fun c =>
        { c with sends := c.sends.map (fun m =>
            if m.seq == seq then { m with sent := false, resendAt := some s.power.heart } else m) }) s
    else
      let s := if ack then s else countHazards ch 1 s
      let s :=
        if s.chResend ch then modChan ch (fun c => { c with sends := c.sends.filter (·.seq != seq) }) s
        else modChan ch (fun c =>
          { c with sends := c.sends.map (fun m => if m.seq == seq then { m with writing := true } else m) }) s
      s |> issueWrite (.outcome ch seq) (s.chOutcome ch + 8 * (seq % 64)) ⟨8, outcomeWord seq outcome reason⟩
            p (s.chSendCtx ch) false
        |> pumpChan ch

/-- The notify semaphore of a channel is signalled by 1 (07 R297; log entry 21 for the identity of the signaller); the request
waits while a dump runs (06 R276). -/
def notifySend (ch : Nat) (s : State) : State :=
  let o := s.chNotify ch
  let r : SyncReq :=
    { (default : SyncReq) with op := 0, object := o, n := 1, part := s.chPart ch, ctx := s.chSendCtx ch, src := s.selfCode }
  if o == 0xFFFF then s
  else if s.sync.dumpBusy then { s with sync := { s.sync with notifies := s.sync.notifies ++ [ch] } }
  else if s.frozen r || !(s.sem o).configured then s
  else (semSignal idHost r s).2

/-- The outcome word has been accepted: the send's place returns, and its notify semaphore is signalled (07 R297, R298). -/
def outcomeWritten (ch seq : Nat) (s : State) : State :=
  s |> modChan ch (fun c => { c with sends := c.sends.filter (·.seq != seq) }) |> notifySend ch |> pumpChan ch

/-- The seq that an ANSWER to a segment header carries: the exchange, and 24 bits of the generation; bit 15 of its sending
channel tells it from the answer to a message (DESIGN CHOICE, log entry 22). -/
def headerSeq (e gen : Nat) : Nat := put gen 0 24 + put e 24 8
def headerChan (ch : Nat) : Nat := put ch 0 12 + 2 ^ 15

/-- An ANSWER reaches the sending instance: of a message, or of a segment header. -/
def answerArrive (flit : Granule) (s : State) : State :=
  let w := flit.toNat
  let seq := fld w 0 32
  let ch := fld w 32 16
  let outcome := fld w 48 8
  let reason := fld w 56 8
  if bit w 47 then
    let e := fld seq 24 8
    let mine (o : HeaderOut) : Bool :=
      o.sent && fld o.gen 0 24 == fld seq 0 24 && s.leafCode (s.recU tyExchange e 0 (32 + 2 * o.pos) 2) == some (routeSrc flit)
    if outcome != 1 then nackHeaders e mine s
    else if !(s.exchange e).outs.any mine then s
    else
      s |> modExchange e (fun x => { x with outs := x.outs.filter (fun o => !mine o) })
        |> modChan (s.exchChannel e) (fun c => { c with msgs := wrapAdd c.msgs 1 64 }) |> pumpChan (s.exchChannel e)
  else sendOutcome ch seq outcome reason s

/-! ### The receive ring (07 R292 to R296) -/

/-- Where a message of `f` granules goes in an APPEND ring: start, and the size of a skip record before it (07 R292). -/
def placeInRing (head tail occupied n f : Nat) : Option (Nat × Nat) :=
  if n ≤ occupied then none
  else if tail < head then (if f ≤ head - tail then some (tail, 0) else none)
  else if tail + f ≤ n then some (tail, 0)
  else if f ≤ head then some (0, n - tail)
  else none

def Chan.occupied (c : Chan) : Nat := (c.ring.map (·.size)).foldl (· + ·) 0

/-- The head advances over freed messages and skip records (07 R293). -/
def advanceHead (n : Nat) : List RingMsg → Nat → List RingMsg × Nat
  | [], h => ([], h)
  | m :: rest, h => if m.skip || m.freed then advanceHead n rest ((m.start + m.size) % n) else (m :: rest, h)

/-- Change the first message of a ring that passes a test. -/
def changeFirst (hit : RingMsg → Bool) (f : RingMsg → RingMsg) : List RingMsg → List RingMsg
  | [] => []
  | m :: rest => if hit m then f m :: rest else m :: changeFirst hit f rest

/-- The space of the message at a granule is freed (07 R293). -/
def freeInRing (ch start : Nat) (s : State) : State :=
  modChan ch (fun c =>
    let ring := changeFirst (fun m => m.start == start && !m.skip) (fun m => { m with freed := true }) c.ring
    let (ring, head) := advanceHead (s.chGranules ch) ring c.head
    { c with ring := ring, head := head }) s

/-- Entry `h` of a handler table in a bank (11 R439). -/
def State.handlerEntry (s : State) (b p c h : Nat) : Nat :=
  match s.bankRec b tyHandler p c with
  | some r => if 16 + 16 * h < r.length then r.u (16 + 16 * h) 16 else 0
  | none => 0

/-- The first failing check of an arriving message (07 R295): its reason, or none. -/
def State.checkMessage (s : State) (ch p handler len : Nat) : Option Nat :=
  let c := s.chRecvCtx ch
  if !s.chReceives ch || s.chPart ch != p then some 1
  else if !s.chEnabled ch || s.draining p then some 2
  else if (s.ctx p c).st != .resident then some 3
  else if handler != 0x3FF && !bit (s.handlerEntry (s.activeBank 1) p c handler) 15 then some 4
  else if !s.chAddressed ch &&
      (placeInRing (s.chan ch).head (s.chan ch).tail (s.chan ch).occupied (s.chGranules ch) (footprint len)).isNone then some 5
  else none

/-- Credits of a message that came by the link return (08 R356). -/
def creditMessage (port : Option Nat) (p flits : Nat) (s : State) : State :=
  match port with
  | some x => creditBack x (creditKey p 2 false) flits s
  | none => s

/-- A message is refused (07 R295). -/
def nackMessage (ch p back sendChan seq reason : Nat) (s : State) : State :=
  s |> modChan ch (fun c => { c with nacks := wrapAdd c.nacks 1 64 }) |> sendAnswer p back sendChan seq 2 reason

/-- The landing of an ADDRESSED message of `f` granules: as sent, when it comes from this instance; over the link, where the spec
gives it no place, a free value within the ring (log entry 20). -/
def landingOf (ch f sendChan seq : Nat) (port : Option Nat) (s : State) : Nat × State :=
  match port, (s.chan sendChan).sends.find? (fun m => m.seq == seq) with
  | none, some m => (m.landing, s)
  | _, _ =>
    let (v, s) := takeFree 20 s
    (v % max 1 (s.chGranules ch + 1 - f), s)

/-- A message reaches its receiving instance (07 R291, R292, R294, R295). -/
def deliverMessage (flit : Granule) (payload : Blob) (port : Option Nat) (s : State) : State :=
  let w := flit.toNat
  let ch := fld w 8 12
  let len := fld w 20 13
  let handler := fld w 33 10
  let sendChan := fld w 43 12
  let seq := fld w 64 32
  let back := routeSrc flit
  let p := routePart flit
  let f := footprint len
  let s := wakeUp swSync s
  match s.checkMessage ch p handler len with
  | some reason => s |> creditMessage port p f |> nackMessage ch p back sendChan seq reason
  | none =>
    let c := s.chRecvCtx ch
    let header := messageHeader 1 ch len handler 0 seq (fld w 96 15) (fld w 111 10)
    let bytes : Blob := ⟨64 * f, header + payload.bits % 2 ^ (8 * len) * 2 ^ 512⟩
    let base := s.chRing ch
    let m : RingMsg :=
      { seq := seq, handler := handler, back := back, sendChan := sendChan, tailWas := (s.chan ch).tail
        bank := s.activeBank 1, inPort := port, flits := f }
    if s.chAddressed ch then
      let (landing, s) := landingOf ch f sendChan seq port s
      s |> modChan ch (fun x => { x with ring := x.ring ++ [{ m with start := landing }] })
        |> issueWrite (.ring ch seq) (base + 64 * landing) bytes p c false
    else
      match placeInRing (s.chan ch).head (s.chan ch).tail (s.chan ch).occupied (s.chGranules ch) f with
      | none => s
      | some (start, skip) =>
        let n := s.chGranules ch
        let tail := (s.chan ch).tail
        let s :=
          if skip == 0 then s
          else
            s |> modChan ch (fun x =>
                  let (ring, head) :=
                    advanceHead n (x.ring ++ [{ seq := seq, start := tail, size := skip, skip := true }]) x.head
                  { x with ring := ring, head := head })
              |> issueWrite (.ring ch seq) (base + 64 * tail)
                  ⟨64, messageHeader 2 ch (64 * skip) handler 0 seq (fld w 96 15) (fld w 111 10)⟩ p c false
        s |> modChan ch (fun x =>
              { x with ring := x.ring ++ [{ m with start := start, size := f }], tail := (start + f) % n })
          |> issueWrite (.ring ch seq) (base + 64 * start) bytes p c false

/-- A launch whose record the block makes itself: no record is read (07 R296). -/
def startHandler (ch : Nat) (m : RingMsg) (s : State) : State :=
  let p := s.chPart ch
  let c := s.chRecvCtx ch
  let e := s.handlerEntry m.bank p c m.handler
  let rec' := put (fld e 0 13) 0 13 + put 0xFFFF 16 16 + put (fld e 32 32) 32 32 + put (fld e 64 52) 128 52
  let id := s.jigs.nextLaunch
  let l : Launch :=
    { part := p, ctx := c, epoch := s.image.epoch, owner := .handler ch m.start, order := id
      paramPtr := s.chRing ch + 64 * m.start, statusTask := 0xFFFFFFFF + 1 }
  { s with
    jigs := { s.jigs with nextLaunch := id + 1, launchesCount := wrapAdd s.jigs.launchesCount 1 64 } }
    |> wakeUp swJig |> setLaunch id l |> launchRecord id rec'

/-- Whether a write of a purpose is outstanding or waiting. -/
def State.writing (s : State) (why : WriteFor) : Bool :=
  s.bed.writes.any (fun w => w.2.why == why) || s.bed.writeWait.any (fun w => w.why == why)

/-- Take the outstanding writes of a purpose as accepted. -/
def acceptWrites (why : WriteFor) (s : State) : State :=
  let gone := (s.bed.writes.map (·.2) ++ s.bed.writeWait).filterMap (fun w => if w.why == why then some w.xfer else none)
  moreReads (moreWrites { s with
    bed := { s.bed with
      writes := s.bed.writes.filter (fun w => w.2.why != why)
      writeWait := s.bed.writeWait.filter (fun w => w.why != why)
      writeXfers := s.bed.writeXfers.filter (fun x => !gone.contains x.1) } })

/-- Take a written message out of an ADDRESSED channel's list, or free its space (07 R293, R294). -/
def forgetMessage (ch start : Nat) (s : State) : State :=
  if s.chAddressed ch then modChan ch (fun c => { c with ring := c.ring.eraseP (fun m => m.start == start && m.written) }) s
  else freeInRing ch start s

/-- The message of a number that is being written: the oldest, where senders of two instances share the channel. -/
def RingMsg.inWriting (seq : Nat) (m : RingMsg) : Bool := m.seq == seq && !m.skip && !m.written && !m.landed

/-- A message of the ring that has not been accepted or refused. -/
def RingMsg.isOpen (m : RingMsg) : Bool := !m.skip && !m.written

/-- The first message of a ring that may be accepted: it has landed, and no earlier message of its sender is open (07 R299).
`before` are the messages before. -/
def nextLanded (before : List RingMsg) : List RingMsg → Option RingMsg
  | [] => none
  | m :: rest =>
    if m.landed && m.isOpen && !before.any (fun x => x.isOpen && x.back == m.back && x.sendChan == m.sendChan) then some m
    else nextLanded (before ++ [m]) rest

/-- A message has been accepted, or its write has failed: it is open no more. -/
def markWritten (ch : Nat) (m : RingMsg) (s : State) : State :=
  modChan ch (fun c => { c with ring := changeFirst (· == m) (fun m => { m with written := true }) c.ring }) s

/-- A message is accepted: ACK, and the handler's launch (07 R295, R296, R326). -/
def acceptMessage (ch : Nat) (m : RingMsg) (s : State) : State :=
  let seq := m.seq
  let p := s.chPart ch
  let s := creditMessage m.inPort p m.flits s
  let s := markWritten ch m s
  if m.dropped then s |> forgetMessage ch m.start |> nackMessage ch p m.back m.sendChan seq 3
  else
    let s := modChan ch (fun c => { c with msgs := wrapAdd c.msgs 1 64 }) s
    let s := sendAnswer p m.back m.sendChan seq 1 0 s
    if m.handler == 0x3FF then forgetMessage ch m.start s else startHandler ch m s

/-- Messages that have landed are accepted in the order in which they were sent (07 R299). -/
def acceptLanded (ch : Nat) : Nat → State → State
  | 0, s => s
  | k + 1, s =>
    match nextLanded [] (s.chan ch).ring with
    | none => s
    | some m => acceptLanded ch k (acceptMessage ch m s)

/-- The last granule of a message has been accepted on bed_ (07 R295): it has landed. -/
def messageWritten (ch seq : Nat) (s : State) : State :=
  s |> modChan ch (fun c => { c with ring := changeFirst (RingMsg.inWriting seq) (fun m => { m with landed := true }) c.ring })
    |> (fun s => acceptLanded ch (s.chan ch).ring.length s)

/-- A ring write failed twice: the ring is left as it was, NACK BED, FLT_BED_WRITE against the receive context
(07 R295). -/
def messageFailed (ch seq : Nat) (s : State) : State :=
  match (s.chan ch).ring.find? (RingMsg.inWriting seq) with
  | none => s
  | some m =>
    let p := s.chPart ch
    let s := acceptWrites (.ring ch seq) s
    let lastOne := (s.chan ch).ring.getLast? == some m
    let mine (x : RingMsg) : Bool := x == m || (x.skip && x.seq == seq && x.start == m.tailWas)
    let s :=
      if lastOne && !s.chAddressed ch then
        modChan ch (fun c =>
          let ring := c.ring.filter (fun x => !mine x)
          { c with ring := ring, tail := m.tailWas, head := if ring.isEmpty then m.tailWas else c.head }) s
      else s |> markWritten ch m |> forgetMessage ch m.start
    s |> creditMessage m.inPort p m.flits |> nackMessage ch p m.back m.sendChan seq 6
      |> raiseCtx fltBedWrite srcChannel p (s.chRecvCtx ch) ch
      |> (fun s => acceptLanded ch (s.chan ch).ring.length s)

/-! ### Segment headers at the receiver (03 R144, R146, R147) -/

/-- The fault of 03 R147 that refuses a header: its generation, or a second one of its source, also while the first is being
written. -/
def Exchange.refuses (x : Exchange) (g pos : Nat) : Option Nat :=
  let next := match x.gd with
    | some k => k + 1
    | none => 0
  if !(g == next % 2 ^ 32 || g == (next + 1) % 2 ^ 32) then some fltExchangeLap
  else if x.seen.contains (g, pos) || x.landing.any (fun l => l.gen == g && l.pos == pos) then some fltExchangeDup
  else none

/-- The channel of an exchange at the instance that sent a header, by the image (11 R439, R441). -/
def State.exchChannelAt (s : State) (code e : Nat) : Nat :=
  ((s.image.recs.find? (fun r => r.type == tyExchange && r.key0 == e && r.keptBy code)).map (fun r => r.u 22 2)).getD 0

/-- The answer to a segment header (log entry 22). -/
def answerHeader (e back gen outcome reason : Nat) (s : State) : State :=
  sendAnswer (s.exchPart e) back (headerChan (s.exchChannelAt back e)) (headerSeq e gen) outcome reason s

def nackHeader (e back gen reason : Nat) (s : State) : State :=
  s |> modChan (s.exchChannel e) (fun c => { c with nacks := wrapAdd c.nacks 1 64 }) |> answerHeader e back gen 2 reason

/-- A header reaches the leaf: the checks of 07 R295, those of 03 R147, and its write into the ring. A header that R147 refuses
is answered NACK CONTEXT, since its fault parts that context (log entry 22). The exchange's context is that of the receive side
of its channel (DESIGN CHOICE, log entry 96). -/
def segmentReach (flit : Granule) (port : Option Nat) (s : State) : State :=
  let w := flit.toNat
  let e := fld w 304 8
  let g := fld w 256 32
  let pos := fld w 288 16
  let ch := s.exchChannel e
  let p := routePart flit
  let back := routeSrc flit
  let content : Granule := BitVec.ofNat 512 (fld w 0 448)
  let s := wakeUp swSync s
  match (s.checkMessage ch p 0x3FF 1).filter (· != 5), (s.exchange e).refuses g pos with
  | some reason, _ => s |> creditMessage port p 1 |> nackHeader e back g reason
  | none, some fault =>
    s |> raiseCtx fault srcJig (s.exchPart e) (s.chRecvCtx ch) 0 |> creditMessage port p 1 |> nackHeader e back g 3
  | none, none =>
    s |> modExchange e (fun x =>
          { x with landing := x.landing ++ [{ gen := g, pos := pos, content := content, back := back, inPort := port }] })
      |> issueWrite (.segment e g pos) (s.exchRing e + ((g % 2) * s.exchMembers e + pos) * 64) ⟨64, content.toNat⟩
          p (s.chRecvCtx ch) false

/-- The header has been accepted on bed_: ACK, and it is applied (03 R146); or it is dropped since its context has been parted
(07 R326); or its write failed twice. -/
def segmentLanded (e g pos : Nat) (ok : Bool) (s : State) : State :=
  match (s.exchange e).landing.find? (fun l => l.gen == g && l.pos == pos) with
  | none => s
  | some l =>
    let ch := s.exchChannel e
    let p := s.exchPart e
    let s := s |> modExchange e (fun x => { x with landing := x.landing.filter (fun l => !(l.gen == g && l.pos == pos)) })
               |> creditMessage l.inPort p 1
    if l.dropped then nackHeader e l.back g 3 s
    else if ok then
      s |> modChan ch (fun c => { c with msgs := wrapAdd c.msgs 1 64 })
        |> answerHeader e l.back g 1 0 |> segmentArrive l.content.toNat
    else
      s |> nackHeader e l.back g 6 |> raiseCtx fltBedWrite srcChannel p (s.chRecvCtx ch) ch

/-! ### Parting and loss (08 R363 step 5, R366 step 5) -/

/-- Sends of the context are abandoned, and its receive rings emptied; messages and headers being written are dropped when they
have been written (07 R326, 08 R363 step 5). -/
def partChannels (p c : Nat) (s : State) : State :=
  let chans := ((s.recsOf tyChannel).filter (fun r => r.u 17 1 == p)).map (·.key0)
  let s := chans.foldl
    (fun s ch =>
      let s := if s.chSends ch && s.chSendCtx ch == c then modChan ch (fun x => { x with sends := [] }) s else s
      if s.chReceives ch && s.chRecvCtx ch == c then
        modChan ch (fun x =>
          let ring := (x.ring.filter (fun m => !m.written && !m.skip)).map (fun m => { m with dropped := true })
          if ring.isEmpty then { x with ring := [], head := 0, tail := 0 }
          else { x with ring := ring, head := (ring.head?.map (·.start)).getD x.head }) s
      else s) s
  let exs := ((s.recsOf tyExchange).filter (fun r => r.u 16 1 == p)).map (·.key0)
  exs.foldl
    (fun s e =>
      let ch := s.exchChannel e
      modExchange e (fun x =>
        { x with
          outs := if s.chSendCtx ch == c then [] else x.outs
          landing := if s.chRecvCtx ch == c then x.landing.map (fun l => { l with dropped := true }) else x.landing }) s) s

/-- Messages and headers whose way leads through a lost port are NACKed with LINK (08 R366 step 5). -/
def nackThrough (x : Nat) (s : State) : State :=
  let through (e : Nat) (o : HeaderOut) : Bool :=
    match s.leafCode (s.recU tyExchange e 0 (32 + 2 * o.pos) 2) with
    | some dest => s.nextHop dest == some x
    | none => false
  let s := (s.jigs.exchanges.map (·.1)).foldl (fun s e => nackHeaders e (through e) s) s
  let chans := ((s.recsOf tyChannel).filter (fun r => bit (r.u 16 1) 0)).map (·.key0)
  chans.foldl
    (fun s ch =>
      if s.nextHop (s.chTarget ch) == some x then
        (s.chan ch).sends.foldl (fun s m => if m.sent && !m.writing then sendOutcome ch m.seq 2 7 s else s) s
      else s) s

end Sys2Proof.Machine
end

