-- ==== Sys2Proof/Machine/QueueUnit.lean ====
section
/-!
DEFINITION. The queue unit (07 R301 to R312): requests and their checks, the four positions, held writes, packets,
the read timer, parity, and the spill of the middle of a queue to its bed with its refill.
-/
namespace Sys2Proof.Machine

/-! ### Queue declarations (11 R441) -/

def State.qU (s : State) (q lo n : Nat) : Nat := s.recU tyQueue q 0 lo n
def State.qDeclared (s : State) (q : Nat) : Bool := decide (q < s.build.queues) && (s.recAt tyQueue q 0).isSome
def State.qPart (s : State) (q : Nat) : Nat := s.qU q 16 1
def State.qCtx (s : State) (q : Nat) : Nat := s.qU q 17 1
def State.qAuto (s : State) (q : Nat) : Bool := bit (s.qU q 18 1) 0
def State.qPacket (s : State) (q : Nat) : Bool := bit (s.qU q 18 1) 1
def State.qOnTimeout (s : State) (q : Nat) : Bool := bit (s.qU q 18 1) 2
def State.qLog (s : State) (q : Nat) : Nat := if s.hasBed then s.qU q 19 1 else 0
def State.qProducer (s : State) (q : Nat) : Nat := fld (s.qU q 20 2) 0 10
def State.qConsumer (s : State) (q : Nat) : Nat := fld (s.qU q 22 2) 0 10
def State.qTimeoutUs (s : State) (q : Nat) : Nat := s.qU q 24 4
def State.qBed (s : State) (q : Nat) : Nat := fld (s.qU q 32 8) 0 52

/-- A queue's capacity in words (07 R302). -/
def State.qCap (s : State) (q : Nat) : Nat := 64 + (if s.qLog q == 0 then 0 else 2 ^ s.qLog q)

/-- The requester is a party of the declaration: a virtual engine of a bank of the map, a core, or host software. -/
def State.isParty (s : State) (b party id : Nat) : Bool :=
  if id < 512 then s.virtOf b id == some party else id == party

/-! ### Positions (07 R306, R308) -/

/-- The occupancy, wr − rel. -/
def Queue.occupancy (x : Queue) : Nat := sub32 x.wr x.rel

/-- The read position stands at the length slot of an open packet (07 R312). -/
def Queue.atSlot (x : Queue) : Bool :=
  match x.packet with
  | some (slot, _) => slot == x.rd
  | none => false

/-- No word is readable (07 R303, R308). -/
def Queue.isEmpty (x : Queue) : Bool := x.rd == x.wr || x.atSlot

/-- The word at a position. -/
def Queue.wordAt (x : Queue) (pos : Nat) : QWord := x.words.getD (sub32 pos x.rel) {}

/-- The parity bit of a word: even parity (log entry 23). -/
def parityOf (w : BitVec 64) : Bool := popCount w.toNat 64 % 2 == 1

/-- QUEUE_STATE of a queue (07 R327). -/
def State.queueState (s : State) (q : Nat) : Nat :=
  let x := s.queue q
  put x.occupancy 0 27 + put (flag x.isEmpty) 27 1
    + put (flag (s.qDeclared q && x.occupancy == s.qCap q)) 28 1 + put (flag x.underrun) 29 1
    + put (flag x.timedOut) 30 1 + put (flag x.packet.isSome) 31 1 + put (flag (!x.held.isEmpty)) 32 1
    + put x.poisonCount 33 16

/-! ### Responses (07 R303, R305, R328) -/

/-- A response: to a lane, or into the host registers. -/
def queueAnswer (id : Nat) (held : Bool) (data : Nat) (ok empty under poison fault : Bool) (code : Nat) (s : State) : State :=
  let flags := put (flag ok) 0 1 + put (flag empty) 1 1 + put (flag under) 2 1 + put (flag poison) 3 1 + put (flag fault) 4 1
  if id == idHost then
    { s with
      queues := { s.queues with hostData := data, hostFlags := flags, hostCode := code, hostDone := true } }
  else emit (.queueResponse id held data flags code) s

/-- A request was applied. -/
def queueOk (id q : Nat) (held : Bool) (data : Nat) (s : State) : State :=
  queueAnswer id held data true (s.queue q).isEmpty false false false 0 s

/-! ### Spill and refill (07, under R300, and R311; log entry 24) -/

/-- The bed address of the word at a position, and of the parity byte of its granule. -/
def State.qWordAddr (s : State) (q pos : Nat) : Nat := s.qBed q + 8 * (pos % 2 ^ s.qLog q)
def State.qParityAddr (s : State) (q pos : Nat) : Nat := s.qBed q + 8 * 2 ^ s.qLog q + pos % 2 ^ s.qLog q / 8

/-- The parity byte of the granule of 8 words that a position lies in. -/
def Queue.parityByte (x : Queue) (pos : Nat) : Nat :=
  let base := pos / 8 * 8
  (List.range 8).foldl (fun acc k => acc + put (flag (x.wordAt (base + k)).parity) k 1) 0

/-- The first granule of 8 words behind the 32 words of the headstock that is whole and stands in registers. -/
def Queue.spillAt (x : Queue) : Option Nat :=
  let tail := (List.range x.words.length).filter (fun i => decide (32 ≤ i) && (x.words.getD i {}).place == 0)
  if tail.length ≤ 32 then none
  else
    (tail.map (x.rel + ·)).find? (fun pos =>
      pos % 8 == 0 && (List.range 8).all (fun k => tail.contains (pos + k - x.rel)))

/-- Spill one granule of words and their parity when the tailstock is full. -/
def spillQueue (q : Nat) (s : State) : State :=
  let x := s.queue q
  if s.qLog q == 0 then s
  else
    match x.spillAt with
    | none => s
    | some pos =>
      let words := (List.range 8).foldl (fun acc k => acc + (x.wordAt (pos + k)).data.toNat * 2 ^ (64 * k)) 0
      let i := pos - x.rel
      s |> modQueue q (fun x =>
            { x with words := (List.range x.words.length).map (fun j =>
                let w := x.words.getD j {}
                if i ≤ j && j < i + 8 then { w with place := 1 } else w) })
        |> issueWrite (.spill q) (s.qWordAddr q pos) ⟨64, words⟩ (s.qPart q) (s.qCtx q) false
        |> issueWrite (.spill q) (s.qParityAddr q pos) ⟨1, x.parityByte pos⟩ (s.qPart q) (s.qCtx q) false

/-- Request a spilled word back from the bed, with the parity byte of its granule. -/
def refillWord (q pos : Nat) (s : State) : State :=
  let x := s.queue q
  let i := sub32 pos x.rel
  s |> modQueue q (fun x => { x with words := setAt x.words i { (x.words.getD i {}) with place := 2 } })
    |> issueReads (.refill q pos) [(s.qWordAddr q pos, 8), (s.qParityAddr q pos, 1)] (s.qPart q) (s.qCtx q) false

/-- Words that have come within the headstock's 32 words return from the bed; an open packet's length slot waits for its
PKT_END. -/
def refillHead (q : Nat) (s : State) : State :=
  (List.range (min 32 (s.queue q).words.length)).foldl
    (fun s i =>
      let x := s.queue q
      let pos := wrapAdd x.rel i 32
      let open' := match x.packet with
        | some (slot, _) => slot == pos
        | none => false
      if (x.words.getD i {}).place == 1 && !open' then refillWord q pos s else s) s

/-! ### Writing (07 R306, R307, R310, R312) -/

/-- Put a word at wr. The write that makes the queue non-empty starts the read timer (07 R310). -/
def pushWord (q : Nat) (w : BitVec 64) (s : State) : State :=
  s |> modQueue q (fun x =>
      { x with
        wr := wrapAdd x.wr 1 32
        words := x.words ++ [{ data := w, parity := parityOf w }]
        timer := if x.occupancy == 0 && !x.fired && s.qTimeoutUs q != 0 then some s.power.heart else x.timer })
    |> spillQueue q

/-- A WRITE is applied. -/
def applyWrite (id q : Nat) (held : Bool) (w : BitVec 64) (s : State) : State :=
  s |> pushWord q w
    |> modQueue q (fun x => { x with packet := x.packet.map (fun k => (k.1, k.2 + 1)) })
    |> queueOk id q held 0

/-- A PKT_BEGIN is applied: the word at wr becomes the packet's length slot. -/
def applyBegin (id q : Nat) (held : Bool) (s : State) : State :=
  let slot := (s.queue q).wr
  s |> pushWord q 0 |> modQueue q (fun x => { x with packet := some (slot, 0) }) |> queueOk id q held slot

/-- A PKT_END is applied: the length slot is written, in the bed as well when it has spilled. -/
def applyEnd (id q : Nat) (tag : Nat) (s : State) : State :=
  match (s.queue q).packet with
  | none => s
  | some (slot, count) =>
    let w := BitVec.ofNat 64 (put count 0 32 + put tag 32 32)
    let i := sub32 slot (s.queue q).rel
    let spilled := ((s.queue q).wordAt slot).place == 1
    let s := modQueue q (fun x =>
      { x with
        packet := none
        words := setAt x.words i { (x.words.getD i {}) with data := w, parity := parityOf w } }) s
    let s :=
      if spilled then
        s |> issueWrite (.spill q) (s.qWordAddr q slot) ⟨8, w.toNat⟩ (s.qPart q) (s.qCtx q) false
          |> issueWrite (.spill q) (s.qParityAddr q slot) ⟨1, (s.queue q).parityByte slot⟩ (s.qPart q) (s.qCtx q) false
      else s
    s |> refillHead q |> queueOk id q false 0

/-- Held writes are applied in the order they were held, as space frees (07 R307). -/
def applyHeld : Nat → Nat → State → State
  | 0, _, s => s
  | k + 1, q, s =>
    match (s.queue q).held with
    | [] => s
    | h :: rest =>
      if (s.queue q).occupancy < s.qCap q then
        let s := modQueue q (fun x => { x with held := rest }) s
        let s := if h.op == 5 then applyBegin h.src q true s else applyWrite h.src q true h.data s
        applyHeld k q s
      else s

/-- A WRITE or PKT_BEGIN that has passed its checks: held when the queue is full or a write to it is held (07 R307). -/
def produce (b id q op : Nat) (data : BitVec 64) (s : State) : State :=
  let x := s.queue q
  if x.occupancy == s.qCap q || !x.held.isEmpty then
    modQueue q (fun x =>
      { x with held := x.held ++ [{ src := id, op := op, data := data, part := s.qPart q, ctx := s.qCtx q, bank := b }] }) s
  else if op == 5 then applyBegin id q false s
  else applyWrite id q false data s

/-! ### Reading (07 R306, R308, R310, R311) -/

/-- RELEASE: the words before rd go, and held writes follow (07 R306, R307). -/
def releaseWords (q : Nat) (s : State) : State :=
  let s := modQueue q (fun x =>
    let n := sub32 x.rd x.rel
    { x with
      rel := x.rd, mark := x.rd, words := x.words.drop n
      timer := if x.rd == x.wr then none else x.timer }) s
  let s := refillHead q s
  applyHeld ((s.queue q).held.length) q s

/-- A READ is accepted: the read timer starts anew (07 R310). -/
def readAccepted (q : Nat) (s : State) : State :=
  modQueue q (fun x =>
    { x with
      fired := false
      timer := if s.qTimeoutUs q != 0 && x.occupancy != 0 then some s.power.heart else none }) s

/-- A READ with no readable word (07 R308; 10 R412). It counts as not applied, as the example under R309 shows. -/
def readUnderrun (id q : Nat) (s : State) : State :=
  let s := s |> modQueue q (fun x => { x with underrun := true }) |> noteBit (0x81000 + 8 * q) 29
  let s := { s with queues := { s.queues with underruns := wrapAdd s.queues.underruns 1 64 } }
  let s :=
    if s.detOf (s.qPart q) then modDet (s.qPart q) (fun d => { d with hazard := wrapAdd d.hazard 1 64 }) s else s
  queueAnswer id false (s.queue q).lastRead.toNat false true true false false 0 s

/-- A READ returns the word at rd, which stands in registers (07 R306, R311). -/
def readWord (id q : Nat) (s : State) : State :=
  let w := (s.queue q).wordAt (s.queue q).rd
  let poison := w.bad || parityOf w.data != w.parity
  let s := modQueue q (fun x =>
    { x with
      rd := wrapAdd x.rd 1 32, lastRead := w.data, reading := none
      poisonCount := if poison then satInc x.poisonCount 0xFFFF else x.poisonCount }) s
  let empty := (s.queue q).isEmpty
  let s := queueAnswer id false w.data.toNat true empty false poison false 0 s
  if s.qAuto q then releaseWords q s else s

/-- A READ that has passed its checks. -/
def readQueue (b id q : Nat) (s : State) : State :=
  let s := readAccepted q s
  let x := s.queue q
  if x.isEmpty then readUnderrun id q s
  else
    match (x.wordAt x.rd).place with
    | 1 => s |> modQueue q (fun x => { x with reading := some id, readBank := b }) |> refillWord q x.rd
    | 2 => modQueue q (fun x => { x with reading := some id, readBank := b }) s
    | _ => readWord id q s

/-! ### Requests (07 R303 to R305) -/

/-- The first failing check of a request (07 R304, R312), whose lookups read bank `b` of the engine class map (11 R469): the fault,
or none. A held PKT_BEGIN goes before the request, so its packet counts as open (R305, R307). -/
def State.queueCheckIn (s : State) (b id w : Nat) : Option Nat :=
  let op := fld w 0 4
  let q := fld w 4 8
  let x := s.queue q
  if 8 ≤ op || fld w 23 41 != 0 then some fltQueueOp
  else if !s.qDeclared q then some fltQueueObject
  else
    let opened := x.packet.isSome || x.held.any (fun h => h.op == 5)
    let prod := s.isParty b (s.qProducer q) id
    let cons := s.isParty b (s.qConsumer q) id
    let role :=
      if op == 0 || op == 5 || op == 6 then prod
      else if op == 7 then prod || cons
      else cons
    if !role || fld w 12 6 != s.qPart q || fld w 18 5 != s.qCtx q then some fltQueueAccess
    else if (op == 5 || op == 6) && !s.qPacket q then some fltQueueOp
    else if s.qPacket q && (op == 0 || op == 6) && !opened then some fltQueueOp
    else if op == 5 && opened then some fltQueueOp
    else none

/-- The first failing check of a request that is accepted now. -/
def State.queueCheck (s : State) (id w : Nat) : Option Nat := s.queueCheckIn s.mapBank id w

/-- Apply a request that has passed its checks. -/
def queueApply (b id w : Nat) (s : State) : State :=
  let q := fld w 4 8
  let data := fld w 64 64
  match fld w 0 4 with
  | 0 => produce b id q 0 (BitVec.ofNat 64 data) s
  | 1 => readQueue b id q s
  | 2 =>
    let s := if s.qAuto q then s else modQueue q (fun x => { x with mark := x.rd }) s
    queueOk id q false 0 s
  | 3 =>
    let s := if s.qAuto q then s else modQueue q (fun x => { x with rd := x.mark }) s
    queueOk id q false 0 s
  | 4 =>
    let s := releaseWords q s
    queueOk id q false 0 s
  | 5 => produce b id q 5 0 s
  | 6 => applyEnd id q (data % 2 ^ 32) s
  | _ => queueOk id q false (s.queueState q) s

/-- The requester waits for an answer: for the refill of a READ, or for its held write (07 R307, R308). -/
def State.awaits (s : State) (id : Nat) : Bool :=
  s.queues.queues.any (fun e => e.2.reading == some id || e.2.held.any (fun h => h.src == id))

/-- The requests of one requester are applied in issue order (07 R305), so a request waits for an earlier one. A WRITE or
PKT_BEGIN behind a held write of the same queue is held behind it instead (R307). -/
def State.waitsBehind (s : State) (id w : Nat) : Bool :=
  let op := fld w 0 4
  let follows := (op == 0 || op == 5) && (s.queue (fld w 4 8)).held.any (fun h => h.src == id)
  s.queues.waiting.any (fun e => e.1 == id) || (s.awaits id && !follows)

/-- Check a queue request of requester `id`, which was accepted when bank `b` was active, and apply it (07 R304; 11 R469). -/
def takeQueueRequest (b id w : Nat) (s : State) : State :=
  match s.queueCheckIn b id w with
  | some f =>
    s |> raiseCtx f srcQueue (fld w 12 6) (fld w 18 5) (fld w 4 8)
      |> queueAnswer id false 0 false (s.queue (fld w 4 8)).isEmpty false false true f
  | none => queueApply b id w s

/-- The requests whose requesters wait no more, in issue order. -/
def runWaiting : Nat → State → State
  | 0, s => s
  | k + 1, s =>
    match s.queues.waiting.find? (fun e => !s.awaits e.1) with
    | none => s
    | some e =>
      { s with queues := { s.queues with waiting := s.queues.waiting.erase e } }
        |> takeQueueRequest e.2.2 e.1 e.2.1
        |> runWaiting k

/-- Run them all. -/
def sweepWaiting (s : State) : State := runWaiting s.queues.waiting.length s

/-- Handle a queue request of requester `id` (07 R304, R305). Where it has freed space for held writes, their requesters go
on. -/
def queueRequest (id w : Nat) (s : State) : State :=
  let s := wakeUp swSync s
  if s.waitsBehind id w then { s with queues := { s.queues with waiting := s.queues.waiting ++ [(id, w, s.mapBank)] } }
  else
    let t := takeQueueRequest s.mapBank id w s
    if (s.queue (fld w 4 8)).held.isEmpty then t else sweepWaiting t

/-- A spilled word returns from the bed, or its read has failed for good (07 R308, R311). -/
def refilled (q pos : Nat) (data : Option (BitVec 64 × Bool)) (s : State) : State :=
  let x := s.queue q
  let i := sub32 pos x.rel
  if x.words.length ≤ i || (x.words.getD i {}).place != 2 then s
  else
    let w : QWord :=
      match data with
      | some (d, par) => { data := d, parity := par, place := 3 }
      | none => { data := 0, place := 3, bad := true }
    let s := modQueue q (fun x => { x with words := setAt x.words i w }) s
    match x.reading with
    | some id =>
      if x.rd == pos then s |> readWord id q |> sweepWaiting else s
    | none => s

/-- The read timeout of a queue fires (07 R310). -/
def queueTimedOut (q : Nat) (s : State) : State :=
  let p := s.qPart q
  let c := s.qCtx q
  let occ := (s.queue q).occupancy
  let faults := s.qOnTimeout q && !s.detOf p
  s |> modQueue q (fun x => { x with timedOut := true, timer := none, fired := true }) |> noteBit (0x81000 + 8 * q) 30
    |> sendEvent 19 p c (put q 64 8 + put occ 72 27 + put (flag faults) 99 1)
    |> (fun s => if faults then raiseCtx fltQueueTimeout srcQueue p c q s else s)

/-- Parting step 6 (08 R363): held writes are discarded, positions set to 0 and contents dropped. -/
def partQueues (p c : Nat) (s : State) : State :=
  let qs := ((s.recsOf tyQueue).filter (fun r => r.u 16 1 == p && r.u 17 1 == c)).map (·.key0)
  qs.foldl
    (fun s q => modQueue q (fun x =>
      { (default : Queue) with
        lastRead := x.lastRead, underrun := x.underrun, timedOut := x.timedOut, poisonCount := x.poisonCount }) s) s
    |> sweepWaiting

end Sys2Proof.Machine
end

