-- ==== Sys2Proof/Machine/CtxUnit.lean ====
section
/-!
DEFINITION. Residency and scratchpads (08 R335, R342 to R352): BORROW and RETURN, the gouge, bring-in and demotion,
the quantum and the hold limit (08 R339, R359).
-/
namespace Sys2Proof.Machine

/-! ### Scratchpad records (08 R344, 11 R436) -/

def State.scU (s : State) (lo n : Nat) : Nat := s.recU tyScratch 0 0 lo n
def State.lineBytes (s : State) : Nat := s.scU 16 2
def State.spillBase (s : State) : Nat := s.scU 20 2
def State.spillCount (s : State) : Nat := s.scU 22 2
def State.lineCost (s : State) : Nat := s.scU 24 4
def State.gougeOpcode (s : State) : Nat := s.scU 28 1
def State.spillArea (s : State) (p c : Nat) : Nat := fld (s.recU tySpill p c 16 8) 0 52

/-- The partition whose allocation holds the engines of a core (08 R332). -/
def State.coreOwner (s : State) (core : Nat) : Option Nat := s.parts.find? (fun p => (s.allocCores p).contains core)

/-- Ranges of lines: first line and count. -/
abbrev Lines := Nat × Nat

/-- Two ranges have a line in common. -/
def meet (a b : Lines) : Bool := decide (max a.1 b.1 < min (a.1 + a.2) (b.1 + b.2))

/-- Every line of a range lies in the spill range. -/
def State.inSpill (s : State) (a : Lines) : Bool :=
  decide (s.spillBase ≤ a.1) && decide (a.1 + a.2 ≤ s.spillBase + s.spillCount)

/-- Guarantees that are held on the cores of a partition: contexts ARRIVING, RESIDENT or PARTING that have one (08 R345, 11
R436). -/
def State.heldGuarantees (s : State) (p : Nat) : List Lines :=
  ((s.ctxsOf p).filter (fun c =>
      s.guarCount p c != 0 &&
        ((s.ctx p c).st == .arriving || (s.ctx p c).st == .resident || (s.ctx p c).st == .parting))).map
    (fun c => (s.guarFirst p c, s.guarCount p c))

/-- The run's lines are lent, or being restored (08 R345, R351, R352). -/
def Run.taken (r : Run) : Bool := r.st != 3

def Run.range (r : Run) : Lines := (r.first, r.lines)
def Window.range (w : Window) : Lines := (w.first, w.lines)

/-- What stands in the way of lending on a core: guarantees, runs that are lent, reserved windows (08 R345, R349). -/
def State.blockers (s : State) (core p : Nat) : List Lines :=
  s.heldGuarantees p
    ++ ((s.ctxs.runs.filter (fun r => r.core == core && r.taken)).map (·.range))
    ++ ((s.ctxs.windows.filter (fun w => w.core == core)).map (·.range))

/-- The same for the window of a gouge: runs lent to a context of a class priority below `prio` are no obstacle (08 R349). -/
def State.windowBlockers (s : State) (core p prio : Nat) : List Lines :=
  s.heldGuarantees p
    ++ ((s.ctxs.runs.filter (fun r =>
          r.core == core && r.taken && (r.st == 4 || decide (prio ≤ s.ctxPrio r.part r.ctx)))).map (·.range))
    ++ ((s.ctxs.windows.filter (fun w => w.core == core)).map (·.range))

/-- The lowest range of n lines of the spill range that meets no blocker: it starts at the spill range or behind one. -/
def State.lowestRange (s : State) (n : Nat) (blocks : List Lines) : Option Nat :=
  let starts := s.spillBase :: blocks.map (fun b => b.1 + b.2)
  (sortBy (fun a b => decide (a ≤ b)) starts).find? (fun l =>
    s.inSpill (l, n) && !blocks.any (fun b => meet (l, n) b))

/-! ### Gouge tasks (08 R350 to R352) -/

/-- Address of gouge command area `j` of a core (11 R435). -/
def State.gougeAddr (s : State) (p core j : Nat) : Nat := s.serveRegion p + 0x4000 + (16 * core + j) * 256

/-- A gouge command area that no gouge task of the core uses. -/
def State.freeGougeArea (s : State) (p core : Nat) : Option Nat :=
  (List.range 16).find? (fun j =>
    !s.tasks.slots.any (fun e =>
      e.2.st != .free && isGouge e.2 && (e.2.desc.map (·.cmdPtr)) == some (s.gougeAddr p core j / 256)))

/-- Bytes 31:0 of a gouge command area (08 R350). -/
def State.gougeCommand (s : State) (r : Run) (restore : Bool) : Nat :=
  put s.gougeOpcode 0 8 + put (flag restore) 8 1 + put r.first 64 13 + put r.lines 77 13
    + put (s.spillArea r.part r.ctx + (r.core * s.spillCount + r.first - s.spillBase) * s.lineBytes) 128 52

/-- Change a run. -/
def modRun (core first : Nat) (st : Nat) (s : State) : State :=
  { s with
    ctxs := { s.ctxs with
      runs := s.ctxs.runs.map (fun r => if r.core == core && r.first == first then { r with st := st } else r) } }

/-- Create the gouge task of a run, when a slot and a command area are free (08 R350, R352). It is READY at its creation, so
it is created when the run's context has no task ISSUED on the core (08 R351). -/
def createGouge (r : Run) (restore : Bool) (s : State) : State :=
  match if s.issuedOn r.part r.ctx r.core then none else s.freeGougeArea r.part r.core with
  | none => s
  | some j =>
    let addr := s.gougeAddr r.part r.core j
    let d : Desc :=
      { partition := r.part, context := r.ctx, epoch := s.image.epoch % 256, engineClass := 2, prio := 15, vgroup := 0xFFFF
        costCycles := r.lines * s.lineCost, cmdPtr := addr / 256 }
    match createSingle d (.gouge r.core r.first restore) none s with
    | none => s
    | some (_, s) =>
      s |> modRun r.core r.first (if restore then 4 else 2)
        |> issueWrite (.gougeArea r.part) addr ⟨256, s.gougeCommand r restore⟩ r.part r.ctx false

/-- Every victim of a reserved window is resolved: its requester is woken (08 R351). -/
def checkWindows (core : Nat) (s : State) : State :=
  s.ctxs.windows.foldl
    (fun s w =>
      if w.core == core && !w.ready && !s.ctxs.runs.any (fun r => r.core == core && r.taken && meet r.range w.range) then
        { s with
          ctxs := { s.ctxs with
            windows := s.ctxs.windows.map (fun v => if v == w then { v with ready := true } else v) } }
          |> wakeWire w.src
      else s) s

/-- Runs that can be restored on a core: SPILLED, and every line lendable (08 R352). -/
def State.restorable (s : State) (core : Nat) : List Run :=
  sortBy (fun a b => decide (a.first ≤ b.first))
    (s.ctxs.runs.filter (fun r =>
      r.core == core && r.st == 3 && !(s.blockers core r.part).any (fun b => meet b r.range)))

/-- The work of a gouge on a core: spill tasks, windows, restores, and contexts that wait for lines. -/
def gougeWork (core : Nat) (s : State) : State :=
  let spills := sortBy (fun a b => decide (a.first ≤ b.first))
    (s.ctxs.runs.filter (fun r => r.core == core && r.st == 1))
  let s := spills.foldl (fun s r => createGouge r false s) s
  let s := checkWindows core s
  let s := (s.restorable core).foldl
    (fun s r => if (s.restorable core).contains r then createGouge r true s else s) s
  match s.coreOwner core with
  | none => s
  | some p => laters (((s.ctxsOf p).filter (fun c => (s.ctx p c).lineWait)).map (fun c => Job.arrive p c)) s

/-- A gouge task is final (08 R351, R352). The spill of a run that has been returned meanwhile leaves nothing SPILLED; its
failure is a failed gouge all the same. -/
def gougeDone (core first : Nat) (restore : Bool) (status : Nat) (poison : Bool) (p c : Nat) (s : State) : State :=
  match s.ctxs.runs.find? (fun r =>
      r.core == core && r.first == first && r.part == p && r.ctx == c && r.st == (if restore then 4 else 2)) with
  | none => (if status == stOk && !poison then s else raiseCtx fltGouge srcSupervisor p c 0 s) |> later (.gouge core)
  | some r =>
    if status == stOk && !poison then
      let s := modSlice p (fun v =>
        { v with
          gougeLines := wrapAdd v.gougeLines (if restore then 0 else r.lines) 64
          restoreLines := wrapAdd v.restoreLines (if restore then r.lines else 0) 64 }) s
      s |> modRun core first (if restore then 0 else 3) |> later (.gouge core)
    else s |> raiseCtx fltGouge srcSupervisor p c 0 |> later (.gouge core)

/-! ### BORROW and RETURN (08 R346, R347) -/

/-- Answer a scratchpad request on its lane (08 R346). -/
def scratchAnswer (src resp fault value : Nat) (s : State) : State := emit (.response 3 src resp fault value) s

/-- Drop the reservation of a requester (08 R351). -/
def dropReservation (src : Nat) (s : State) : State :=
  let mine := s.ctxs.windows.filter (fun w => w.src == src)
  if mine.isEmpty then s
  else
    { s with ctxs := { s.ctxs with windows := s.ctxs.windows.filter (fun w => w.src != src) } }
      |> laters (mine.map (fun w => Job.gouge w.core))

/-- Lend a run. -/
def lend (core p c first n : Nat) (s : State) : State :=
  { s with
    ctxs := { s.ctxs with
      runs := s.ctxs.runs ++ [{ core := core, part := p, ctx := c, first := first, lines := n }] } }

/-- A BORROW that has passed its checks (08 R347, R349, R351). -/
def borrowLines (src core p c n : Nat) (s : State) : State :=
  match s.ctxs.windows.find? (fun w => w.src == src && w.core == core && w.part == p && w.ctx == c && w.lines == n) with
  | some w =>
    if w.ready then
      { s with ctxs := { s.ctxs with windows := s.ctxs.windows.filter (fun v => v != w) } }
        |> lend core p c w.first n |> later (.gouge core) |> scratchAnswer src respGranted 0 w.first
    else scratchAnswer src respSleep 0 0 s
  | none =>
    let s := dropReservation src s
    let mine := s.ctxs.runs.filter (fun r => r.core == core && r.part == p && r.ctx == c)
    let have' := (mine.map (·.lines)).foldl (· + ·) 0
    if s.borrowMax p c < have' + n || 16 ≤ mine.length then scratchAnswer src respRefused 0 0 s
    else
      match s.lowestRange n (s.blockers core p) with
      | some first => s |> lend core p c first n |> scratchAnswer src respGranted 0 first
      | none =>
        match s.lowestRange n (s.windowBlockers core p (s.ctxPrio p c)) with
        | none => scratchAnswer src respRefused 0 0 s
        | some first =>
          let w : Window := { core := core, src := src, part := p, ctx := c, first := first, lines := n }
          { s with
            ctxs := { s.ctxs with
              windows := s.ctxs.windows ++ [w]
              runs := s.ctxs.runs.map (fun r =>
                if r.core == core && r.st == 0 && meet r.range w.range then { r with st := 1 } else r) } }
            |> later (.gouge core) |> scratchAnswer src respSleep 0 0

/-- A RETURN that has passed its first checks (08 R347). -/
def returnLines (src core p c first n : Nat) (s : State) : State :=
  let s := dropReservation src s
  let mine (r : Run) : Bool :=
    r.core == core && r.part == p && r.ctx == c && r.first == first && r.lines == n && (r.st == 0 || r.st == 1 || r.st == 2)
  if s.ctxs.runs.any mine then
    { s with ctxs := { s.ctxs with runs := s.ctxs.runs.filter (fun r => !mine r) } }
      |> later (.gouge core) |> scratchAnswer src respDone 0 0
  else s |> raiseCtx fltScratchAccess srcSupervisor p c 0 |> scratchAnswer src respFault fltScratchAccess 0

/-- A scratchpad request with a fixed op: 0 BORROW, 1 RETURN, others reserved (08 R346, R347). -/
def scratchRequest (src op w : Nat) (s : State) : State :=
  let n := fld w 2 13
  let p := fld w 28 6
  let c := fld w 34 5
  if 2 ≤ op || fld w 39 25 != 0 || n == 0 then
    s |> dropReservation src |> raiseCtx fltScratchOp srcSupervisor p c 0 |> scratchAnswer src respFault fltScratchOp 0
  else
    match s.coreOf src with
    | some core =>
      if (s.allocCores p).contains core && (s.ctx p c).st == .resident then
        if op == 0 then borrowLines src core p c n s else returnLines src core p c (fld w 15 13) n s
      else
        s |> dropReservation src |> raiseCtx fltScratchAccess srcSupervisor p c 0
          |> scratchAnswer src respFault fltScratchAccess 0
    | none =>
      s |> dropReservation src |> raiseCtx fltScratchAccess srcSupervisor p c 0
        |> scratchAnswer src respFault fltScratchAccess 0

/-! ### Residency (08 R335, R342, R343) -/

/-- A DORMANT context begins to arrive (08 R335). -/
def bringIn (p c : Nat) (s : State) : State :=
  if s.ctxConfigured p c && (s.ctx p c).st == .dormant then
    s |> modCtx p c (fun x => { x with st := .arriving, bringIn := none, lineWait := true }) |> later (.arrive p c)
  else s

/-- An ARRIVING context takes its guarantee lines, once no run and no reservation is in the way, and starts its bring-in
launch at the committed epoch (08 R342, R348). -/
def arriveWork (p c : Nat) (s : State) : State :=
  if (s.ctx p c).st != .arriving || !(s.ctx p c).lineWait then s
  else
    let g : Lines := (s.guarFirst p c, s.guarCount p c)
    let cores := s.allocCores p
    let inWay (r : Run) : Bool := cores.contains r.core && r.taken && meet r.range g
    let reserved := s.ctxs.windows.any (fun w => cores.contains w.core && meet w.range g)
    if s.ctxs.runs.any inWay then
      let hit := dedup ((s.ctxs.runs.filter (fun r => inWay r && r.st == 0)).map (·.core))
      { s with
        ctxs := { s.ctxs with
          runs := s.ctxs.runs.map (fun r => if inWay r && r.st == 0 then { r with st := 1 } else r) } }
        |> laters (hit.map Job.gouge)
    else if reserved then s
    else
      let id := s.jigs.nextLaunch
      s |> modCtx p c (fun x => { x with lineWait := false, bringIn := some id })
        |> startLaunch .bringIn p c s.image.epoch (s.bringInAddr p c) 0

/-- The bring-in launch has completed: RESIDENT, or FLT_BRING_IN (08 R335). -/
def broughtIn (p c status : Nat) (poison : Bool) (s : State) : State :=
  if (s.ctx p c).st != .arriving then s
  else if status == stOk && !poison then
    s |> modCtx p c (fun x => { x with st := .resident, bringIn := none }) |> later .sweep
  else raiseCtx fltBringIn srcSupervisor p c 0 s

/-- Free every run and reservation of a context (08 R343, R363 step 7). -/
def freeRuns (p c : Nat) (s : State) : State :=
  let mine (r : Run) : Bool := r.part == p && r.ctx == c
  let cores := dedup ((s.ctxs.runs.filter mine).map (·.core) ++
    (s.ctxs.windows.filter (fun w => w.part == p && w.ctx == c)).map (·.core) ++ s.allocCores p)
  { s with
    ctxs := { s.ctxs with
      runs := s.ctxs.runs.filter (fun r => !mine r)
      windows := s.ctxs.windows.filter (fun w => !(w.part == p && w.ctx == c)) } }
    |> laters (cores.map Job.gouge)

/-- The context has a pin under 05 R227 or R228: a section of the running step, or an outside-step request. -/
def State.pinsHeld (s : State) (p c : Nat) : Bool :=
  (s.serve p).entries.any (fun e => e.ctx == c && (s.page p).stepPins.any (fun k => k.1 == e.stream))
    || (s.page p).outside.any (fun o => o.active && (s.launch o.launch).ctx == c)

/-- CTX_CTRL.demote (08 R343). -/
def demote (p c : Nat) (s : State) : State :=
  if (s.ctx p c).st != .resident then s
  else if s.tasks.slots.any (fun e => e.2.st != .free && e.2.part == p && e.2.ctx == c) || s.pinsHeld p c
      || s.holding p c || !(s.guarCount p c == 0 || s.inSpill (s.guarFirst p c, s.guarCount p c)) then
    s |> modCtx p c (fun x => { x with demoteRefused := true }) |> noteBit (offCtx p c) 13
  else s |> modCtx p c (fun x => { x with st := .dormant }) |> freeRuns p c

/-! ### Timers (08 R338, R339, R358, R359) -/

/-- The quantum of the running class has expired (08 R338, R358). -/
def quantumExpired (p : Nat) (s : State) : State :=
  match (s.slice p).running with
  | none => s
  | some r =>
    match s.peerClass p r with
    | none => modSlice p (fun v => { v with since := s.power.heart }) s
    | some j =>
      if s.classHolds p r then modSlice p (fun v => { v with deferred := true }) s
      else startClass p j false s

/-- A hold count has stayed above 0 for the hold limit (08 R359). -/
def holdLimit (i c : Nat) (s : State) : State := raiseCtx fltHoldLimit srcSync (s.sem i).part c i s

end Sys2Proof.Machine
end

