-- ==== Sys2Proof/Machine/StreamUnit.lean ====
section
/-!
DEFINITION. The stream table and the page lists (04 R165 to R168, R174 to R176; 05 R211 to R222, R236 to R240):
records, eligibility queues, release, and the write-back of the two caches.
-/
namespace Sys2Proof.Machine

/-! ### Serving records (11 R438) -/

def State.svU (s : State) (p lo n : Nat) : Nat := s.recU tyServe p 0 lo n
def State.streamBase (s : State) (p : Nat) : Nat := fld (s.svU p 16 4) 0 20
def State.streamCount (s : State) (p : Nat) : Nat := s.svU p 20 4
def State.ledgerBase (s : State) (p : Nat) : Nat := s.svU p 32 3
def State.ledgerCount (s : State) (p : Nat) : Nat := s.svU p 36 4
def State.periodUs (s : State) (p : Nat) : Nat := s.svU p 48 2
def State.stepBlocks (s : State) (p : Nat) : Nat := s.svU p 50 1
def State.chunksMax (s : State) (p : Nat) : Nat := s.svU p 51 1
def State.maxAdmit (s : State) (p : Nat) : Nat := s.svU p 52 4
def State.budgetM (s : State) (p : Nat) : Nat := s.svU p 64 8
def State.blockBase (s : State) (p : Nat) : Nat := fld (s.svU p 72 8) 0 52

/-- cr of the cap ratio: r_p is 256 without a cap (13 R535). -/
def State.capCr (s : State) : Nat := min 16384 ((if s.power.cap == 0 then 256 else s.power.capRatio) * s.power.ratio)

/-- The compute budget in force (04 R180, 13 R535, R536). -/
def State.budgetC (s : State) (p : Nat) : Nat := s.svU p 56 8 * s.capCr / 16384

/-- Page formats (05 R214, 11 R438). -/
def State.pfU (s : State) (p f lo n : Nat) : Nat := s.recU tyPageFormat p f lo n
def State.pageSize (s : State) (p f : Nat) : Nat := s.pfU p f 16 2
def State.pageBytes (s : State) (p f : Nat) : Nat := s.pageSize p f * s.pfU p f 20 4
def State.sinkPages (s : State) (p f : Nat) : Nat := s.pfU p f 18 1
def State.windowPages (s : State) (p f : Nat) : Nat := s.pfU p f 24 2
def State.frameBase (s : State) (p f t : Nat) : Nat := s.pfU p f (32 + 16 * t) 8
def State.frameCount (s : State) (p f t : Nat) : Nat := s.pfU p f (40 + 16 * t) 4

/-- move_cost of a tier pair, in the order of 11 R438. -/
def State.moveCost (s : State) (p f a b : Nat) : Nat :=
  let k :=
    match a, b with
    | 0, 1 => 0 | 0, 2 => 1 | 1, 0 => 2 | 1, 2 => 3 | 2, 0 => 4 | _, _ => 5
  s.pfU p f (80 + 4 * k) 4

/-- A serving context of the partition (04 R173). -/
def State.servingCtx (s : State) (p c : Nat) : Bool := s.ctxConfigured p c && s.ctxServing p c

/-- The token limit of a stream (05 R216). -/
def State.tokenLimit (s : State) (p f : Nat) : Nat := min 16777216 (65536 * s.pageSize p f)

/-! ### Stream records (04 R166) -/

/-- The 512 bits of a stream record. -/
def Stream.bits (x : Stream) (id : Nat) : Nat :=
  put id 0 20 + put x.state 20 3 + put (flag x.closing) 23 1 + put x.context 24 5 + put x.fallback 29 5
    + put x.prio 34 4 + put (flag x.onFallback) 38 1 + put (flag x.prov) 39 1 + put x.holdLeft 40 8
    + put x.position 48 25 + put (flag x.inStep) 73 1 + put (flag x.cancelled) 74 1 + put x.pending 80 24
    + put x.genLeft 104 24 + put x.pageHead 128 24 + put x.pageCount 152 17 + put x.deadline 176 24
    + put x.streamStep 208 32 + put x.lastStep 240 32 + put x.lastDone 272 32 + put x.tokenRing 304 40
    + put x.ringLog2 344 5 + put x.intakeSeq 352 32 + put x.missCount 384 32

/-- A record read from the stream table; what the block holds beside the record stays. -/
def Stream.ofBits (x : Stream) (w : Nat) : Stream :=
  { x with
    state := fld w 20 3, closing := bit w 23, context := fld w 24 5, fallback := fld w 29 5, prio := fld w 34 4
    onFallback := bit w 38, prov := bit w 39, holdLeft := fld w 40 8, position := fld w 48 25, inStep := bit w 73
    cancelled := bit w 74, pending := fld w 80 24, genLeft := fld w 104 24, pageHead := fld w 128 24
    pageCount := fld w 152 17, deadline := fld w 176 24, streamStep := fld w 208 32, lastStep := fld w 240 32
    lastDone := fld w 272 32, tokenRing := fld w 304 40, ringLog2 := fld w 344 5, intakeSeq := fld w 352 32
    missCount := fld w 384 32 }

/-- The state that R167 gives a stream that is neither FREE nor HELD. -/
def Stream.settled (x : Stream) : Stream :=
  if x.state == 0 || x.state == 4 then x
  else
    { x with
      state :=
        if 0 < x.pending then 1
        else if 0 < x.genLeft && 1 ≤ x.position && x.position ≤ 16777215 then 2 else 3 }

/-- Eligible for admission (04 R167, R174, R181). -/
def Stream.eligible (x : Stream) : Bool :=
  (x.state == 1 || x.state == 2) && !x.inStep && !x.cancelled && !x.releasing

/-- Change a stream record; the copy in the cache is dirty. A record that the cache lacks comes into it: the cache affects
latency only (04 R168), so that no later fill undoes the change. -/
def updStream (p i : Nat) (f : Stream → Stream) (s : State) : State :=
  s |> modStream p i f
    |> modServe p (fun v =>
      { v with
        dirty := if v.dirty.contains i then v.dirty else v.dirty ++ [i], uncached := v.uncached.filter (· != i) })

/-- Write a dirty record back to the stream table (04 R168, 13 R541). -/
def saveStream (p i : Nat) (s : State) : State :=
  let x := s.stream p i
  s |> modServe p (fun v => { v with dirty := v.dirty.filter (· != i) })
    |> issueWrite (.stream p i) (s.streamAddr p i) ⟨64, x.bits i⟩ p x.context false

/-- The stream's page format: that of its context (05, under R213; R201). -/
def State.streamFormat (s : State) (p i : Nat) : Nat := s.ctxFormat p (s.stream p i).context

/-! ### Eligibility queues (04 R168, R181) -/

/-- Take a stream out of its partition's queues. -/
def unqueue (p i : Nat) (s : State) : State :=
  modServe p (fun v => { v with queues := Tbl.each v.queues (fun _ q => q.filter (· != i)) }) s

/-- A stream joins the tail of its queue when it becomes eligible, and leaves it when it no longer is. -/
def requeue (p i : Nat) (s : State) : State :=
  let x := s.stream p i
  if x.eligible then
    if (s.serve p).queues.any (fun q => q.2.contains i) then s
    else modServe p (fun v => { v with queues := Tbl.put v.queues x.prio (Tbl.at v.queues x.prio [] ++ [i]) }) s
  else unqueue p i s

/-! ### Page lists (05 R218 to R222, R236) -/

/-- The list from an entry, along next. -/
def walkList (t : Tbl Page) : Nat → Nat → List Nat
  | 0, _ => []
  | k + 1, i => i :: walkList t k (Tbl.at t i {}).next

/-- The pages of a stream, page 0 first. -/
def State.pagesOf (s : State) (p i : Nat) : List Nat :=
  let x := s.stream p i
  (walkList (s.page p).ledger x.pageCount x.pageHead).reverse

/-- The 128 bits of a ledger entry (05 R212). -/
def Page.bits (e : Page) : Nat :=
  put e.tier 0 2 + put e.state 2 3 + put e.location 8 52 + put e.owner 60 20 + put e.seqIndex 80 16
    + put e.next 96 24 + put e.refcount 120 8

/-- A ledger entry read from the ledger table; what the block holds beside the entry stays. -/
def Page.ofBits (e : Page) (w : Nat) : Page :=
  { e with
    tier := fld w 0 2, state := fld w 2 3, location := fld w 8 52, owner := fld w 60 20, seqIndex := fld w 80 16
    next := fld w 96 24, refcount := fld w 120 8 }

/-- Change a ledger entry; the copy in the cache is dirty, and an entry that the cache lacks comes into it (05 R239). -/
def updPage (p i : Nat) (f : Page → Page) (s : State) : State :=
  s |> modEntry p i f
    |> modPages p (fun v =>
      { v with
        dirty := if v.dirty.contains i then v.dirty else v.dirty ++ [i], uncached := v.uncached.filter (· != i) })

/-- Write a dirty entry back to the ledger table (05 R239, R240). -/
def savePage (p i : Nat) (s : State) : State :=
  s |> modPages p (fun v => { v with dirty := v.dirty.filter (· != i) })
    |> issueWrite (.ledger p i) (s.ledgerAddr p i) ⟨16, (s.entry p i).bits⟩ p (s.stream p (s.entry p i).owner).context false

/-- A page's refcount becomes `n`; the table's copy of a PINNED page stays current (05 R240). -/
def setRefcount (p i n : Nat) (s : State) : State :=
  let s := updPage p i (fun e => { e with refcount := n }) s
  if (s.entry p i).state == 4 then savePage p i s else s

/-- One list less holds a page; at refcount 0 it becomes FREE once no move of it is in flight (05 R221, R236). -/
def dropRef (p i : Nat) (s : State) : State :=
  let e := s.entry p i
  if e.refcount ≤ 1 then
    if (Tbl.find (s.page p).moves i).isSome then setRefcount p i 0 s
    else
      s |> updPage p i (fun _ => {})
        |> modPages p (fun v => { v with freed := wrapAdd v.freed 1 64 })
  else setRefcount p i (e.refcount - 1) s

/-- The pages of a released stream return (05 R236). -/
def releasePages (p i : Nat) (s : State) : State :=
  let pages := s.pagesOf p i
  pages.foldl (fun s k => dropRef p k s) s
    |> updStream p i (fun x => { x with pageCount := 0 })
    |> modPages p (fun v => { v with warm := v.warm.filter (fun w => w.1 != i) })
    |> later (.place p)

/-! ### Pins (05 R222, R227, R228) -/

/-- Pin a page for one more stream. -/
def pinPage (p i : Nat) (s : State) : State :=
  updPage p i (fun e => { e with state := 4, pins := e.pins + 1, wanted := false }) s

/-- One pin of a page is dropped; the last one leaves it RESIDENT (05 R221). -/
def unpinPage (p i : Nat) (s : State) : State :=
  updPage p i (fun e => { e with pins := e.pins - 1, state := if e.pins ≤ 1 && e.state == 4 then 1 else e.state }) s

/-- A pin of an outside-step request. -/
def pinOutside (p launch k : Nat) (s : State) : State :=
  modPages p (fun v =>
    { v with outside := v.outside.map (fun o => if o.launch == launch then { o with pins := o.pins ++ [k] } else o) }) s

/-- A stream that an outside-step request has pinned stays pinned when its entry in the step ends, with the pages that the step has
added to its list (05 R222). A request that is still being placed holds its own pins, and pins nothing more by this (05 R228). -/
def keepPins (p : Nat) (o : Outside) (s : State) : State :=
  ((s.pagesOf p o.stream).filter (fun k => (s.entry p k).state == 4 && !o.pins.contains k)).foldl
    (fun s k => s |> pinPage p k |> pinOutside p o.launch k) s

/-- The pins of the entries of the running step whose streams pass a test are dropped. -/
def dropStepPins (p : Nat) (who : Nat → Bool) (s : State) : State :=
  let s := ((s.page p).outside.filter (fun o => o.active && o.done && who o.stream)).foldl (fun s o => keepPins p o s) s
  let mine := (s.page p).stepPins.filter (fun k => who k.1)
  mine.foldl (fun s k => unpinPage p k.2 s)
    (modPages p (fun v => { v with stepPins := v.stepPins.filter (fun k => !who k.1) }) s)
    |> later (.place p)

/-! ### Release (04 R175, R176; 05 R237) -/

/-- Address of a stream's provenance entry (04 R203, 11 R435). -/
def State.provAddr (s : State) (p i : Nat) : Nat := s.serveRegion p + 0x104000 + 64 * (i - s.streamBase p)

/-- Write a stream's provenance entry (04 R203). -/
def saveProvenance (p i : Nat) (s : State) : State :=
  let x := s.stream p i
  issueWrite (.provenance p) (s.provAddr p i) ⟨64, x.digest + x.input * 2 ^ 256⟩ p x.context false s

/-- Release a stream: its pages return, its provenance entry is cleared, the record is FREE, and the event is written
(04 R175, R176). A stream that an outside-step request pins waits for the pin's drop (05 R237). -/
def releaseStream (p i : Nat) (s : State) : State :=
  if (s.page p).outside.any (fun o => o.active && o.stream == i) then
    s |> updStream p i (fun x => { x with releasing := true }) |> requeue p i
  else
    let x := s.stream p i
    s |> releasePages p i
      |> updStream p i (fun _ => {})
      |> unqueue p i
      |> saveProvenance p i
      |> sendEvent 18 p x.context
          (put i 64 20 + put x.lastStep 96 32 + put x.position 128 25 + put (flag x.cancelled) 153 1 + put x.endSeq 160 32)

/-- R167 sets the state of a stream; a closing one that is IDLE and outside the running step is released (04 R175). -/
def settleStream (p i : Nat) (s : State) : State :=
  let s := updStream p i Stream.settled s
  let x := s.stream p i
  if x.closing && x.state == 3 && !x.inStep then releaseStream p i s else requeue p i s

/-! ### The two caches (04 R168, 05 R239) -/

/-- A cache fill of the partition is outstanding. -/
def State.filling (s : State) (p : Nat) : Bool :=
  let mine (r : BedRead) : Bool :=
    match r.why with
    | .stream q _ => q == p
    | .ledger q _ => q == p
    | _ => false
  s.bed.reads.any (fun r => mine r.2) || s.bed.readWait.any mine

/-- The context whose work reads a ledger entry: that of the stream in whose list the entry is, among those that the work
needs (13 R551). -/
def State.fillCtx (s : State) (p k : Nat) (streams : List Nat) : Nat :=
  match streams.find? (fun i => (s.pagesOf p i).contains k) with
  | some i => (s.stream p i).context
  | none => (s.stream p (s.entry p k).owner).context

/-- Read the records and entries that a piece of work needs and the caches lack; the work waits (04 R168, 05 R239). None
when nothing is lacking. -/
def fillFor (p kind : Nat) (streams pages : List Nat) (s : State) : Option State :=
  let ss := (dedup streams).filter ((s.serve p).uncached.contains ·)
  let ps := (dedup pages).filter ((s.page p).uncached.contains ·)
  if ss.isEmpty && ps.isEmpty then none
  else
    let s := modServe p (fun v => { v with misses := if v.misses.contains kind then v.misses else v.misses ++ [kind] }) s
    if s.filling p then some s
    else
      let s := ss.foldl (fun s i => issueRead (.stream p i) (s.streamAddr p i) 64 p (s.stream p i).context false s) s
      some (ps.foldl (fun s i => issueRead (.ledger p i) (s.ledgerAddr p i) 16 p (s.fillCtx p i streams) false s) s)

/-- The pages of streams, for which the ledger entries must be at hand. -/
def State.pagesOfAll (s : State) (p : Nat) (streams : List Nat) : List Nat := streams.flatMap (s.pagesOf p)

/-- The record of a stream has come from the stream table. One that an update has brought into the cache since is newer, and
stays. -/
def streamFilled (p i w : Nat) (s : State) : State :=
  if (s.serve p).uncached.contains i then
    s |> modStream p i (fun x => x.ofBits w)
      |> modServe p (fun v => { v with uncached := v.uncached.filter (· != i), dirty := v.dirty.filter (· != i) })
  else s

/-- A ledger entry has come from the ledger table. One that an update has brought into the cache since is newer, and stays. -/
def pageFilled (p i w : Nat) (s : State) : State :=
  if (s.page p).uncached.contains i then
    s |> modEntry p i (fun e => e.ofBits w)
      |> modPages p (fun v => { v with uncached := v.uncached.filter (· != i), dirty := v.dirty.filter (· != i) })
  else s

/-- The records in the hot-stream cache of the instance: partition and stream. -/
def State.cachedStreams (s : State) : List (Nat × Nat) :=
  s.serves.flatMap (fun e => ((e.2.streams.map (·.1)).filter (fun i => !e.2.uncached.contains i)).map (fun i => (e.1, i)))

/-- A record is written back, if it is dirty, and leaves the cache. -/
def evictStream (p i : Nat) (s : State) : State :=
  let s := if (s.serve p).dirty.contains i then saveStream p i s else s
  modServe p (fun v => { v with uncached := v.uncached ++ [i] }) s

/-- Evict `n` records; which ones go is open (04 R168; log entry 25). -/
def evictStreams : Nat → State → State
  | 0, s => s
  | n + 1, s =>
    let cached := s.cachedStreams
    let (r, s) := takeFree 32 s
    let e := cached.getD (r % cached.length) (0, 0)
    evictStreams n (evictStream e.1 e.2 s)

/-- The entries in the ledger cache of the instance: partition and ledger index (05 R239). -/
def State.cachedPages (s : State) : List (Nat × Nat) :=
  s.pages.flatMap (fun e =>
    (e.2.ledger.map (·.1)).filter (fun i =>
      ((s.entry e.1 i).state != 0 || e.2.dirty.contains i) && !e.2.uncached.contains i) |>.map (fun i => (e.1, i)))

/-- An entry is written back, if it is dirty, and leaves the cache. -/
def evictPage (p i : Nat) (s : State) : State :=
  let s := if (s.page p).dirty.contains i then savePage p i s else s
  modPages p (fun v => { v with uncached := v.uncached ++ [i] }) s

/-- Evict `n` entries; which ones go is open (05 R239; log entry 25). -/
def evictPages : Nat → State → State
  | 0, s => s
  | n + 1, s =>
    let cached := s.cachedPages
    let (r, s) := takeFree 32 s
    let e := cached.getD (r % cached.length) (0, 0)
    evictPages n (evictPage e.1 e.2 s)

/-- The hot-stream cache holds up to stream_cache records of all the instance's partitions (04 R168), the ledger cache up to 8,192
entries (05 R239). They are cut back when a piece of work is done; work that waits for fills keeps what has come for it (log
entry 25). -/
def trimStreams (s : State) : State :=
  if s.serves.any (fun e => !e.2.misses.isEmpty) then s
  else
    s |> evictStreams (s.cachedStreams.length - s.build.streamCache)
      |> (fun s => evictPages (s.cachedPages.length - 8192) s)

/-- With write-through on, every update goes to the tables (13 R541). -/
def writeThrough (s : State) : State :=
  if !s.power.writeThrough then s
  else
    s.parts.foldl
      (fun s p =>
        let s := (s.serve p).dirty.foldl (fun s i => saveStream p i s) s
        (s.page p).dirty.foldl (fun s i => savePage p i s) s) s

end Sys2Proof.Machine
end

