-- ==== Sys2Proof/Machine/PageUnit.lean ====
section
/-!
DEFINITION. The page ledger unit (05 R219 to R241): allocation, frames, placement, eviction, moves, warming and
outside-step requests.
-/
namespace Sys2Proof.Machine

/-! ### Frames (05 R214, R225, R230) -/

/-- A new page waits for its first frame (05 R221). -/
def State.waitsFrame (s : State) (p i : Nat) : Bool :=
  let e := s.entry p i
  e.state == 2 && (Tbl.find (s.page p).moves i).isNone

/-- The frame addresses of a format in a tier that hold a page or are reserved for a move. -/
def State.usedFrames (s : State) (p f t : Nat) : List Nat :=
  let held := (s.page p).ledger.filterMap (fun x =>
    if x.2.state != 0 && x.2.format == f && x.2.tier == t && !s.waitsFrame p x.1 then some x.2.location else none)
  let moving := (s.page p).moves.flatMap (fun m =>
    if (s.entry p m.1).format == f then
      (if m.2.srcTier == t then [m.2.src] else []) ++ (if m.2.dstTier == t then [m.2.dst] else [])
    else [])
  held ++ moving

/-- How many frames of a format in a tier are free. -/
def State.freeFrames (s : State) (p f t : Nat) : Nat := s.frameCount p f t - (dedup (s.usedFrames p f t)).length

/-- The lowest free frame of a format in a tier (05 R225, R230). -/
def State.freeFrame (s : State) (p f t : Nat) : Option Nat :=
  let used := s.usedFrames p f t
  ((List.range (min (s.frameCount p f t) (used.length + 1))).map (fun k => s.frameBase p f t + k * s.pageBytes p f)).find?
    (fun a => !used.contains a)

/-! ### Allocation (05 R220, R238) and sharing (05 R219) -/

/-- The lowest FREE ledger index of the partition. -/
def State.freeLedger (s : State) (p : Nat) : Option Nat :=
  searchFrom (fun i => (s.entry p (s.ledgerBase p + i)).state == 0) (s.ledgerCount p) (s.ledgerCount p) 0
    |>.map (s.ledgerBase p + ·)

/-- Allocate the next page of a stream; none when no index is FREE. -/
def allocPage (p i : Nat) (s : State) : Option State :=
  match s.freeLedger p with
  | none => none
  | some k =>
    let x := s.stream p i
    some (s
      |> updPage p k (fun _ =>
          { state := 2, owner := i, seqIndex := x.pageCount, next := x.pageHead, refcount := 1, format := s.streamFormat p i })
      |> updStream p i (fun x => { x with pageHead := k, pageCount := x.pageCount + 1 })
      |> modPages p (fun v => { v with allocs := wrapAdd v.allocs 1 64 }))

/-- Allocate pages up to page `e`; false when the range has no FREE index left (05 R220, R238). -/
def allocUpTo : Nat → Nat → Nat → Nat → State → Bool × State
  | 0, _, _, _, s => (true, s)
  | k + 1, p, i, e, s =>
    if e < (s.stream p i).pageCount then (true, s)
    else
      match allocPage p i s with
      | none => (false, raise fltLedgerFull srcLedger p (s.stream p i).context 1 0 s)
      | some s => allocUpTo k p i e s

/-! ### The needed set (05 R223) -/

/-- Page indices that a step needs in tier 0, ascending. -/
def State.neededIdx (s : State) (p f pos n : Nat) : List Nat :=
  let z := s.pageSize p f
  if z == 0 then []
  else
    let w := pos / z
    let e := (pos + n - 1) / z
    (List.range (e + 1)).filter (fun k => decide (k < s.sinkPages p f) || decide (w ≤ k + s.windowPages p f))

/-- The needed pages of a stream as ledger indices, and its other pages. -/
def State.splitPages (s : State) (p i pos n : Nat) : List Nat × List Nat :=
  let pages := s.pagesOf p i
  let idx := s.neededIdx p (s.streamFormat p i) pos n
  let need := idx.filterMap (fun k => pages[k]?)
  (need, pages.filter (fun k => !need.contains k))

/-! ### Moves (05 R231, R232) -/

/-- Bytes 31:0 of a move command (05 R232). -/
def State.moveCommand (s : State) (p i : Nat) (m : Move) : Nat :=
  let f := (s.entry p i).format
  put (s.pfU p f 19 1) 0 8 + put m.srcTier 8 2 + put m.dstTier 10 2 + put m.src 64 52 + put m.dst 128 52
    + put (s.pageBytes p f) 192 32 + put i 224 24

/-- Start a move of page `i` under context `c` at a priority; none without one of the 64 areas or a task slot. -/
def startMove (p i c dstTier dst why prio : Nat) (s : State) : Option State :=
  let e := s.entry p i
  let f := e.format
  match (List.range 64).find? (fun a => !(s.page p).moves.any (fun m => m.2.area == a)) with
  | none => none
  | some a =>
    let addr := s.serveRegion p + 256 * a
    let d : Desc :=
      { partition := p, context := c, epoch := s.image.epoch % 256, engineClass := 2, prio := prio
        vgroup := s.pfU p f 26 2, costCycles := s.moveCost p f e.tier dstTier
        costBytes := min (s.pageBytes p f) 0xFFFFFF, cmdPtr := addr / 256 }
    match createSingle d (.move i) none s with
    | none => none
    | some (slot, s) =>
      let m : Move :=
        { srcTier := e.tier, src := e.location, dstTier := dstTier, dst := dst, why := why, area := a
          task := s.taskId slot, ctx := c }
      some (s
        |> modPages p (fun v => { v with moves := Tbl.put v.moves i m })
        |> updPage p i (fun e => { e with state := if why == 1 then 3 else 2 })
        |> issueWrite (.moveArea p i) addr ⟨256, s.moveCommand p i m⟩ p c false)

/-! ### Eviction (05 R229, R230) -/

/-- Pages of a format that may be evicted: in tier 0, RESIDENT, and none whose outbound move has just failed. Such a page is
passed over until another outbound move succeeds, even where no other candidate is left (DESIGN CHOICE, log entry 101). -/
def State.evictable (s : State) (p f k : Nat) : Bool :=
  let e := s.entry p k
  e.state == 1 && e.tier == 0 && e.format == f && !(s.page p).spared.contains k

/-- Age of a stream: (current step − last_step), oldest of all when it was never admitted (05 R229). -/
def State.streamAge (s : State) (p i : Nat) : Nat :=
  let x := s.stream p i
  if x.admitted then sub32 (s.serve p).step x.lastStep else 2 ^ 32

/-- The victim and the stream it is taken from (05 R229). -/
def State.victim (s : State) (p f : Nat) : Option (Nat × Nat) :=
  let streams := ((s.serve p).streams.filter (fun x => x.2.state != 0)).map (·.1)
  let best := streams.filterMap (fun i =>
    (((s.pagesOf p i).filter (fun k => s.evictable p f k && (s.entry p k).refcount == 1)).getLast?).map (fun k => (i, k)))
  match leastBy (fun a b =>
      decide (s.streamAge p b.1 < s.streamAge p a.1) || (s.streamAge p a.1 == s.streamAge p b.1 && decide (a.1 < b.1))) best with
  | some (i, k) => some (k, i)
  | none =>
    match ((s.page p).ledger.map (·.1)).find? (fun k => s.evictable p f k && decide (1 < (s.entry p k).refcount)) with
    | some k => some (k, (streams.find? (fun i => (s.pagesOf p i).contains k)).getD (s.entry p k).owner)
    | none => none

/-- A move carries the context of its stream (05 R231), or that of the request `c` when the stream's is being parted or is
parted (log entry 26). -/
def State.moveCtx (s : State) (p i c : Nat) : Nat :=
  if s.gone p (s.stream p i).context then c else (s.stream p i).context

/-- Start one eviction, for a request of context `c`. -/
def startEviction (p f c : Nat) (s : State) : State :=
  match s.victim p f with
  | none => s
  | some (k, i) =>
    let dst :=
      match s.freeFrame p f 1 with
      | some a => some (1, a)
      | none => (s.freeFrame p f 2).map (fun a => (2, a))
    match dst with
    | none => s
    | some (t, a) =>
      (startMove p k (s.moveCtx p i c) t a 1 15 s).getD s

/-! ### Placement (05 R224 to R226, R228, R235) -/

/-- What a pass over the requests has found so far. -/
structure Pass where
  st       : State
  /-- An earlier request waits for a frame, so no later one takes any (R225). -/
  blocked  : Bool := false
  /-- The page formats of the requests that wait for a frame. -/
  waits    : List Nat := []
  /-- The pages of these requests: a page that several holders need is asked for once (R224, R241). -/
  asked    : List Nat := []
  /-- Needed pages of the present holder, or step, without a tier-0 frame. -/
  unframed : Nat := 0
  /-- The present holder waits for a move. -/
  stalled  : Bool := false

/-- Outbound moves that will free a tier-0 frame of a format: those of pages that nothing has asked for since (05 R225, R241). -/
def State.freeing (s : State) (p f : Nat) : Nat :=
  ((s.page p).moves.filter (fun m => m.2.why == 1 && (s.entry p m.1).format == f && !(s.entry p m.1).wanted)).length

/-- A request takes its place in the line (05 R225): one line for all page formats of the partition (DEDUCED, log entry 26). -/
def Pass.wait (a : Pass) (k f : Nat) : Pass :=
  { a with blocked := true, waits := f :: a.waits, asked := k :: a.asked, unframed := a.unframed + 1, stalled := true }

/-- A request for a tier-0 frame for page `k`: the lowest free one, or a place in the line, and one eviction when neither a free frame of the
format nor the outbound move of an earlier eviction is there for it (05 R225). -/
def Pass.frame (a : Pass) (p k f c : Nat) : Option Nat × Pass :=
  match if a.blocked then none else a.st.freeFrame p f 0 with
  | some addr => (some addr, a)
  | none =>
    let a := a.wait k f
    if a.st.freeFrames p f 0 + a.st.freeing p f < a.waits.count f then (none, { a with st := startEviction p f c a.st })
    else (none, a)

/-- Bring one needed page on: it is pinned, or it is on its way, or it waits. A page that another holder pins in tier 1 or 2 is not
moved before that pin is dropped (05 R222). One that an earlier holder has asked for has its place in the line (05 R241). `pin`
records the pin with its holder. -/
def Pass.need (a : Pass) (p c k : Nat) (pin : State → State) : Pass :=
  let e := a.st.entry p k
  let moving := (Tbl.find (a.st.page p).moves k).isSome
  if (e.state == 1 || e.state == 4) && e.tier == 0 then { a with st := pin (pinPage p k a.st) }
  else if a.asked.contains k then { a with unframed := a.unframed + 1, stalled := a.stalled || e.state != 4 }
  else if e.state == 1 then
    match a.frame p k e.format c with
    | (some addr, a) =>
      match startMove p k c 0 addr 0 15 a.st with
      | some st => { a with st := st, stalled := true }
      | none => a.wait k e.format
    | (none, a) => a
  else if e.state == 4 then { a.wait k e.format with stalled := a.stalled }
  else if e.state == 2 && moving then { a with stalled := true }
  else if e.state == 2 then
    match a.frame p k e.format c with
    | (some addr, a) =>
      { a with st := a.st |> updPage p k (fun e => { e with tier := 0, location := addr }) |> pinPage p k |> pin }
    | (none, a) => a
  else if e.state == 3 then { a with st := updPage p k (fun e => { e with wanted := true }) a.st, stalled := true }
  else { a with unframed := a.unframed + 1 }

/-- Pin another page of a stream where it lies, unless it is in a move (05 R224). -/
def Pass.other (a : Pass) (p k : Nat) (pin : State → State) : Pass :=
  let e := a.st.entry p k
  if e.state == 1 || e.state == 4 then { a with st := pin (pinPage p k a.st) } else a

/-- A pin of the running step's entry of stream `i`. -/
def pinStep (p i k : Nat) (s : State) : State :=
  modPages p (fun v => { v with stepPins := v.stepPins ++ [(i, k)] }) s

/-- The section of an entry. -/
def State.sectionOf (s : State) (p : Nat) (e : Entry) : Section :=
  ((s.serve p).sections.find? (fun x => x.ctx == e.ctx)).getD {}

/-- The entries whose sections still wait for their pages. -/
def State.placing (s : State) (p : Nat) : List Entry :=
  if !(s.serve p).running then []
  else
    (s.serve p).entries.filter (fun e => !(s.sectionOf p e).resident && (s.sectionOf p e).fin.isNone && !s.gone p e.ctx)

/-- A section's placement waits for a move: counted once (05 R244). -/
def noteStall (p c : Nat) (s : State) : State :=
  if (s.serve p).sections.any (fun x => x.ctx == c && !x.stalled) then
    s |> modServe p (fun v =>
          { v with sections := v.sections.map (fun x => if x.ctx == c then { x with stalled := true } else x) })
      |> modPages p (fun v => { v with stalls := wrapAdd v.stalls 1 64 })
  else s

/-- Needed pages of one entry of the step. -/
def placeEntry (p : Nat) (e : Entry) (a : Pass) : Pass :=
  let (need, _) := a.st.splitPages p e.stream e.position e.tokens
  let a := need.foldl
    (fun a k =>
      if (a.st.page p).stepPins.contains (e.stream, k) || (a.st.page p).failed.contains k then a
      else a.need p (a.st.moveCtx p e.stream e.ctx) k (pinStep p e.stream k)) { a with stalled := false }
  if a.stalled then { a with st := noteStall p e.ctx a.st } else a

/-- Other pages of one entry, once every needed page of the step has its frame (05 R224). -/
def placeOthers (p : Nat) (e : Entry) (s : State) : State :=
  let (_, others) := s.splitPages p e.stream e.position e.tokens
  (others.foldl
    (fun (a : Pass) k => if (a.st.page p).stepPins.contains (e.stream, k) then a else a.other p k (pinStep p e.stream k))
    { st := s }).st

/-- Some ledger entry of a list is still being written back (05 R240). -/
def State.savingPages (s : State) (p : Nat) (pages : List Nat) : Bool :=
  pages.any (fun k => s.writing (.ledger p k))

/-- Release sections in ascending number: pages pinned, entries written back, one decrement to the launch task (05 R226). -/
def releaseSections (p : Nat) : Nat → Nat → State → State
  | 0, _, s => s
  | k + 1, j, s =>
    match (s.serve p).sections[j]? with
    | none => s
    | some x =>
      if x.resident || x.fin.isSome then releaseSections p k (j + 1) s
      else
        let es := (s.serve p).entries.filter (fun e => e.ctx == x.ctx)
        let ok := es.all (fun e => (s.pagesOf p e.stream).all (fun i =>
          (s.page p).stepPins.contains (e.stream, i) || (s.page p).failed.contains i))
        if !ok then s
        else
          let pages := dedup (es.flatMap (fun e => s.pagesOf p e.stream))
          let s := (pages.filter ((s.page p).dirty.contains ·)).foldl (fun s i => savePage p i s) s
          if s.savingPages p pages then s
          else
            let poison := x.poisoned || pages.any ((s.page p).failed.contains ·)
            let s := modServe p (fun v => { v with sections := setAt v.sections j { x with resident := true } }) s
            releaseSections p k (j + 1) (later (.decrement x.slot (s.slot x.slot).gen poison p x.ctx 0) s)

/-- One outside-step request (05 R228). -/
def placeOutside (p : Nat) (o : Outside) (a : Pass) : Pass :=
  let x := a.st.stream p o.stream
  let l := a.st.launch o.launch
  if o.done then a
  else if x.pageCount == 0 && !o.active then
    let st := modPages p (fun v =>
      { v with outside := v.outside.map (fun q => if q.launch == o.launch then { q with done := true } else q) }) a.st
    { a with st := laters (l.pageWait.map (fun i => Job.decrement i (st.slot i).gen false p l.ctx 0)) st }
  else if !o.active && 16 ≤ ((a.st.page p).outside.filter (·.active)).length then a
  else
    let set (f : Outside → Outside) (s : State) : State :=
      modPages p (fun v => { v with outside := v.outside.map (fun q => if q.launch == o.launch then f q else q) }) s
    let held (s : State) (k : Nat) : Bool :=
      ((s.page p).outside.find? (fun q => q.launch == o.launch)).any (fun q => q.pins.contains k || q.failed.contains k)
    let a := { a with st := set (fun q => { q with active := true }) a.st, unframed := 0 }
    let (need, others) := a.st.splitPages p o.stream x.position 1
    let a := need.foldl (fun a k => if held a.st k then a else a.need p (a.st.moveCtx p o.stream l.ctx) k (pinOutside p o.launch k)) a
    let a :=
      if a.unframed == 0 then
        others.foldl (fun a k => if held a.st k then a else a.other p k (pinOutside p o.launch k)) a
      else a
    let pages := need ++ others
    if pages.all (held a.st) then
      let st := (pages.filter ((a.st.page p).dirty.contains ·)).foldl (fun s i => savePage p i s) a.st
      if st.savingPages p pages then { a with st := st }
      else
        let poison := o.poisoned
        { a with
          st := set (fun q => { q with done := true }) st
            |> laters (l.pageWait.map (fun i => Job.decrement i (st.slot i).gen poison p l.ctx 0)) }
    else a

/-- Warm requests, in the order queued (05 R235). One of a stream whose context is being parted or is parted starts no task
and is passed over (08 R363). -/
def placeWarm (p : Nat) : List (Nat × Option (List Nat)) → Pass → Pass
  | [], a => a
  | (i, left) :: rest, a =>
    let x := a.st.stream p i
    let pop (s : State) : State := modPages p (fun v => { v with warm := v.warm.erase (i, left) }) s
    if x.state == 0 || x.inStep then placeWarm p rest { a with st := pop a.st }
    else if a.st.gone p x.context then placeWarm p rest a
    else
      let pages := left.getD (a.st.splitPages p i x.position 1).1
      let step (acc : Pass × List Nat) (k : Nat) : Pass × List Nat :=
        let (a, keep) := acc
        let e := a.st.entry p k
        if a.asked.contains k then (a, keep ++ [k])
        else if e.state == 1 && e.tier != 0 then
          match a.frame p k e.format x.context with
          | (some addr, a) =>
            match startMove p k x.context 0 addr 2 0 a.st with
            | some st => ({ a with st := st }, keep)
            | none => ({ a with blocked := true }, keep ++ [k])
          | (none, a) => (a, keep ++ [k])
        else if e.state == 3 then (a, keep ++ [k])
        else (a, keep)
      let (a, keep) := pages.foldl step (a, [])
      if keep.isEmpty then placeWarm p rest { a with st := pop a.st }
      else { a with st := modPages p (fun v => { v with warm := v.warm.replace (i, left) (i, some keep) }) a.st }

/-- Bring the placements of a partition on: outside-step requests made before the step, the step's entries in block
order, later outside-step requests, and warm requests behind all of them (05 R224 to R228, R235). -/
def placeWork (p : Nat) (s : State) : State :=
  let v := s.page p
  let streams := (s.placing p).map (·.stream) ++ (v.outside.filter (fun o => !o.done)).map (·.stream) ++ v.warm.map (·.1)
  match fillFor p 3 streams (s.pagesOfAll p streams) s with
  | some s => s
  | none =>
    let early := v.outside.filter (fun o => o.early && !o.done)
    let rest := v.outside.filter (fun o => !o.early && !o.done)
    let a : Pass := { st := s }
    let a := early.foldl (fun a o => placeOutside p o a) a
    let es := a.st.placing p
    let a := es.foldl (fun a e => placeEntry p e a) { a with unframed := 0 }
    let a := if a.unframed == 0 then { a with st := es.foldl (fun s e => placeOthers p e s) a.st } else a
    let a := { a with st := releaseSections p ((a.st.serve p).sections.length) 0 a.st }
    let a := rest.foldl (fun a o => placeOutside p o a) a
    let a := if a.blocked then a else placeWarm p (a.st.page p).warm a
    trimStreams a.st

/-! ### Final statuses of moves (05 R233, R234, R241) -/

/-- A failed inbound move for a placement: the sections and outside-step requests that wait for the page are poisoned. -/
def failPage (p k : Nat) (s : State) : State :=
  let inStep := (s.placing p).any (fun e => (s.pagesOf p e.stream).contains k)
  modPages p (fun v =>
    { v with
      failed := if inStep then v.failed ++ [k] else v.failed
      outside := v.outside.map (fun o =>
        if o.active && !o.done && (s.pagesOf p o.stream).contains k then
          { o with failed := o.failed ++ [k], poisoned := true }
        else o) }) s

/-- A move's final status is applied (05 R233, R234). -/
def moveComplete (p k : Nat) (m : Move) (status : Nat) (poison : Bool) (s : State) : State :=
  let ok := status == stOk && !poison
  let e := s.entry p k
  let s := modPages p (fun v => { v with moves := Tbl.del v.moves k }) s
  let back (s : State) : State :=
    updPage p k (fun e => { e with state := 1, tier := m.srcTier, location := m.src, wanted := false }) s
  let s :=
    if ok then
      if m.why == 1 then
        if e.wanted then back s
        else
          s |> updPage p k (fun e => { e with state := 1, tier := m.dstTier, location := m.dst })
            |> modPages p (fun v => { v with outs := wrapAdd v.outs 1 64, spared := [] })
      else
        s |> updPage p k (fun e => { e with state := 1, tier := m.dstTier, location := m.dst })
          |> modPages p (fun v => { v with ins := wrapAdd v.ins 1 64 })
    else
      let s := s |> back |> raise fltPageMove srcLedger p m.ctx 1 k
      if m.why == 0 then failPage p k s
      else if m.why == 1 then modPages p (fun v => { v with spared := v.spared ++ [k] }) s
      else s
  let s :=
    if e.refcount == 0 then
      s |> updPage p k (fun _ => {}) |> modPages p (fun v => { v with freed := wrapAdd v.freed 1 64 })
    else s
  later (.place p) s

/-- The move task of a page has its final status (05 R231). -/
def moveFinal (p k status : Nat) (poison : Bool) (s : State) : State :=
  modPages p (fun v =>
    { v with moves := Tbl.each v.moves (fun i m => if i == k then { m with fin := some (status, poison) } else m) }) s

/-! ### Outside-step requests (05 R228, R237) -/

/-- A launch with page-wait tasks and stream_valid 1 asks for the pages of its stream (05 R228). -/
def askOutside (id : Nat) (s : State) : State :=
  let l := s.launch id
  s |> wakeUp swServe |> modPages l.part (fun v => { v with outside := v.outside ++ [{ launch := id, stream := recStream l.record }] })
    |> later (.place l.part)

/-- The launch has completed: its pin is dropped, and a stream whose release waited for it is released (05 R228, R237). -/
def dropOutside (p id : Nat) (s : State) : State :=
  match (s.page p).outside.find? (fun o => o.launch == id) with
  | none => s
  | some o =>
    let s := modPages p (fun v => { v with outside := v.outside.filter (fun q => q.launch != id) }) s
    let s := o.pins.foldl (fun s k => unpinPage p k s) s
    let s :=
      if (s.stream p o.stream).releasing && !(s.page p).outside.any (fun q => q.active && q.stream == o.stream) then
        releaseStream p o.stream s
      else s
    later (.place p) s

/-- Queue a warm request (05 R235). -/
def queueWarm (p i : Nat) (s : State) : State :=
  s |> modPages p (fun v => { v with warm := v.warm ++ [(i, none)] }) |> later (.place p)

end Sys2Proof.Machine
end

