-- ==== Sys2Proof/Machine/Sha.lean ====
section
/-!
DEFINITION. SHA-256 (04 R204; 11 R444, R445) as FIPS 180-4 gives it, and the CRC-32 of 11 R444, over byte strings.
-/
namespace Sys2Proof.Machine

/-- A 32-bit word of SHA-256. -/
abbrev W32 := BitVec 32

/-- The primes below `n`, rising: each number that no smaller prime divides. -/
def primesBelow (n : Nat) : List Nat :=
  (List.range n).foldl (fun ps q => if q < 2 || ps.any (fun p => q % p == 0) then ps else ps ++ [q]) []

/-- The largest number of at most `bits` bits whose `e`-th power does not pass `x`, found from its top bit down. -/
def rootOf (e x : Nat) : Nat → Nat → Nat
  | 0, r => r
  | bits + 1, r => rootOf e x bits (if (r + 2 ^ bits) ^ e ≤ x then r + 2 ^ bits else r)

/-- The first 32 bits of the fraction of the `e`-th root of `p` (of a prime below 312: the whole part has 5 bits at most). -/
def rootFraction (e p : Nat) : W32 := BitVec.ofNat 32 (rootOf e (p * 2 ^ (32 * e)) 37 0)

/-- The constants of the 64 rounds: from the cube roots of the first 64 primes. -/
def roundConstants : List W32 := (primesBelow 312).map (rootFraction 3)

/-- The exclusive or of a word's rotations right by each of `ns`. -/
def spin (ns : List Nat) (x : W32) : W32 := ns.foldl (fun acc n => acc ^^^ x.rotateRight n) 0

/-- The 64 words of a block's message schedule, newest first, from its sixteen (newest first). -/
def schedule : Nat → List W32 → List W32
  | 0, ws => ws
  | n + 1, ws =>
    let old (k : Nat) := ws.getD (k - 1) 0
    schedule n ((old 16 + old 7 + (spin [7, 18] (old 15) ^^^ old 15 >>> 3) + (spin [17, 19] (old 2) ^^^ old 2 >>> 10)) :: ws)

/-- SHA-256's eight working variables, as two histories of four, newest first: `a b c d` and `e f g h`. -/
structure Hash where
  upper : List W32
  lower : List W32

/-- The initial hash value: from the square roots of the first 8 primes. -/
def Hash.initial : Hash := ⟨(primesBelow 8).map (rootFraction 2), ((primesBelow 20).drop 4).map (rootFraction 2)⟩

/-- One round: a new word enters each history, and the oldest of the upper one moves into the lower one's. -/
def Hash.round (h : Hash) (kw : W32 × W32) : Hash :=
  match h with
  | ⟨[u0, u1, u2, u3], [l0, l1, l2, l3]⟩ =>
    let chosen := l2 ^^^ (l0 &&& (l1 ^^^ l2))
    let majority := (u0 &&& u1) ||| (u2 &&& (u0 ||| u1))
    let t := l3 + kw.1 + kw.2 + chosen + spin [6, 11, 25] l0
    ⟨[t + majority + spin [2, 13, 22] u0, u0, u1, u2], [u3 + t, l0, l1, l2]⟩
  | _ => h

/-- One block of sixteen words. -/
def Hash.block (h : Hash) (words : List W32) : Hash :=
  let g := (roundConstants.zip (schedule 48 words.reverse).reverse).foldl Hash.round h
  ⟨List.zipWith (· + ·) h.upper g.upper, List.zipWith (· + ·) h.lower g.lower⟩

/-- Word `i` of a padded message: four bytes, the first the most significant. -/
def beWord (bits i : Nat) : W32 :=
  BitVec.ofNat 32
    (fld bits (32 * i) 8 * 2 ^ 24 + fld bits (32 * i + 8) 8 * 2 ^ 16 + fld bits (32 * i + 16) 8 * 2 ^ 8 + fld bits (32 * i + 24) 8)

/-- The length of a message in bits, as eight bytes, the most significant first. -/
def beLength (n : Nat) : Nat := (List.range 8).foldl (fun acc k => acc + fld n (56 - 8 * k) 8 * 2 ^ (8 * k)) 0

/-- SHA-256 of a byte string, as 32 bytes: byte 0 in the low bits. -/
def sha256 (b : Blob) : Nat :=
  let blocks := (b.len + 9 + 63) / 64
  let padded := b.bits % 2 ^ (8 * b.len) + 0x80 * 2 ^ (8 * b.len) + beLength (8 * b.len) * 2 ^ (8 * (64 * blocks - 8))
  let h := (List.range blocks).foldl
    (fun h k =>
      let block := fld padded (512 * k) 512
      h.block ((List.range 16).map (beWord block))) Hash.initial
  (List.range 8).foldl
    (fun acc i => acc + (List.range 4).foldl
      (fun a j => a + fld ((h.upper ++ h.lower).getD i 0).toNat (24 - 8 * j) 8 * 2 ^ (8 * (4 * i + j))) 0) 0

/-- Two byte strings, one behind the other. -/
def blobCat (a b : Blob) : Blob := ⟨a.len + b.len, a.bits % 2 ^ (8 * a.len) + b.bits % 2 ^ (8 * b.len) * 2 ^ (8 * a.len)⟩

/-- One byte of the CRC-32 with the IEEE 802.3 polynomial, bit-reversed as that standard sends it. -/
def crcByte : Nat → W32 → W32
  | 0, c => c
  | n + 1, c => crcByte n (if c.getLsbD 0 then (c >>> 1) ^^^ 0xEDB88320#32 else c >>> 1)

/-- CRC-32 over `n` bytes (11 R466). -/
def crc32 (bits n : Nat) : Nat :=
  (~~~ ((List.range n).foldl (fun c i => crcByte 8 (c ^^^ BitVec.ofNat 32 (fld bits (8 * i) 8))) 0xFFFFFFFF#32)).toNat

end Sys2Proof.Machine
end

