-- ==== Sys2Proof/Machine/ServeUnit.lean ====
section
/-!
DEFINITION. The serving loop (04 R169 to R205; 07 R315 to R317, R323): intake frames and records, step formation,
the step block, completion, the deadline monitor, digests and STEP_DONE.
-/
namespace Sys2Proof.Machine

/-- The step clock (04 R197). -/
def State.stepClock (s : State) (p : Nat) : Nat :=
  if s.detOf p then (s.serve p).modelClock % 2 ^ 32 else s.us % 2 ^ 32

/-- The step clock at the start of the formation that is in progress, or that starts now (04 R198). -/
def State.formClock (s : State) (p : Nat) : Nat :=
  match (s.serve p).forming with
  | some f => f.clock
  | none => s.stepClock p

/-- The compute budget of the formation that is in progress, or that starts now (13 R536). -/
def State.formBudget (s : State) (p : Nat) : Nat :=
  match (s.serve p).forming with
  | some f => f.budget
  | none => s.budgetC p

/-! ### The intake buffer (07 R315 to R317, R323) -/

/-- A frame header that discards its frame (07 R316): `n` beats follow it. -/
def State.badFrame (s : State) (header : Option (BitVec 256)) (n : Nat) : Bool :=
  match header with
  | none => true
  | some h =>
    let w := h.toNat
    let p := fld w 8 6
    let below := s.isRoot && s.partConfigured p && !s.isHome p
    fld w 0 8 != 1 || fld w 14 18 != 0 || fld w 48 208 != 0 || fld w 32 16 == 0 || decide (1024 < fld w 32 16)
      || n != 2 * fld w 32 16 || !(s.isHome p || below)

/-- The records of a frame: two beats each. -/
def frameRecords : List (BitVec 256) → List (BitVec 512)
  | a :: b :: rest => BitVec.ofNat 512 (a.toNat + b.toNat * 2 ^ 256) :: frameRecords rest
  | _ => []

/-- Room in the intake receive buffer (07 R317). -/
def State.intakeRoom (s : State) : Nat := 1024 - s.queues.intake.length

/-- One record enters the buffer of its home. -/
def receiveRecord (p : Nat) (r : BitVec 512) (port : Option Nat) (s : State) : State :=
  { s with queues := { s.queues with intake := s.queues.intake ++ [(p, r, port)] } }
    |> modHostq p (fun h => { h with received := fld r.toNat 0 32 })

/-- A complete frame with room for its records, or one that is discarded (07 R316, R317; 04 R163). -/
def takeFrame (header : Option (BitVec 256)) (beats : List (BitVec 256)) (s : State) : State :=
  if s.badFrame header beats.length then
    { s with queues := { s.queues with frameDrops := wrapAdd s.queues.frameDrops 1 64 } }
      |> raiseNone fltIntakeFrame srcBatch 0
  else
    let p := fld ((header.getD 0).toNat) 8 6
    (frameRecords beats).foldl
      (fun s r =>
        if s.isHome p then receiveRecord p r none s
        else
          sendTo (s.homeCode p)
            { cls := 0, pool := p, kind := 0x04
              content := BitVec.ofNat 512 (r.toNat - put (fld r.toNat 42 6) 42 6 + put p 42 6) } s) s

/-- The room that the port waits for before it takes a frame (07 R317; 12 R497): that of the records that its header declares,
whether or not the frame will be discarded. For beats without a header, or a header that declares no number of records that the
buffer could hold, the buffer only must not be full. -/
def frameNeeds (header : Option (BitVec 256)) : Nat :=
  match header with
  | none => 1
  | some h => if 1 ≤ fld h.toNat 32 16 && fld h.toNat 32 16 ≤ 1024 then fld h.toNat 32 16 else 1

/-- How far a record's sequence number lies ahead of the expected one, duplicates first (04 R171). -/
def State.intakeAhead (s : State) (p : Nat) (r : BitVec 512) : Nat :=
  sub32 (sub32 (fld r.toNat 0 32) (s.serve p).expected) 0x80000000

/-- The record of a partition that is taken next, as its index in the buffer: the oldest; with DET=1 the first in sequence order
of those up to SERVE_FENCE.seq (04 R172, R196). -/
def State.nextRecord (s : State) (p : Nat) : Option Nat :=
  let mine := s.queues.intake.zipIdx.filter (fun e => e.1.1 == p)
  if s.detOf p then
    (leastBy (fun a b => decide (s.intakeAhead p a.1.2.1 < s.intakeAhead p b.1.2.1))
      (mine.filter (fun e => decide (sub32 (s.serve p).fenceSeq (fld e.1.2.1.toNat 0 32) < 0x80000000)))).map (·.2)
  else mine.head?.map (·.2)

/-- That record. -/
def State.headRecord (s : State) (p : Nat) : Option (BitVec 512 × Option Nat) :=
  (s.nextRecord p).bind (fun i => s.queues.intake[i]?.map (·.2))

/-- Take it out of the buffer; the credit of a forwarded one returns (08 R356). -/
def popRecord (p : Nat) (s : State) : State :=
  match s.nextRecord p with
  | none => s
  | some i =>
    let port := (s.queues.intake[i]?.map (·.2.2)).getD none
    let s := { s with queues := { s.queues with intake := s.queues.intake.eraseIdx i } }
    match port with
    | some x => creditBack x (creditKey p 0 false) 1 s
    | none => s

/-! ### Intake records (04 R169 to R174) -/

/-- The bits of a type that R169 and R170 reserve are not zero. A field that is 'otherwise 0' is not reserved: prov or digest_valid
in another type, or an input_digest without digest_valid, is accepted and means nothing (DESIGN CHOICE, log entry 99). -/
def reservedIntake (w : Nat) : Bool :=
  let common := fld w 42 22 != 0 || fld w 84 12 != 0
  common ||
    match fld w 32 8 with
    | 1 => fld w 116 12 != 0
    | 2 => fld w 96 32 != 0 || fld w 176 80 != 0
    | 5 => fld w 120 136 != 0
    | _ => fld w 96 160 != 0

/-- The first failing check of R173: its reason code, or none. -/
def State.checkIntake (s : State) (p w : Nat) : Option Nat :=
  let type := fld w 32 8
  let i := fld w 64 20
  let x := s.stream p i
  let c := fld w 96 5
  let fb := fld w 101 5
  let isNew := type == 1
  let tokens := fld w 128 24
  let ctx := if isNew then c else x.context
  let f := s.ctxFormat p ctx
  let k := fld w 236 20
  let prefixed := isNew && bit w 115
  let pos := if isNew then (if prefixed then k * s.pageSize p f else 0) else x.position
  let pend := if isNew then 0 else x.pending
  let log := if isNew then fld w 110 5 else x.ringLog2
  let ps := fld w 216 20
  if type == 0 || 5 < type || reservedIntake w then some 1
  else if i < s.streamBase p || s.streamBase p + s.streamCount p ≤ i then some 2
  else if isNew && x.state != 0 then some 3
  else if !isNew && x.state == 0 then some 4
  else if isNew && !(s.servingCtx p c && s.servingCtx p fb) then some 5
  else if (isNew && (log < 10 || 24 < log)) || (type ≤ 2 && decide (2 ^ log < pend + tokens)) then some 6
  else if type ≤ 2 && s.tokenLimit p f < pos + pend + tokens then some 7
  else if type == 2 && x.state == 2 then some 8
  else if type == 2 && x.closing then some 9
  else if prefixed &&
      ((s.stream p ps).state == 0 || ps < s.streamBase p || s.streamBase p + s.streamCount p ≤ ps
        || s.streamFormat p ps != f || k == 0 || decide ((s.stream p ps).position < k * s.pageSize p f)
        || ((s.pagesOf p ps).take k).any (fun e => decide (255 ≤ (s.entry p e).refcount))) then some 10
  else none

/-- A rejected record is reported (04 R173, R176). -/
def rejectIntake (p w reason : Nat) (s : State) : State :=
  s |> modServe p (fun v => { v with intakeReject := wrapAdd v.intakeReject 1 64 })
    |> sendEvent 16 p 0 (put (fld w 0 32) 64 32 + put (fld w 32 8) 96 8 + put reason 104 8 + put (fld w 64 20) 112 20)

/-- A NEW_STREAM record is accepted (04 R174, 05 R219, R235). -/
def newStream (p i w : Nat) (s : State) : State :=
  let c := fld w 96 5
  let fb := fld w 101 5
  let k := fld w 236 20
  let pre := bit w 115
  let shared := if pre then (s.pagesOf p (fld w 216 20)).take k else []
  let x : Stream :=
    { state := if s.gone p c || s.gone p fb then 4 else 3
      context := c, fallback := fb, prio := fld w 106 4, prov := bit w 40
      position := if pre then k * s.pageSize p (s.ctxFormat p c) else 0
      pending := fld w 128 24, genLeft := fld w 152 24
      pageHead := shared.getLast?.getD 0, pageCount := shared.length
      lastDone := s.stepClock p, fresh := true
      tokenRing := fld w 176 40, ringLog2 := fld w 110 5, intakeSeq := fld w 0 32
      digest := 0, input := if bit w 41 then fld w 256 256 else 0 }
  let s := shared.foldl (fun s e => setRefcount p e ((s.entry p e).refcount + 1) s) s
  let s := s |> updStream p i (fun _ => x) |> saveProvenance p i |> settleStream p i
  if pre then queueWarm p i s else s

/-- An accepted record acts on its stream (04 R174). -/
def acceptIntake (p i w : Nat) (s : State) : State :=
  let seq := fld w 0 32
  match fld w 32 8 with
  | 1 => newStream p i w s
  | 2 =>
    s |> updStream p i (fun x =>
        { x with
          pending := x.pending + fld w 128 24, genLeft := fld w 152 24, intakeSeq := seq
          input := if bit w 41 then fld w 256 256 else 0 })
      |> saveProvenance p i |> settleStream p i |> queueWarm p i
  | 3 =>
    let s := updStream p i (fun x => { x with closing := true, endSeq := seq, intakeSeq := seq }) s
    let x := s.stream p i
    if (x.state == 3 || x.state == 4) && !x.inStep then releaseStream p i s else s
  | 4 =>
    let s := updStream p i (fun x => { x with cancelled := true, endSeq := seq, intakeSeq := seq }) s
    if (s.stream p i).inStep then requeue p i s else releaseStream p i s
  | _ => updStream p i (fun x => { x with deadline := fld w 96 24, intakeSeq := seq }) s

/-- A record counts as consumed, and as applied unless it was rejected (04 R171, R208). -/
def countRecord (p seq : Nat) (applied : Bool) (s : State) : State :=
  s |> modServe p (fun v =>
      { v with
        expected := wrapAdd seq 1 32
        intakeApplied := if applied then wrapAdd v.intakeApplied 1 64 else v.intakeApplied })
    |> modHostq p (fun h => { h with consumed := seq })

/-- Consume a record that is due or reveals a gap (04 R171, R173). With write-through on it counts when its updates have been
accepted (13 R541). -/
def consumeRecord (p w : Nat) (s : State) : State :=
  let seq := fld w 0 32
  let bad := s.checkIntake p w
  let s :=
    if s.power.writeThrough then modServe p (fun v => { v with applying := some (seq, bad.isNone) }) s
    else countRecord p seq bad.isNone s
  match bad with
  | some r => rejectIntake p w r s
  | none => acceptIntake p (fld w 64 20) w s

/-- Apply the next buffered record of a partition (04 R171, R172, R196); it waits when a cache lacks what it needs. -/
def applyRecord (p : Nat) (s : State) : State :=
  match s.headRecord p with
  | none => s
  | some (r, _) =>
    let w := r.toNat
    let seq := fld w 0 32
    let i := fld w 64 20
    let ps := if fld w 32 8 == 1 && bit w 115 then [fld w 216 20] else []
    match fillFor p 0 (i :: ps) (s.pagesOfAll p (i :: ps)) s with
    | some s => s
    | none =>
      let e := (s.serve p).expected
      let s := popRecord p s
      let d := sub32 e seq
      trimStreams (
        if seq == e then consumeRecord p w s
        else if 1 ≤ d && d ≤ 0x80000000 then modServe p (fun v => { v with intakeDup := wrapAdd v.intakeDup 1 64 }) s
        else
          s |> raise fltIntakeGap srcBatch p 0 2 0
            |> sendEvent 17 p 0 (put e 64 32 + put seq 96 32)
            |> consumeRecord p w)

/-- Every section's launch task has retired (04 R178 step 1). -/
def State.stepOver (s : State) (p : Nat) : Bool :=
  (s.serve p).running && (s.serve p).sections.all (fun x => x.fin.isSome)

/-- The serving loop is past step 3 of R178: the completion ring does not hold it (07 R321). -/
def State.pastStep3 (s : State) (p : Nat) : Bool := (s.serve p).intakeOpen || !(s.hostq p).cplFull

/-- A fence names the step that is to form next (04 R196). -/
def State.fenced (s : State) (p : Nat) : Bool :=
  (s.serve p).fenceWritten && (s.serve p).fenceStep == (s.serve p).next

/-- Every record up to SERVE_FENCE.seq has arrived: those between the expected one and it are in the buffer (04 R196). -/
def State.fenceArrived (s : State) (p : Nat) : Bool :=
  let v := s.serve p
  let due := sub32 v.fenceSeq v.expected
  decide (0x80000000 ≤ due) ||
    decide (due < (dedup ((s.queues.intake.filter (fun e => e.1 == p)).map (fun e => sub32 (fld e.2.1.toNat 0 32) v.expected) |>.filter
      (fun d => decide (d ≤ due)))).length)

/-- SERVE_STATUS.fence_wait: the batch former has come to R196, and waits under it still (04 R196, R209). -/
def State.waitsFence (s : State) (p : Nat) : Bool := (s.serve p).fenceWait && !(s.fenced p && s.fenceArrived p)

/-- The partition's next record may be applied, as far as the partition's own work goes (04 R172, R196; 11 R460; 13 R540 step 6):
not while a step is formed, or while the updates of the record before are being written (13 R541). Under DET=1 the boundary comes first (10 R410), and a record that reveals a gap waits for the missing
one (log entry 97). -/
def State.intakeFree (s : State) (p : Nat) : Bool :=
  let v := s.serve p
  (s.nextRecord p).isSome && s.started p && !s.draining p && v.misses.isEmpty && v.forming.isNone && v.applying.isNone && s.pastStep3 p && !s.stepOver p &&
    (!s.detOf p ||
      (!v.running && s.fenced p && !(s.det p).asked && (s.det p).acks.isEmpty &&
        ((s.headRecord p).map (fun r => decide (s.intakeAhead p r.1 ≤ 0x80000000))).getD false))

/-- It may be applied now: records leave the buffer in arrival order (07 R317), so that no older record of another partition may
be one that is free to go (log entry 97). -/
def State.intakeMay (s : State) (p : Nat) : Bool :=
  s.intakeFree p &&
    (s.queues.intake.take ((s.nextRecord p).getD 0)).all (fun e => e.1 == p || !s.intakeFree e.1)

/-! ### The cost model and admission (04 R179 to R184) -/

/-- The bank of the cost tables that the formation reads: the one that was active when it started (11 R469, R470). -/
def State.formBank (s : State) (p : Nat) : Nat :=
  match (s.serve p).forming with
  | some f => f.bank
  | none => s.activeBank (tableOf tyCost)

/-- Coefficient `k` of a context's serving entry: sec_c, sec_m, dec_c, dec_m, ctx_c, ctx_m, tok_c, tok_m. -/
def State.coef (s : State) (p c k : Nat) : Nat :=
  match s.bankRec (s.formBank p) tyCost p c with
  | some r => r.u (32 + 8 * k) 8
  | none => 0

/-- The context that a stream runs on. -/
def Stream.runCtx (x : Stream) : Nat := if x.onFallback then x.fallback else x.context

/-- Compute and memory cost of a decode entry, or of a chunk of `n` tokens (04 R179). -/
def State.itemCost (s : State) (p c pos : Nat) (chunk : Option Nat) : Nat × Nat :=
  match chunk with
  | none =>
    (s.coef p c 2 + ceilDiv (s.coef p c 4 * (pos + 1)) 1024, s.coef p c 3 + ceilDiv (s.coef p c 5 * (pos + 1)) 1024)
  | some n =>
    (s.coef p c 6 * n + ceilDiv (s.coef p c 4 * (n * pos + n * (n + 1) / 2)) 1024,
      s.coef p c 7 * n + ceilDiv (s.coef p c 5 * (pos + n)) 1024)

/-- Admission so far. -/
structure Adm where
  entries : List Entry := []
  c       : Nat := 0
  m       : Nat := 0
  chunks  : Nat := 0
  isOver  : Bool := false
  stop    : Bool := false

/-- The cost of a candidate, with the section cost when its context is new (04 R179). -/
def State.candCost (s : State) (p : Nat) (a : Adm) (c pos : Nat) (chunk : Option Nat) : Nat × Nat :=
  let (x, y) := s.itemCost p c pos chunk
  if a.entries.any (fun e => e.ctx == c) then (x, y) else (x + s.coef p c 0, y + s.coef p c 1)

/-- The candidate fits the budgets (04 R182, R183). -/
def State.fits (s : State) (p : Nat) (a : Adm) (k : Nat × Nat) : Bool :=
  decide (a.c + k.1 ≤ s.formBudget p) && decide (a.m + k.2 ≤ s.budgetM p)

/-- Admit an entry. -/
def Adm.take (a : Adm) (e : Entry) (k : Nat × Nat) : Adm :=
  { a with entries := a.entries ++ [e], c := a.c + k.1, m := a.m + k.2, chunks := a.chunks + flag e.chunk }

/-- Decode admission (04 R182, R184). -/
def admitDecode (s : State) (p : Nat) : List Nat → Adm → Adm
  | [], a => a
  | i :: rest, a =>
    if s.maxAdmit p ≤ a.entries.length then a
    else
      let x := s.stream p i
      let c := x.runCtx
      let k := s.candCost p a c x.position none
      let e : Entry := { stream := i, fallback := x.onFallback, ctx := c, position := x.position, tokens := 1 }
      if s.fits p a k then admitDecode s p rest (a.take e k)
      else if a.entries.isEmpty then { a.take e k with isOver := true, stop := true }
      else a

/-- The allowed chunk sizes of a stream, largest first (04 R183). -/
def chunkSizes (pending : Nat) : List Nat :=
  let muls := ((List.range 128).map (fun j => 64 * (j + 1))).filter (fun n => decide (n ≤ min 8192 pending))
  let all := if pending ≤ 8192 && !muls.contains pending then muls ++ [pending] else muls
  all.reverse

/-- Prompt admission (04 R183, R184). -/
def admitPrompt (s : State) (p : Nat) : List Nat → Adm → Adm
  | [], a => a
  | i :: rest, a =>
    if a.stop || s.maxAdmit p ≤ a.entries.length || s.chunksMax p ≤ a.chunks then a
    else
      let x := s.stream p i
      let c := x.runCtx
      let sizes := chunkSizes x.pending
      let entry (n : Nat) : Entry :=
        { stream := i, chunk := true, last := n == x.pending, fallback := x.onFallback, ctx := c
          position := x.position, tokens := n }
      match sizes.find? (fun n => s.fits p a (s.candCost p a c x.position (some n))) with
      | some n => admitPrompt s p rest (a.take (entry n) (s.candCost p a c x.position (some n)))
      | none =>
        if a.entries.isEmpty then
          let n := sizes.getLast?.getD 0
          { a.take (entry n) (s.candCost p a c x.position (some n)) with isOver := true, stop := true }
        else a

/-- Candidates in queue order: prio 15 down to 0, head to tail (04 R181). -/
def State.queued (s : State) (p : Nat) : List Nat :=
  (List.range 16).flatMap (fun k => Tbl.at (s.serve p).queues (15 - k) [])

/-- Admission of a step (04 R181 to R184). -/
def State.admission (s : State) (p : Nat) : Adm :=
  let q := s.queued p
  let a := admitDecode s p (q.filter (fun i => (s.stream p i).state == 2)) {}
  if a.stop then a else admitPrompt s p (q.filter (fun i => (s.stream p i).state == 1)) a

/-- D_model (04 R186). -/
def State.modelUs (s : State) (p : Nat) (a : Adm) : Nat :=
  max (ceilDiv (s.periodUs p * a.c) (s.formBudget p)) (ceilDiv (s.periodUs p * a.m) (s.budgetM p))

/-- D_model of the step that is formed; against a budget of 0 it has no stated value (log entry 58). -/
def formedUs (p : Nat) (a : Adm) (s : State) : Nat × State :=
  if s.formBudget p == 0 || s.budgetM p == 0 then takeFree 24 s else (s.modelUs p a, s)

/-! ### Formation (04 R178 step 6 and 7, R186 to R200) -/

/-- Entries in block order: by section in ascending context, decode entries first (04 R189). -/
def blockOrder (es : List Entry) : List Entry :=
  sortBy (fun a b => decide (a.ctx < b.ctx) || (a.ctx == b.ctx && (!a.chunk || b.chunk))) es

/-- Size and address of the step blocks (04 R188). -/
def State.blockSize (s : State) (p : Nat) : Nat := ceilDiv (0x2840 + 64 * s.maxAdmit p) 4096 * 4096
def State.blockAddr (s : State) (p k : Nat) : Nat := s.blockBase p + k * s.blockSize p

/-- Bits 191:0 of an entry (04 R190). -/
def State.entryBits (s : State) (p : Nat) (e : Entry) : Nat :=
  let x := s.stream p e.stream
  put e.stream 0 20 + put (flag e.chunk) 20 1 + put (flag e.last) 21 1 + put (flag e.fallback) 22 1
    + put e.position 32 25 + put e.tokens 64 24 + put e.pageHead 96 24 + put x.tokenRing 128 40 + put x.ringLog2 168 5

/-- The header of section `i` (04 R191): sixteen words of 32 bits. -/
def State.sectionHeader (s : State) (p k : Nat) (es : List Entry) (c step : Nat) : Nat :=
  let mine := es.filter (fun e => e.ctx == c)
  let first := (es.findIdx? (fun e => e.ctx == c)).getD 0
  let addr := s.blockAddr p k + 0x2840 + 32 * first
  let tokens := (mine.map (·.tokens)).foldl (· + ·) 0
  put mine.length 0 32 + put (mine.filter (fun e => !e.chunk)).length 32 32 + put (mine.filter (·.chunk)).length 64 32
    + put tokens 96 32 + put first 128 32 + put step 160 32 + put (fld addr 0 32) 192 32 + put (fld addr 32 20) 224 32

/-- The launch record of section `i` (04 R192, 03 R125). -/
def State.sectionRecord (s : State) (p k i c : Nat) : Nat :=
  let (jig, cmd) :=
    match s.bankRec (s.formBank p) tyCost p c with
    | some r => (r.u 16 2, fld (r.u 24 8) 0 52)
    | none => (0, 0)
  put jig 0 13 + put 0xFFFF 16 16 + put (i * 2 ^ 27) 32 32 + put (s.blockAddr p k + 0x2040 + 64 * i) 64 52 + put cmd 128 52

/-- Write the step block (04 R188 to R192). -/
def writeBlock (p k step : Nat) (es : List Entry) (ctxs : List Nat) (s : State) : State :=
  let base := s.blockAddr p k
  let s := issueWrite (.stepBlock p) (base + 0x2000)
    ⟨64, put step 0 32 + put es.length 32 32 + put ctxs.length 64 32⟩ p 0 false s
  let s := (List.range ctxs.length).foldl
    (fun s i =>
      let c := ctxs.getD i 0
      s |> issueWrite (.stepBlock p) (base + 256 * i) ⟨32, s.sectionRecord p k i c⟩ p c false
        |> issueWrite (.stepBlock p) (base + 0x2040 + 64 * i) ⟨64, s.sectionHeader p k es c step⟩ p c false) s
  (List.range es.length).foldl
    (fun s i =>
      let e := es.getD i {}
      issueWrite (.stepBlock p) (base + 0x2840 + 32 * i) ⟨24, s.entryBits p e⟩ p e.ctx false s) s

/-- Allocate the pages that an entry's tokens need (05 R220, R238). -/
def allocEntry (p : Nat) (e : Entry) (s : State) : State :=
  let z := s.pageSize p (s.streamFormat p e.stream)
  if z == 0 then s
  else
    let last := (e.position + e.tokens - 1) / z
    let (ok, s) := allocUpTo (last + 1) p e.stream last s
    if ok then s
    else modServe p (fun v =>
      { v with sections := v.sections.map (fun x => if x.ctx == e.ctx then { x with poisoned := true } else x) }) s

/-- The projected gap exceeds the stream's deadline (04 R198): t_form is the step clock at the start of the formation. -/
def State.misses (s : State) (p : Nat) (x : Stream) (dModel : Nat) : Bool :=
  let v := s.serve p
  let gap := sub32 v.tForm x.lastDone
  let (n, d) := if s.detOf p then (1, 1) else (v.kNum, v.kDen)
  x.deadline != 0 && decide (x.deadline * d < gap * d + dModel * n)

/-- The deadline monitor judges one admitted stream (04 R198, R200; 10 R421). -/
def judgeDeadline (p i dModel : Nat) (s : State) : State :=
  let x := s.stream p i
  if !s.misses p x dModel then s
  else
    let hold' := (s.serve p).holdSteps
    let switch := !x.onFallback && x.fallback != x.context && hold' != 0
    let s := s |> updStream p i (fun x =>
        { x with
          missCount := satInc x.missCount 0xFFFFFFFF
          onFallback := x.onFallback || switch
          holdLeft := if switch then hold' else x.holdLeft })
      |> modServe p (fun v =>
        { v with
          deadlineMiss := wrapAdd v.deadlineMiss 1 64
          entries := v.entries.map (fun e => if e.stream == i then { e with miss := true } else e) })
    if switch && !s.detOf p then modDet p (fun d => { d with nondet := wrapAdd d.nondet 1 64 }) s else s

/-- Create the launch task of section `i` (04 R192). -/
def launchSection (p k i c : Nat) (s : State) : State :=
  let d : Desc :=
    { partition := p, context := c, epoch := s.image.epoch % 256, vgroup := 0xFFFE, depCount := 1, pageWait := true
      detKey := i, cmdPtr := (s.blockAddr p k + 256 * i) / 256 }
  match createSingle d (.serveSect i) none s with
  | none => s
  | some (slot, s) =>
    s |> modServe p (fun v =>
      { v with sections := setAt v.sections i { (v.sections.getD i {}) with slot := slot, statusTask := s.taskId slot } })

/-- Streams opened since the last boundary take the step clock of this one as last_done (04 R174). -/
def freshen (p clock : Nat) (s : State) : State :=
  ((s.serve p).streams.filter (fun x => x.2.fresh)).foldl
    (fun s x => updStream p x.1 (fun y => { y with lastDone := clock, fresh := false }) s) s

/-- Form the step that has been admitted (04 R178 steps 6 and 7). Without DET the boundary of its number is counted here
(10 R409). -/
def formAdmitted (p : Nat) (a : Adm) (s : State) : State :=
  let n := (s.serve p).next
  let k := n % s.stepBlocks p
  let (dModel, s) := formedUs p a s
  let es := blockOrder a.entries
  let ctxs := dedup (es.map (·.ctx))
  let (ns, s) := takeFree 16 s
  let clock := s.formClock p
  let s := freshen p clock s
  let s := modServe p (fun v =>
    { v with
      ended := none, step := n, running := true, releaseWait := false, fenceWait := false, next := wrapAdd n 1 32, intakeOpen := true
      entries := es, totalC := a.c, totalM := a.m, overBudget := a.isOver, dModel := dModel, tForm := clock
      formationNs := ns
      sections := ctxs.map (fun c => { ctx := c })
      fallbackCount := wrapAdd v.fallbackCount (es.filter (·.fallback)).length 64
      overBudgetCount := wrapAdd v.overBudgetCount (flag a.isOver) 64
      blocks := Tbl.put v.blocks k n
      formedAt := if ctxs.isEmpty then v.formedAt else s.power.heart
      floorDone := if ctxs.isEmpty then v.floorDone else false }) s
  let s := modPages p (fun v =>
    { v with failed := [], outside := v.outside.map (fun o => { o with early := true }) }) s
  let s := es.foldl (fun s e => s |> updStream p e.stream (fun x => { x with inStep := true, admitted := true })
                              |> unqueue p e.stream |> allocEntry p e) s
  let s := es.foldl (fun s e => judgeDeadline p e.stream dModel s) s
  let s := modServe p (fun v =>
    { v with entries := v.entries.map (fun e => { e with pageHead := (s.stream p e.stream).pageHead }) }) s
  let s := writeBlock p k n (s.serve p).entries ctxs s
  let s := (List.range ctxs.length).foldl (fun s i => launchSection p k i (ctxs.getD i 0) s) s
  let s := if s.detOf p then s else modDet p (fun d => { d with boundary := n }) s
  s |> modServe p (fun v => { v with forming := none }) |> trimStreams |> later (.place p)

/-- A formation may start: serving enabled, no drain, the 400 µs floor past (04 R177, R207; 11 R460). Without DET every record
that has been received is applied before it, at step 4 or in the wait of step 5 (04 R172). -/
def State.formStarts (s : State) (p : Nat) : Bool :=
  let v := s.serve p
  (s.detOf p || !s.queues.intake.any (fun e => e.1 == p)) && s.serves? p && s.started p && v.enable && !s.draining p
    && s.pastStep3 p && v.floorDone && !((s.det p).asked || !(s.det p).acks.isEmpty)

/-- Step 6 of R178 may run: no step is running, and a formation is in progress, or may start. -/
def State.formMay (s : State) (p : Nat) : Bool :=
  let v := s.serve p
  s.isHome p && !v.running && v.misses.isEmpty && (v.forming.isSome || s.formStarts p)

/-- The formation in progress goes on: admission, and with it the launch tasks, once the caches hold what it needs and the slots
are there (04 R168, R178; 05 R239; 02 R58). Where no stream is eligible, no step is formed without DET. -/
def formOn (p : Nat) (s : State) : State :=
  match fillFor p 1 (s.queued p) [] s with
  | some s => s
  | none =>
    let a := s.admission p
    if a.entries.isEmpty && !s.detOf p then modServe p (fun v => { v with forming := none }) s
    else
      let streams := a.entries.map (·.stream)
      match fillFor p 1 streams (s.pagesOfAll p streams) s with
      | some s => s
      | none =>
        if s.slotsFree < (dedup (a.entries.map (·.ctx))).length then s
        else formAdmitted p a s

/-- The batch former at step 6 of R178: it waits for the fence and the records up to it (04 R196), it sleeps where no stream is
eligible, it waits for the release of its block (04 R195), and else the formation starts, or goes on. -/
def formStep (p : Nat) (s : State) : State :=
  let v := s.serve p
  let late := sub32 v.fenceSeq v.expected < 0x80000000
  if v.forming.isSome then formOn p s
  else if s.detOf p && (!s.fenced p || late) then modServe p (fun v => { v with fenceWait := true }) s
  else if (s.queued p).isEmpty && !s.detOf p then modServe p (fun v => { v with fenceWait := false, releaseWait := false }) s
  else if (Tbl.find v.blocks (v.next % s.stepBlocks p)).isSome then
    modServe p (fun v => { v with releaseWait := true, fenceWait := false }) s
  else
    formOn p (modServe p (fun v =>
      { v with fenceWait := false, releaseWait := false, forming := some { clock := s.stepClock p, budget := s.budgetC p, bank := s.activeBank (tableOf tyCost) } }) s)

/-! ### Completion (04 R193, R194, R202 to R205) -/

/-- H_c of a context, from the image digest that its partition took at load (04 R204). -/
def State.ctxHash (s : State) (p c : Nat) : Nat :=
  sha256 (blobCat ⟨32, Tbl.at s.image.digests p 0⟩ ⟨32, s.recU tyContext p c 48 32⟩)

/-- The next digest of a stream (04 R204). -/
def State.nextDigest (s : State) (p c : Nat) (x : Stream) (k : Nat) : Nat :=
  sha256 (blobCat (blobCat ⟨32, x.digest⟩ ⟨32, s.ctxHash p c⟩) (blobCat ⟨32, x.input⟩ ⟨4, k⟩))

/-- What completion finds for one entry. -/
structure EntryEnd where
  outs   : Nat
  digest : Option Digest

/-- The update of an advancing entry's stream (04 R194, third row). gen_left − 1 at gen_left 0 has no stated value
(log entry 27). -/
def advanceStream (p n endClock : Nat) (e : Entry) (stop : Bool) (s : State) : State × Bool :=
  let x := s.stream p e.stream
  let counts := (!e.chunk || e.last) && x.genLeft != 0xFFFFFF
  let (r, s) := if counts && x.genLeft == 0 then takeFree 24 s else (0, s)
  let left := if counts then (if x.genLeft == 0 then r else x.genLeft - 1) else x.genLeft
  let pos := x.position + e.tokens
  let limit := pos == s.tokenLimit p (s.streamFormat p e.stream)
  let hold' := if e.fallback then x.holdLeft - 1 else x.holdLeft
  (updStream p e.stream (fun x =>
    { x with
      position := pos, pending := if e.chunk then x.pending - e.tokens else x.pending
      genLeft := if stop || limit then 0 else left
      streamStep := wrapAdd x.streamStep 1 32, lastStep := n, lastDone := endClock
      holdLeft := hold', onFallback := if e.fallback && hold' == 0 then false else x.onFallback }) s, limit)

/-- Complete one entry (04 R194, R204): bits 255:224 of the entry, and its digest. -/
def completeEntry (p n endClock j : Nat) (e : Entry) (result : Nat) (s : State) : EntryEnd × State :=
  let sec := s.sectionOf p e
  let (status, poison) := sec.fin.getD (0, false)
  let x := s.stream p e.stream
  let base := put (flag e.fallback) 0 1 + put (flag e.miss) 1 1
  let stay : Digest := { entry := j, stream := e.stream, ctx := e.ctx, value := x.digest, k := x.streamStep, input := x.input }
  let bad := decide (2 ≤ statusClass status) || poison
  let stop := !bad && bit result 0
  let (limit, dig, s) :=
    if 2 ≤ statusClass status then
      (false, some stay, updStream p e.stream (fun x => { x with state := 4 }) s)
    else if poison then (false, some stay, s)
    else
      let k := wrapAdd x.streamStep 1 32
      let (s, limit) := advanceStream p n endClock e stop s
      if x.prov then
        let d := s.nextDigest p e.ctx x k
        (limit, some { stay with value := d, advanced := true, k := k }, updStream p e.stream (fun x => { x with digest := d }) s)
      else (limit, none, s)
  let s := updStream p e.stream (fun x => { x.settled with inStep := false }) s
  let y := s.stream p e.stream
  let gone := y.cancelled || (y.closing && y.state == 3)
  let s := if gone then releaseStream p e.stream s else s
  let closed := gone && (s.stream p e.stream).state == 0
  let outs := base + put (flag bad) 2 1 + put (flag stop) 3 1 + put (flag closed) 4 1 + put (flag limit) 5 1
  ({ outs := outs, digest := dig }, s)

/-- All entries, in block order; each writes its bits 255:224 (04 R190). -/
def completeEntries (p n k endClock : Nat) : List Entry → List (BitVec 32) → Nat → List Digest → State → List Digest × State
  | [], _, _, ds, s => (ds, s)
  | e :: es, rs, j, ds, s =>
    let (x, s) := completeEntry p n endClock j e (rs.head?.getD 0).toNat s
    let s := issueWrite (.stepBlock p) (s.blockAddr p k + 0x2840 + 32 * j + 28) ⟨4, x.outs⟩ p e.ctx false s
    completeEntries p n k endClock es rs.tail (j + 1) (ds ++ x.digest.toList) s

/-- The status of the step among its launch tasks (04 R193, 01 R24). -/
def stepStatus (xs : List Section) : Nat :=
  let fins := xs.map (fun x => ((x.fin.map (·.1)).getD 0, x.statusTask))
  match leastBy (fun a b =>
      decide (statusClass b.1 < statusClass a.1) || (statusClass a.1 == statusClass b.1 && decide (a.2 < b.2))) fins with
  | some (st, _) => st
  | none => stNull

/-- The STEP_DONE record beside its header (04 R202). -/
def State.stepDoneBody (s : State) (p k measured : Nat) : Nat :=
  let v := s.serve p
  let es := v.entries
  let poisoned := v.sections.any (fun x => (x.fin.map (·.2)).getD false)
  put v.step 64 32 + put (stepStatus v.sections) 96 8 + put (flag poisoned) 104 1
    + put (flag (v.sections.any (·.subnormal))) 105 1 + put (flag v.overBudget) 106 1 + put (flag (s.detOf p)) 107 1
    + put (flag es.isEmpty) 108 1 + put es.length 128 17 + put (es.filter (fun e => !e.chunk)).length 145 17
    + put (es.filter (·.chunk)).length 162 5 + put v.sections.length 167 6
    + put (es.filter (·.fallback)).length 192 32 + put (es.filter (·.miss)).length 224 32
    + put ((es.map (·.tokens)).foldl (· + ·) 0) 256 32 + put v.dModel 288 24 + put measured 312 24 + put k 336 4
    + put v.totalC 384 48 + put v.totalM 432 48

/-- Once every launch task of the running step has retired the step has completed: the time is kept (04 R193, R197). -/
def markEnd (p : Nat) (s : State) : State :=
  if s.stepOver p && (s.serve p).ended.isNone then modServe p (fun v => { v with ended := some (s.us % 2 ^ 32) }) s else s

/-- Steps 1 to 3 of R178 (04 R178, R194, R197, R199; 05 R227). With DET the next boundary is asked for (10 R409). -/
def completeStep (p : Nat) (results : List (BitVec 32)) (s : State) : State :=
  let v := s.serve p
  let streams := v.entries.map (·.stream)
  match fillFor p 2 streams (s.pagesOfAll p streams) s with
  | some s => modServe p (fun v => { v with results := results }) s
  | none =>
    let det := s.detOf p
    let k := v.step % s.stepBlocks p
    let ended := v.ended.getD (s.us % 2 ^ 32)
    let measured := if det then 0 else sub32 ended v.tForm
    let ratio :=
      if v.dModel == 0 then (1, 1)
      else if 4 * measured < v.dModel then (1, 4)
      else if 4 * v.dModel < measured then (4, 1)
      else (measured, v.dModel)
    let body := recordHeader 0 1 p 0 false + s.stepDoneBody p k measured
    let s := dropStepPins p (fun _ => true) s
    let s := modServe p (fun v =>
      { v with modelClock := wrapAdd v.modelClock v.dModel 32, kNum := ratio.1, kDen := ratio.2 }) s
    let clock := if det then s.stepClock p else ended
    let s := freshen p clock s
    let (ds, s) := completeEntries p v.step k clock v.entries results 0 [] s
    let s := modServe p (fun w =>
      { w with
        running := false, ended := none, entries := [], sections := [], stepCount := wrapAdd w.stepCount 1 64, intakeOpen := false
        done := w.done ++ [{ step := v.step, record := body, block := k, digests := ds }] }) s
    let s := streams.foldl (fun s i => requeue p i s) s
    let s := if det then modDet p (fun d => { d with asked := true }) s else s
    s |> trimStreams |> later (.place p) |> later .reshape

/-- The block of a step is released (04 R195): the batch former's wait ends when it is the block that it waits for. -/
def freeBlock (p n : Nat) (s : State) : State :=
  modServe p (fun v =>
    let blocks := v.blocks.filter (fun b => b.2 != n)
    { v with
      blocks := blocks
      releaseWait := v.releaseWait && (Tbl.find blocks (v.next % s.stepBlocks p)).isSome }) s

/-- The digest lanes finish the oldest completed step: digests to the step block and the provenance array, then its
STEP_DONE (04 R204, R205). The provenance entry of a stream that has been released since is left cleared, and its last digest goes
to the step block only (DESIGN CHOICE, log entry 99). A partition without a HOSTQ record has no completion ring; its block is released at once. -/
def digestsDone (p : Nat) (s : State) : State :=
  match (s.serve p).done with
  | [] => s
  | d :: rest =>
    let s := modServe p (fun v => { v with done := rest }) s
    let area := s.blockAddr p d.block + 0x2840 + 32 * s.maxAdmit p
    let s := d.digests.foldl
      (fun s g =>
        let s := issueWrite (.stepBlock p) (area + 32 * g.entry) ⟨32, g.value⟩ p g.ctx false s
        let x := s.stream p g.stream
        if g.advanced && x.state != 0 && g.k ≤ x.streamStep then
          issueWrite (.provenance p) (s.provAddr p g.stream) ⟨64, g.value + x.input * 2 ^ 256⟩ p g.ctx false s
        else s) s
    let s := putCompletion p d.record s
    if !s.hasHostq p && (s.serve p).autoRelease then freeBlock p d.step s else s

/-- A STEP_DONE record has been accepted: with auto_release its block is released (04 R195). -/
def stepDoneWritten (p bits : Nat) (s : State) : State :=
  if fld bits 32 8 == 1 && (s.serve p).autoRelease then freeBlock p (fld bits 64 32) s else s

/-- STEP_RELEASE: of a step that has not completed it has no effect (04 R195, R206). -/
def releaseStep (p n : Nat) (s : State) : State :=
  if (s.serve p).running && (s.serve p).step == n then s else freeBlock p n s

/-- The launch task of a section has retired (04 R178 step 1, R193). -/
def sectionDone (p i status : Nat) (poison : Bool) (s : State) : State :=
  markEnd p (modServe p (fun v =>
    { v with sections := setAt v.sections i { (v.sections.getD i {}) with fin := some (status, poison) } }) s)

/-- Every read that a piece of work waited for has come: the work goes on (04 R168, 05 R239). -/
def resumeFills (p : Nat) (s : State) : State :=
  if s.filling p then s
  else
    let ks := (s.serve p).misses
    let results := (s.serve p).results
    let s := modServe p (fun v => { v with misses := [] }) s
    let s := if ks.contains 2 then completeStep p results s else s
    let s := if ks.contains 0 then applyRecord p s else s
    let s := if ks.contains 1 then formStep p s else s
    trimStreams (if ks.contains 3 then later (.place p) s else s)

/-! ### Parting and restore (08 R363 step 8, R365) -/

/-- Serving sections of the context end with ST_PARTED, their pins are dropped, and its streams become HELD. -/
def partServing (p c : Nat) (s : State) : State :=
  if !s.isHome p || !s.serves? p then s
  else
    let s := modServe p (fun v =>
      { v with
        sections := v.sections.map (fun x =>
          if x.ctx == c && x.fin.isNone then { x with fin := some (stParted, true) } else x) }) s
    let s := markEnd p s
    let mine := ((s.serve p).entries.filter (fun e => e.ctx == c)).map (·.stream)
    let s := if mine.isEmpty then s else dropStepPins p (fun i => mine.contains i) s
    ((s.serve p).streams.filter (fun x => x.2.state != 0 && (x.2.context == c || x.2.fallback == c))).foldl
      (fun s x => s |> updStream p x.1 (fun y => { y with state := 4 }) |> requeue p x.1) s

/-- HELD streams whose contexts are neither PARTING nor PARTED leave HELD (08 R365, 11 R462). -/
def releaseHeld (p : Nat) (s : State) : State :=
  ((s.serve p).streams.filter (fun x =>
      x.2.state == 4 && !s.gone p x.2.context && !s.gone p x.2.fallback)).foldl
    (fun s x =>
      s |> updStream p x.1 (fun y => { y with state := 3 })
        |> (fun s => if (s.stream p x.1).inStep then updStream p x.1 Stream.settled s else settleStream p x.1 s)) s

end Sys2Proof.Machine
end

