-- ==== Sys2Proof/Machine/ReduceUnit.lean ====
section
/-!
DEFINITION. The ordered-combine buffer and the reductions (09 R373 to R404): contribute records, buckets, the
tree and the chain, late contributors, zero lengths, delivery, and the release of ordered tasks.
-/
namespace Sys2Proof.Machine

/-! ### Groups and contribute records (09 R373, R377; 11 R442) -/

def State.rdU (s : State) (g lo n : Nat) : Nat := s.recU tyReduce g 0 lo n
def State.rdMembers (s : State) (g : Nat) : Nat := s.rdU g 16 2
def State.rdPart (s : State) (g : Nat) : Nat := s.rdU g 18 1
def State.rdUpdate (s : State) (g : Nat) : Bool := s.rdU g 19 1 == 1
def State.rdPackages (s : State) (g : Nat) : Nat := s.rdU g 20 1
def State.rdPackage (s : State) (g : Nat) : Nat := s.rdU g 21 1
def State.rdTagBase (s : State) (g : Nat) : Nat := s.rdU g 24 2
def State.rdTagCount (s : State) (g : Nat) : Nat := s.rdU g 26 2
def State.rdVgroup (s : State) (g : Nat) : Nat := s.rdU g 28 2
def State.rdFlitCost (s : State) (g : Nat) : Nat := s.rdU g 30 1
def State.rdDeadline (s : State) (g : Nat) : Nat := s.rdU g 32 2
def State.rdOptLaunch (s : State) (g : Nat) : Nat := fld (s.rdU g 40 8) 0 52

/-- This leaf's position in a group, if it is a member (09 R373). -/
def State.rdPos (s : State) (g : Nat) : Option Nat :=
  if s.isLeaf && (s.recAt tyReduce g 0).isSome then
    (List.range (s.rdMembers g)).find? (fun i => s.rdU g (64 + 2 * i) 2 == s.face.leafIndex)
  else none

/-- The instance that holds the leaf function of a member. -/
def State.rdCode (s : State) (g pos : Nat) : Option Nat := s.leafCode (s.rdU g (64 + 2 * pos) 2)

/-- The tag lies in the group's range, modulo 2^16 (09 R373). -/
def State.rdTag (s : State) (g tag : Nat) : Bool :=
  decide ((tag + 0x10000 - s.rdTagBase g) % 0x10000 < s.rdTagCount g)

def crTag (r : Nat) : Nat := fld r 0 16
def crGroup (r : Nat) : Nat := fld r 16 8
def crStats (r : Nat) : Bool := bit r 24
def crMean (r : Nat) : Bool := bit r 25
def crLength (r : Nat) : Nat := fld r 32 21
def crWeight (r : Nat) : Nat := fld r 64 32
def crSrc (r : Nat) : Nat := fld r 128 52
def crDst (r : Nat) : Nat := fld r 192 52
def crRec (r : Nat) : Nat := fld r 256 52
def crLand (r : Nat) : Nat := fld r 320 52

/-- Bytes of the data of `n` elements (09 R389, R399). -/
def dataBytes (stats : Bool) (n : Nat) : Nat := n * (if stats then 16 else 4)

/-- Data flits of `n` elements (09 R389). -/
def dataFlits (stats : Bool) (n : Nat) : Nat := ceilDiv (dataBytes stats n) 64

/-- Bytes of the mask of a group (09 R389, R401). -/
def State.maskBytes (s : State) (g : Nat) : Nat := 64 * ceilDiv (s.rdMembers g) 512

/-- Levels of the in-package tree: ceil(log2 n) (09 R383). -/
def treeLevels (n : Nat) : Nat := ((List.range 13).find? (fun k => decide (n ≤ 2 ^ k))).getD 13

/-- The member at `pos` receives at level `k` from the member 2^(k−1) above it (09 R383). -/
def receivesAt (n pos k : Nat) : Bool := pos % 2 ^ k == 0 && decide (pos + 2 ^ (k - 1) < n)

/-- The member at `pos` sends at level `k` (09 R383). -/
def sendsAt (pos k : Nat) : Bool := pos % 2 ^ k == 2 ^ (k - 1)

/-- The positions of the subtree that sends to `pos` at level `k`. -/
def subtreeBelow (n pos k : Nat) : List Nat :=
  (List.range (2 ^ (k - 1))).filterMap (fun i =>
    let q := pos + 2 ^ (k - 1) + i
    if q < n then some q else none)

/-- A mask with positions added. -/
def maskWith (mask : Nat) (ps : List Nat) : Nat := ps.foldl setBit mask

/-- The combine set that a member fixes when its bucket opens, as order indices less 0xF00 (09 R381). -/
def State.combineSet (s : State) (g pos : Nat) (mean : Bool) : List Nat :=
  let n := s.rdMembers g
  ((List.range (treeLevels n)).filter (fun k => receivesAt n pos (k + 1)))
    ++ (if pos == 0 && s.rdPackage g != 0 then [12] else [])
    ++ (if pos == 0 && mean && s.rdPackage g + 1 == s.rdPackages g then [13] else [])

/-- Entries of the ordered-combine buffer in use (09 R382). -/
def State.combineUsed (s : State) : Nat :=
  s.reduce.buckets.foldl (fun n e => n + e.2.entries.length) 0
    + (s.tasks.slots.filter (fun e => e.2.inBuffer)).length

/-! ### Messages (09 R389) -/

/-- A reduce header. -/
structure RMsg where
  type      : Nat := 0
  group     : Nat := 0
  tag       : Nat := 0
  round     : Nat := 0
  part      : Nat := 0
  stats     : Bool := false
  poison    : Bool := false
  length    : Nat := 0
  fromPos   : Nat := 0
  fromPkg   : Nat := 0
  masked    : Bool := false
  present   : Nat := 0
  weight    : Nat := 0
  pkgAbsent : Nat := 0
  offset    : Nat := 0
deriving DecidableEq, Repr, Inhabited

def RMsg.bits (m : RMsg) : Nat :=
  put m.type 0 8 + put m.group 8 8 + put m.tag 16 16 + put m.round 32 8 + put m.part 40 6 + put (flag m.stats) 46 1
    + put (flag m.poison) 47 1 + put m.length 48 21 + put m.fromPos 72 12 + put m.fromPkg 84 6
    + put (flag m.masked) 90 1 + put m.present 96 32 + put m.weight 128 64 + put m.pkgAbsent 192 64
    + put m.offset 256 32

def rmsgOf (w : Nat) : RMsg :=
  { type := fld w 0 8, group := fld w 8 8, tag := fld w 16 16, round := fld w 32 8, part := fld w 40 6
    stats := bit w 46, poison := bit w 47, length := fld w 48 21, fromPos := fld w 72 12, fromPkg := fld w 84 6
    masked := bit w 90, present := fld w 96 32, weight := fld w 128 64, pkgAbsent := fld w 192 64
    offset := fld w 256 32 }

/-- Send a reduce message: to a member of the package, or, with `pkg`, along the chain (09 R388, R389; 12 R520). `known`
is data at hand; `span` the bed bytes that the data comes from. -/
def sendReduce (m : RMsg) (pos : Nat) (pkg : Option Nat) (mask : Nat) (known : Blob) (span : Option (Nat × Nat))
    (s : State) : State :=
  let maskBlob : Blob := if m.masked then ⟨s.maskBytes m.group, mask⟩ else ⟨0, 0⟩
  let payload := blobCat maskBlob known
  let msg (route : Nat) : TxMsg :=
    { cls := 3, pool := m.part, kind := 0x30, content := routed m.bits route
      flits := 1 + maskBlob.len / 64 + dataFlits m.stats m.length, payload := payload, span := span }
  match pkg with
  | some k => sendOn 0 (msg (s.bridgeRoute k m.part)) s
  | none =>
    match s.rdCode m.group pos with
    | some code => sendTo code (msg (s.route code m.part false)) s
    | none => s

/-- The header fields that every message of a bucket carries from this member. -/
def State.headOf (s : State) (i : Nat) (type : Nat) : RMsg :=
  let b := s.bucket i
  { type := type, group := b.group, tag := b.tag, round := b.round, part := s.rdPart b.group
    stats := b.stats, poison := b.poison, length := b.length, fromPos := (s.rdPos b.group).getD 0
    fromPkg := s.rdPackage b.group, present := b.present, weight := b.weight, pkgAbsent := b.pkgAbsent }

/-- Send READY to the member that sends next: position `pos`, or member 0 of package `pkg` (09 R386). -/
def sendReady (i pos : Nat) (pkg : Option Nat) (s : State) : State :=
  let b := s.bucket i
  let m : RMsg :=
    { type := 5, group := b.group, tag := b.tag, round := b.round, part := s.rdPart b.group
      fromPos := (s.rdPos b.group).getD 0, fromPkg := s.rdPackage b.group }
  sendReduce m pos pkg 0 ⟨0, 0⟩ none s

/-! ### Opening and joining (09 R378, R379) -/

/-- The context of a group: that of the contributions this leaf has made to it, in the slot or in another one; none before its
first (09 R376, R402; log entry 36). -/
def State.rdCtx (s : State) (g i : Nat) : Option Nat :=
  match (s.bucket i).ctx with
  | some c => if (s.bucket i).group == g then some c else none
  | none => ((s.reduce.buckets.find? (fun e => e.2.group == g && e.2.ctx.isSome)).map (·.2.ctx)).join

/-- A slot opens a bucket with a combine set: its round rises (09 R376, R379). Under DET=1 the membership record is read, and a
member that is absent in it has no operand to wait for (09 R393). A READY that came before is taken (log entry 31). -/
def openWith (g tag : Nat) (set : List Nat) (s : State) : State :=
  let i := tag % 4096
  let b := s.bucket i
  let pos := (s.rdPos g).getD 0
  let p := s.rdPart g
  let members := if s.detOf p then some (Tbl.at (s.det p).records g (2 ^ s.rdMembers g - 1)) else none
  let away := members.any (fun m => !bit m pos)
  let b' : Bucket :=
    { round := (b.round + 1) % 256, isOpen := true, tag := tag, group := g, entries := set, ctx := s.rdCtx g i
      readyIn := b.readyNext == some tag, members := members
      ownReady := away, mask := if away then setBit 0 pos else 0 }
  { s with reduce := { s.reduce with opened := wrapAdd s.reduce.opened 1 64 } }
    |> wakeUp swCombine |> modBucket i (fun _ => b')

/-- A slot opens a bucket: its combine set is fixed and its entries are reserved; none when entries are lacking (09 R381,
R382). -/
def openBucket (g tag : Nat) (mean : Bool) (s : State) : Option State :=
  let set := s.combineSet g ((s.rdPos g).getD 0) mean
  if s.build.combineEntries < s.combineUsed + set.length then none else some (openWith g tag set s)

/-- Data lands in the member's landing buffer (09 R386). -/
def landData (i : Nat) (data : Blob) (s : State) : State :=
  let b := s.bucket i
  if data.len == 0 then s
  else issueWrite (.partials i) (crLand b.record) data (s.rdPart b.group) (b.ctx.getD 0) false s

/-- This member's partial, of `n` elements, goes to src (09 R384, R385). -/
def writeOwn (i n : Nat) (data : Blob) (s : State) : State :=
  let b := s.bucket i
  let bytes := dataBytes b.stats n
  if bytes == 0 then s
  else
    issueWrite (.partials i) (crSrc b.record) ⟨bytes, fld data.bits 0 (8 * bytes)⟩ (s.rdPart b.group) (b.ctx.getD 0) false s

/-- The member's contribution joins an open bucket. A bucket whose own operand has been given up already keeps it absent; the
operands that it has meanwhile go to the places that the record names. -/
def joinBucket (task : Nat) (r : Nat) (s : State) : State :=
  let i := crTag r % 4096
  let x := s.slot task
  let s := modBucket i (fun b =>
    let b := { b with task := some task, record := r, ctx := some x.ctx, stats := crStats r, poisonedIn := x.poisonIn }
    if b.ownReady then b
    else
      { b with
        ownReady := true, length := crLength r, present := 1, weight := crWeight r, poison := x.poisonIn
        status := if x.poisonIn then stPoisonIn else stOk }) s
  let b := s.bucket i
  let s := if b.landed.isSome then landData i b.landData s else s
  let s := match b.held with
    | some data => s |> modBucket i (fun b => { b with held := none }) |> writeOwn i b.length data
    | none => s
  let s := if x.poisonIn then retire task stPoisonIn true s else s
  later (.bucket i) s

/-- Open or join the bucket of a contribute record; none when it must wait (09 R379), also behind a contribution of the same tag
that has waited before it. A bucket that a partial has opened
learns of mean from the record, and reserves the entry of 0xF0D then (09 R381, R382). -/
def tryContribute (task r : Nat) (s : State) : Option State :=
  let b := s.bucket (crTag r % 4096)
  if b.isOpen then
    let set := s.combineSet b.group ((s.rdPos b.group).getD 0) (crMean r)
    let more := if b.early.isEmpty then set.filter (fun j => j == 13) else []
    if b.tag != crTag r || b.group != crGroup r || b.task.isSome || s.build.combineEntries < s.combineUsed + more.length then none
    else some (s |> modBucket (crTag r % 4096) (fun b => { b with entries := b.entries ++ more }) |> joinBucket task r)
  else (openBucket (crGroup r) (crTag r) (crMean r) s).map (joinBucket task r)

/-- Bytes that do not lie in the bed window; of an empty span the address itself is looked at. -/
def State.outside (s : State) (a n : Nat) : Bool := !s.inWindow a (max 1 n)

/-- Two spans share a byte. -/
def spansMeet (a n b m : Nat) : Bool := decide (0 < n) && decide (0 < m) && decide (a < b + m) && decide (b < a + n)

/-- The first failing check of a contribute record (09 R378): the fault, or none. -/
def State.checkContribute (s : State) (p r : Nat) : Option Nat :=
  let g := crGroup r
  let bytes := dataBytes (crStats r) (crLength r)
  let b := s.bucket (crTag r % 4096)
  if fld r 26 6 != 0 || fld r 53 11 != 0 || fld r 96 32 != 0 || fld r 180 12 != 0 || fld r 244 12 != 0
      || fld r 308 12 != 0 || fld r 372 140 != 0 || (crMean r && crStats r)
      || decide ((if crStats r then 2 ^ 18 else 2 ^ 20) < crLength r) then some fltReduceArgs
  else if (s.rdPos g).isNone || !s.rdTag g (crTag r) || s.rdPart g != p then some fltReduceGroup
  else if s.outside (crSrc r) bytes || s.outside (crDst r) bytes || s.outside (crLand r) (64 * ceilDiv bytes 64)
      || s.outside (crRec r) (64 + s.maskBytes g)
      || spansMeet (crLand r) (64 * ceilDiv bytes 64) (crSrc r) bytes
      || spansMeet (crLand r) (64 * ceilDiv bytes 64) (crDst r) bytes then some fltReduceArgs
  else if b.isOpen && b.tag == crTag r && b.task.isSome then some fltReduceDup
  else none

/-- A contribute record has been read (09 R378, R379). -/
def contributeArrive (task r : Nat) (s : State) : State :=
  let x := s.slot task
  match s.checkContribute x.part r with
  | some f => s |> raiseCtx f srcCombine x.part x.ctx 0 |> retire task stParted true
  | none =>
    match tryContribute task r s with
    | some s => s
    | none => { s with reduce := { s.reduce with waiting := s.reduce.waiting ++ [(task, r)] } }

/-! ### Combining (09 R383 to R387, R391 to R395) -/

/-- An index leaves the combine set, or its task has been released: its entry is free (09 R382). -/
def freeEntry (i j : Nat) (s : State) : State :=
  if (s.bucket i).entries.contains j then
    s |> modBucket i (fun b => { b with entries := b.entries.filter (· != j) }) |> later .buckets
  else s

/-- A combine has resolved with its result: the next level begins. -/
def resolveLevel (i j : Nat) (s : State) : State :=
  s |> freeEntry i j
    |> modBucket i (fun b =>
        { b with level := b.level + 1, landed := none, landData := ⟨0, 0⟩, readyOut := false, timer := none, running := none })
    |> later (.bucket i)

/-- Order index, less 0xF00, of the combine at the bucket's present level. -/
def State.levelIndex (s : State) (i : Nat) : Nat :=
  let b := s.bucket i
  if b.level ≤ treeLevels (s.rdMembers b.group) then b.level - 1 else 12

/-- A combine resolves null because an operand is absent: counted, and under DET=0 a choice of 10 R421. -/
def countAbsent (i : Nat) (s : State) : State :=
  let p := s.rdPart (s.bucket i).group
  let s := { s with reduce := { s.reduce with absent := wrapAdd s.reduce.absent 1 64 } }
  if s.detOf p then s else modDet p (fun d => { d with nondet := wrapAdd d.nondet 1 64 }) s

/-- The partner's operand is absent (09 R391): its subtree joins the mask, or its packages the absent ones. -/
def partnerAbsent (i : Nat) (s : State) : State :=
  let b := s.bucket i
  let n := s.rdMembers b.group
  let pos := (s.rdPos b.group).getD 0
  let j := s.levelIndex i
  s |> countAbsent i
    |> modBucket i (fun b =>
        if j == 12 then { b with pkgAbsent := maskWith b.pkgAbsent (List.range (s.rdPackage b.group)) }
        else { b with mask := maskWith b.mask (subtreeBelow n pos b.level) })
    |> resolveLevel i j

/-- A landed operand becomes the member's partial unchanged (09 R391, R395): its data goes to src, or is held until a contribution
names that. -/
def takeLanded (i : Nat) (s : State) : State :=
  let b := s.bucket i
  if b.task.isSome then writeOwn i ((b.landed.map (·.1)).getD 0) b.landData s else modBucket i (fun b => { b with held := some b.landData }) s

/-- Take over a landed operand: what it counts joins the member's own. `keep` says that the member's own data stays. -/
def mergeLanded (keep : Bool) (i : Nat) (s : State) : State :=
  let chain := s.levelIndex i == 12
  let s := if keep || (s.bucket i).landed.isNone then s else takeLanded i s
  modBucket i (fun b =>
    match b.landed with
    | none => b
    | some (len, poison, present, weight, mask, pkg) =>
      { b with
        length := if keep then b.length else len
        poison := b.poison || poison
        status := if poison && b.status == stOk then stPoisonIn else b.status
        present := wrapAdd b.present present 32
        weight := wrapAdd b.weight weight 64
        mask := if chain then b.mask else b.mask ||| mask
        pkgAbsent := b.pkgAbsent ||| pkg }) s

/-- Address of combine command area `j` of a slot (09 R385, R386). -/
def State.combineAddr (s : State) (i j : Nat) : Nat :=
  s.reduceArea (s.rdPart (s.bucket i).group) + (i * 16 + j) * 256

/-- Bytes 63:0 of a combine or finish command area (09 R385). At the chain operand a is the arriving sum, which lies in the
landing buffer (09 R387; log entry 32). -/
def State.combineCommand (s : State) (i j : Nat) : Nat :=
  let b := s.bucket i
  let src := crSrc b.record
  let land := crLand b.record
  let finish := j == 13
  put (if finish then s.rdU b.group 23 1 else s.rdU b.group 22 1) 0 8 + put (flag finish) 8 1
    + put (flag (crStats b.record)) 9 1 + put b.length 32 21
    + put (if j == 12 then land else src) 64 52
    + put (if finish then 0 else if j == 12 then src else land) 128 52
    + put src 192 52 + put (if finish then b.weight else 0) 256 64

/-- Create a combine or finish task (09 R384, R394); without a free slot it waits. -/
def createCombine (i j : Nat) (s : State) : State :=
  let b := s.bucket i
  let g := b.group
  let p := s.rdPart g
  let c := b.ctx.getD 0
  let poison := b.poison || (j != 13 && b.landed.any (fun l => l.2.1))
  let d : Desc :=
    { partition := p, context := c, epoch := s.image.epoch % 256, engineClass := 1, prio := 15, poison := poison
      ordered := true, vgroup := s.rdVgroup g, costCycles := s.rdFlitCost g * dataFlits (crStats b.record) b.length
      cmdPtr := s.combineAddr i j / 256, detKey := b.tag * 4096 + 0xF00 + j }
  match createSingle d (.combine i j) none s with
  | none => modBucket i (fun b => { b with stuck := true }) s
  | some (_, s) =>
    s |> modBucket i (fun b => { b with stuck := false, running := some j })
      |> issueWrite (.combineArea i) (s.combineAddr i j) ⟨256, s.combineCommand i j⟩ p c false

/-- Both operands of a combine are ready (09 R384, R391, R395). Which of two lengths that should have been equal the poisoned
output has is a free value (log entry 34). A task needs the places that the contribution names. -/
def combineReady (i : Nat) (s : State) : State :=
  let b := s.bucket i
  let j := s.levelIndex i
  match b.landed with
  | none => s
  | some (len, _, present, _, _, _) =>
    if present == 0 || b.present == 0 then
      s |> countAbsent i |> mergeLanded (present == 0) i |> resolveLevel i j
    else if len == 0 || b.length == 0 then
      { s with reduce := { s.reduce with nulls := wrapAdd s.reduce.nulls 1 64 } }
        |> mergeLanded (len == 0) i |> resolveLevel i j
    else if len != b.length then
      let (r, s) := takeFree 1 (raiseCtx fltReduceLength srcCombine (s.rdPart b.group) (b.ctx.getD 0) 0 s)
      s |> mergeLanded (r == 0) i
        |> modBucket i (fun b => { b with poison := true, status := if b.status == stOk then stPoisonIn else b.status })
        |> resolveLevel i j
    else if b.task.isNone then s
    else createCombine i j s

/-- A receiving level: READY goes out, the timer runs under DET=0 (09 R386, R390), and the combine follows. -/
def receiveLevel (i : Nat) (pos : Nat) (pkg : Option Nat) (s : State) : State :=
  let b := s.bucket i
  let timed := s.rdDeadline b.group != 0 && !s.detOf (s.rdPart b.group)
  let s :=
    if b.readyOut then s
    else s |> sendReady i pos pkg |> modBucket i (fun b => { b with readyOut := true })
  let s :=
    if timed && b.timer.isNone && b.ownReady then modBucket i (fun b => { b with timer := some s.power.heart }) s else s
  if b.landed.isSome && b.ownReady then combineReady i s else s

/-- Every member of the partner's subtree is absent in the membership record (09 R393). -/
def Bucket.wholeAbsent (b : Bucket) (ps : List Nat) : Bool := b.members.any (fun m => ps.all (fun q => !bit m q))

/-! ### Delivery (09 R394, R396 to R398, R401) -/

/-- Write the member's result and its completion record (09 R396, R401). `data` is none when the data is in dst already. -/
def writeDelivery (i : Nat) (data : Option Nat) (s : State) : State :=
  let b := s.bucket i
  let g := b.group
  let p := s.rdPart g
  let c := b.ctx.getD 0
  let pos := (s.rdPos g).getD 0
  let bytes := dataBytes (crStats b.record) b.length
  let selfAbsent := bit b.mask pos || bit b.pkgAbsent (s.rdPackage g)
  let head :=
    put b.tag 0 16 + put b.round 16 8 + put b.status 24 8 + put (flag b.poison) 32 1
      + put (flag (crMean b.record && b.weight == 0)) 33 1 + put (flag selfAbsent) 34 1 + put b.length 64 21
      + put b.present 96 32 + put b.weight 128 64 + put b.pkgAbsent 192 64 + put b.late 256 32
  let s := modBucket i (fun b => { b with delivering := true, timer := none }) s
  let s :=
    match data with
    | some bits => if bytes == 0 then s else issueWrite (.delivery i) (crDst b.record) ⟨bytes, bits⟩ p c false s
    | none => s
  issueWrite (.delivery i) (crRec b.record) ⟨64 + s.maskBytes g, head + b.mask * 2 ^ 512⟩ p c false s

/-- The members that sent to this one, from the highest level down (09 R396). -/
def State.rdBelow (s : State) (g pos : Nat) : List Nat :=
  let n := s.rdMembers g
  ((List.range (treeLevels n)).reverse).filterMap (fun k =>
    if receivesAt n pos (k + 1) then some (pos + 2 ^ k) else none)

/-- Pass a result on: member 0 first to the package before, then down its own package (09 R396). -/
def passResult (i : Nat) (known : Blob) (span : Option (Nat × Nat)) (s : State) : State :=
  let b := s.bucket i
  let g := b.group
  let pos := (s.rdPos g).getD 0
  let m := s.headOf i 2
  let s :=
    if pos == 0 && s.rdPackage g != 0 then sendReduce m 0 (some (s.rdPackage g - 1)) 0 known span s else s
  (s.rdBelow g pos).foldl (fun s q => sendReduce { m with masked := true } q none b.mask known span s) s

/-- Every shard is in this member's dst: its completion record is written (09 R398). -/
def checkShards (i : Nat) (s : State) : State :=
  let b := s.bucket i
  if b.isOpen && !b.delivering && decide (s.rdMembers b.group ≤ b.shards.length) then
    s |> modBucket i (fun b => { b with length := b.total }) |> writeDelivery i none
  else s

/-- This owner's shard has its updated parameters: they go to every other member in ascending position (09 R398). -/
def sendUpdates (i : Nat) (poison : Bool) (s : State) : State :=
  let b := s.bucket i
  let g := b.group
  let pos := (s.rdPos g).getD 0
  let s := modBucket i (fun b =>
    { b with
      optimizing := false, poison := b.poison || poison
      status := if poison && b.status == stOk then stPoisonIn else b.status
      shards := b.shards ++ [pos], total := b.total + b.shardLen }) s
  let m := { s.headOf i 4 with length := b.shardLen, offset := b.shardOff, poison := poison }
  let span := some (crDst b.record + 4 * b.shardOff, 4 * b.shardLen)
  checkShards i (((List.range (s.rdMembers g)).filter (· != pos)).foldl
    (fun s q => sendReduce m q none 0 ⟨0, 0⟩ span s) s)

/-- Words of the parameter block of an owner (09 R398). -/
def State.paramBlock (s : State) (i addr w : Nat) : Nat :=
  let b := s.bucket i
  let dst := crDst b.record
  put b.tag 0 32 + put b.round 32 32 + put b.shardOff 64 32 + put b.shardLen 96 32 + put w 128 64
    + put addr 192 64 + put dst 256 64

/-- An owner has its shard at an address (09 R398). The launch runs for a poisoned shard too, and its update is poisoned then
(log entry 33). -/
def ownShard (i addr off len : Nat) (poison : Bool) (w : Nat) (s : State) : State :=
  let s := modBucket i (fun b => { b with shardOff := off, shardLen := len, shardBad := poison }) s
  let b := s.bucket i
  let p := s.rdPart b.group
  let c := b.ctx.getD 0
  if len == 0 then sendUpdates i poison s
  else
    let block := s.reduceArea p + 0x1000000 + 64 * i
    s |> modBucket i (fun b => { b with optimizing := true })
      |> issueWrite (.params i) block ⟨64, s.paramBlock i addr w⟩ p c false
      |> startLaunch (.optimizer i) p c s.image.epoch (s.rdOptLaunch b.group) block

/-- The optimizer launch of a bucket has completed (09 R398). -/
def optimizerDone (i : Nat) (status : Nat) (poison : Bool) (s : State) : State :=
  let b := s.bucket i
  if b.isOpen && b.optimizing then sendUpdates i (b.shardBad || poison || statusClass status != 0) s else s

/-- A result's values are taken over, and nothing is left to wait for. A result along the chain leaves the package's own mask in
place. -/
def takeResult (i : Nat) (m : RMsg) (mask : Blob) (s : State) : State :=
  let chain := m.fromPkg != s.rdPackage m.group
  modBucket i (fun b =>
    { b with
      length := m.length, poison := m.poison, ownReady := true, timer := none, stats := if b.task.isSome then b.stats else m.stats
      status := if m.poison then (if b.poison then b.status else stPoisonIn) else stOk
      present := m.present, weight := m.weight, pkgAbsent := m.pkgAbsent
      mask := if chain || !m.masked then b.mask else fld mask.bits 0 (s.rdMembers m.group) }) s

/-- An owner takes its shard (09 R398). The header alone that an empty shard is brings no mask, so that the owner knows of the
absent positions of its package only its own part: the others are free in its record (09 R397, R401; log entry 102). -/
def takeShard (i : Nat) (m : RMsg) (mask data : Blob) (s : State) : State :=
  let b := s.bucket i
  let n := s.rdMembers m.group
  let bytes := dataBytes m.stats m.length
  let (away, s) := if m.masked then (fld mask.bits 0 n, s) else let (v, s) := takeFree n s; (b.mask ||| v, s)
  s |> modBucket i (fun b =>
        { b with
          present := m.present, weight := m.weight, pkgAbsent := m.pkgAbsent, ownReady := true, timer := none
          poison := b.poison || m.poison
          status := if m.poison && b.status == stOk then stPoisonIn else b.status
          mask := away })
    |> landData i ⟨bytes, fld data.bits 0 (8 * bytes)⟩
    |> ownShard i (crLand b.record) m.offset m.length m.poison m.weight

/-- A member takes the updated parameters of a shard (09 R398). -/
def takeUpdate (i : Nat) (m : RMsg) (data : Blob) (s : State) : State :=
  let b := s.bucket i
  let bytes := 4 * m.length
  let s := modBucket i (fun b =>
    { b with
      shards := b.shards ++ [m.fromPos], total := b.total + m.length, poison := b.poison || m.poison
      status := if m.poison && b.status == stOk then stPoisonIn else b.status }) s
  let s :=
    if bytes == 0 then s
    else
      issueWrite (.delivery i) (crDst b.record + 4 * m.offset) ⟨bytes, fld data.bits 0 (8 * bytes)⟩
        (s.rdPart m.group) (b.ctx.getD 0) false s
  checkShards i s

/-- What a RESULT, whose values have been taken over already, a SHARD or an UPDATE does to a bucket whose contribution is known
(09 R396, R398). -/
def takeEnd (i : Nat) (m : RMsg) (mask data : Blob) (s : State) : State :=
  if m.type == 2 then
    writeDelivery i (some (fld data.bits 0 (8 * dataBytes (crStats (s.bucket i).record) m.length))) s
  else if m.type == 3 then takeShard i m mask data s
  else takeUpdate i m data s

/-- The final sum is delivered by the member that holds it (09 R396, R397): an empty shard is a header alone. The model holds no bed memory, so the bytes that
member 0 copies are a free value (log entry 11). -/
def deliverFinal (i : Nat) (s : State) : State :=
  let b := s.bucket i
  let g := b.group
  let src := crSrc b.record
  let bytes := dataBytes (crStats b.record) b.length
  if s.rdUpdate g then
    let n := s.rdMembers g
    let z := ceilDiv (ceilDiv b.length n) 16 * 16
    let lo (j : Nat) := min (j * z) b.length
    let m := { s.headOf i 3 with masked := true }
    let s := (List.range n).foldl
      (fun s j =>
        if j == 0 then s
        else
          sendReduce { m with length := lo (j + 1) - lo j, offset := j * z, masked := decide (lo j < lo (j + 1)) } j none b.mask ⟨0, 0⟩
            (some (src + dataBytes (crStats b.record) (lo j), dataBytes (crStats b.record) (lo (j + 1) - lo j))) s) s
    ownShard i src 0 (lo 1) b.poison b.weight s
  else
    let s := passResult i ⟨0, 0⟩ (some (src, bytes)) s
    let (bits, s) := if s.hasBed then takeFree (8 * bytes) s else (storeRead s.store src bytes, s)
    writeDelivery i (some bits) s

/-! ### Bringing a bucket on -/

/-- This member's partial as a message carries it: what it holds, or else the data at src. -/
def sendPartial (i : Nat) (m : RMsg) (pos : Nat) (pkg : Option Nat) (s : State) : State :=
  let b := s.bucket i
  let s := modBucket i (fun b => { b with sent := true }) s
  match b.held with
  | some data => sendReduce m pos pkg b.mask (blobSlice data 0 (64 * dataFlits m.stats m.length)) none s
  | none => sendReduce m pos pkg b.mask ⟨0, 0⟩ (some (crSrc b.record, dataBytes m.stats b.length)) s

/-- The work of Job.bucket: one step of the member's part in the bucket (09 R383 to R387, R394). READY for level 1 needs no
contribution, and a member whose own operand is absent goes on with its partner's; the last step, which reads mean and the
places of the result from the contribute record, waits for that (log entry 34). Once a message of the bucket's end has come the
member combines no more: the message acts as soon as the contribution is known (09 R392, R396, R398; log entry 35). -/
def bucketWork (i : Nat) (s : State) : State :=
  let b := s.bucket i
  let g := b.group
  let n := s.rdMembers g
  let pos := (s.rdPos g).getD 0
  let top := treeLevels n
  if !b.isOpen || b.delivering then s
  else if !b.early.isEmpty then
    if b.task.isNone then s
    else b.early.foldl (fun s e => takeEnd i (rmsgOf e.1) e.2.1 e.2.2 s) (modBucket i (fun b => { b with early := [] }) s)
  else if b.running.isSome || b.optimizing || !b.shards.isEmpty then s
  else if b.level ≤ top then
    if receivesAt n pos b.level then
      if b.wholeAbsent (subtreeBelow n pos b.level) then partnerAbsent i s
      else receiveLevel i (pos + 2 ^ (b.level - 1)) none s
    else if !b.ownReady then s
    else if sendsAt pos b.level then
      if b.readyIn && !b.sent then sendPartial i { s.headOf i 1 with masked := true } (pos - 2 ^ (b.level - 1)) none s
      else s
    else s |> modBucket i (fun b => { b with level := b.level + 1 }) |> later (.bucket i)
  else if !b.ownReady then s
  else if b.level == top + 1 then
    if s.rdPackage g == 0 then s |> modBucket i (fun b => { b with level := b.level + 1 }) |> later (.bucket i)
    else receiveLevel i 0 (some (s.rdPackage g - 1)) s
  else if s.rdPackage g + 1 < s.rdPackages g then
    if b.readyIn && !b.sent then sendPartial i (s.headOf i 1) 0 (some (s.rdPackage g + 1)) s else s
  else if b.task.isNone then s
  else if b.level == top + 2 then
    if crMean b.record && b.weight != 0 && b.length != 0 then createCombine i 13 s
    else s |> freeEntry i 13 |> modBucket i (fun b => { b with level := b.level + 1 }) |> later (.bucket i)
  else deliverFinal i s

/-- A combine or finish task is final (09 R384, R394). Once the bucket's end has come, its result is no longer asked for. -/
def combineDone (i j status : Nat) (poison : Bool) (s : State) : State :=
  let b := s.bucket i
  if b.isOpen && b.running == some j && (b.delivering || !b.shards.isEmpty) then
    s |> freeEntry i j |> modBucket i (fun b => { b with running := none })
  else if b.isOpen && b.running == some j then
    let s := if j == 13 then s else mergeLanded true i s
    let s := modBucket i (fun b =>
      { b with poison := b.poison || poison, status := if poison && b.status == stOk then status else b.status }) s
    resolveLevel i j s
  else s

/-- A late-contributor timer fires (09 R390, R391): the missing operand is absent. -/
def deadlineFires (i : Nat) (s : State) : State :=
  let b := s.bucket i
  if b.ownReady then partnerAbsent i s
  else
    s |> countAbsent i
      |> modBucket i (fun b => { b with ownReady := true, mask := setBit b.mask ((s.rdPos b.group).getD 0) })
      |> mergeLanded false i |> resolveLevel i (s.levelIndex i)

/-- The deadline of a bucket slot is due and an operand is missing. -/
def State.deadlineDue (s : State) (i : Nat) : Bool :=
  let b := s.bucket i
  b.isOpen && b.early.isEmpty && (b.landed.isNone || !b.ownReady) &&
    b.timer.any (fun t => decide (t + 100 * s.rdDeadline b.group ≤ s.power.heart))

/-! ### Arrivals (09 R379, R386, R392, R396, R398) -/

/-- The message belongs to a group of which this leaf is a member. -/
def State.rmsgOk (s : State) (m : RMsg) : Bool :=
  (s.rdPos m.group).isSome && s.rdTag m.group m.tag && s.rdPart m.group == m.part

/-- The message is of the slot's open bucket (09 R376). -/
def State.rmsgOpen (s : State) (m : RMsg) : Bool :=
  let b := s.bucket (m.tag % 4096)
  s.rmsgOk m && b.isOpen && b.tag == m.tag && b.round == m.round && b.group == m.group

/-- The message is of the next bucket of its slot: one round above the slot's. -/
def State.rmsgNext (s : State) (m : RMsg) : Bool :=
  s.rmsgOk m && m.round == ((s.bucket (m.tag % 4096)).round + 1) % 256

/-- A partial is discarded (09 R392). -/
def latePartial (i : Nat) (s : State) : State :=
  { s with reduce := { s.reduce with late := wrapAdd s.reduce.late 1 64 } }
    |> (fun s => if (s.bucket i).isOpen then modBucket i (fun b => { b with late := wrapAdd b.late 1 32 }) s else s)

/-- The partial is the one that the present level waits for. -/
def State.expects (s : State) (i : Nat) (m : RMsg) : Bool :=
  let b := s.bucket i
  let g := b.group
  let n := s.rdMembers g
  let pos := (s.rdPos g).getD 0
  b.readyOut && b.landed.isNone && b.running.isNone && !b.delivering && b.early.isEmpty &&
    (if b.level ≤ treeLevels n then
      receivesAt n pos b.level && m.fromPkg == s.rdPackage g && m.fromPos == pos + 2 ^ (b.level - 1)
    else m.fromPkg + 1 == s.rdPackage g && m.fromPos == 0)

/-- A partial is taken: it lands, and a timer that no operand has started starts (09 R386, R390). -/
def takePartial (i : Nat) (m : RMsg) (mask data : Blob) (s : State) : State :=
  let b := s.bucket i
  let timed := s.rdDeadline b.group != 0 && !s.detOf (s.rdPart b.group)
  let bits := if m.masked then fld mask.bits 0 (s.rdMembers b.group) else 0
  let s := modBucket i (fun b =>
    { b with
      landed := some (m.length, m.poison, m.present, m.weight, bits, m.pkgAbsent), landData := data
      stats := if b.task.isSome then b.stats else m.stats
      timer := if timed && b.timer.isNone then some s.power.heart else b.timer }) s
  later (.bucket i) (if b.task.isSome then landData i data s else s)

/-- A PARTIAL reaches this member (09 R379, R386, R392). One of the slot's next round opens the bucket before the member has
contributed; opening sends READY for level 1, and the partial is then taken (log entry 34). Once the group's context is parted
here every partial is late (09 R402). -/
def partialArrive (m : RMsg) (mask data : Blob) (s : State) : State :=
  let i := m.tag % 4096
  let s := wakeUp swCombine s
  if s.rmsgOpen m then
    if s.expects i m then takePartial i m mask data s else latePartial i s
  else if s.rmsgNext m && !(s.bucket i).isOpen && !(s.rdCtx m.group i).any (s.gone m.part) then
    match openBucket m.group m.tag false s with
    | none => latePartial i s
    | some s =>
      let s := bucketWork i s
      if s.expects i m then takePartial i m mask data s else latePartial i s
  else latePartial i s

/-- The sender of a READY is the member that this one sends its partial to (09 R386). -/
def State.sendsTo (s : State) (m : RMsg) : Bool :=
  let pos := (s.rdPos m.group).getD 0
  let k := ((List.range 13).find? (fun k => sendsAt pos (k + 1))).getD 12
  if pos == 0 then m.fromPos == 0 && m.fromPkg == s.rdPackage m.group + 1
  else m.fromPkg == s.rdPackage m.group && m.fromPos + 2 ^ k == pos

/-- A READY reaches this member (09 R386); one of the slot's next round is kept until that bucket opens (log entry 31). -/
def readyArrive (m : RMsg) (s : State) : State :=
  let i := m.tag % 4096
  let s := wakeUp swCombine s
  if s.rmsgOpen m then
    if s.sendsTo m then s |> modBucket i (fun b => { b with readyIn := true }) |> later (.bucket i) else s
  else if s.rmsgNext m && s.sendsTo m then modBucket i (fun b => { b with readyNext := some m.tag }) s
  else s

/-- The bucket of a message of a bucket's end, if it is open here or opens for it: a member whose group has gone on without it
opens it for the slot's next round, so that its contribution finds the message (09 R379, R392; log entry 35). No entry is
needed, since it will combine nothing. -/
def endBucket (m : RMsg) (s : State) : Option State :=
  let i := m.tag % 4096
  if s.rmsgOpen m then some s
  else if s.rmsgNext m && !(s.bucket i).isOpen && !(s.rdCtx m.group i).any (s.gone m.part) then some (openWith m.group m.tag [] s)
  else none

/-- The bucket has such a message already. -/
def State.endTaken (s : State) (i : Nat) (m : RMsg) : Bool :=
  let b := s.bucket i
  b.delivering
    || b.early.any (fun e => (rmsgOf e.1).type == m.type && (m.type != 4 || (rmsgOf e.1).fromPos == m.fromPos))
    || (m.type == 3 && (b.optimizing || b.shards.contains ((s.rdPos m.group).getD 0)))
    || (m.type == 4 && b.shards.contains m.fromPos)

/-- A RESULT, SHARD or UPDATE reaches this member (09 R396, R398). A RESULT is passed on at once; each acts here as soon as the
contribute record names its place. -/
def endArrive (m : RMsg) (mask data : Blob) (s : State) : State :=
  let i := m.tag % 4096
  let s := wakeUp swCombine s
  match endBucket m s with
  | none => s
  | some s =>
    if s.endTaken i m then s
    else
      let s :=
        if m.type == 2 then s |> takeResult i m mask |> passResult i (blobSlice data 0 (64 * dataFlits m.stats m.length)) none else s
      if (s.bucket i).task.isSome then takeEnd i m mask data s
      else modBucket i (fun b => { b with early := b.early ++ [(m.bits, mask, data)] }) s

/-! ### Closing and parting (09 R382, R396, R402) -/

/-- Close a bucket slot: its round, and the context that used it, stay (09 R376). -/
def closeBucket (i : Nat) (s : State) : State :=
  s |> modBucket i (fun b => { round := b.round, group := b.group, ctx := b.ctx, readyNext := b.readyNext })
    |> laters [.buckets, .reshape]

/-- The result and the record have been accepted: the contribute task completes with ST_OK, and the bucket closes
(09 R396, R398). -/
def deliveryDone (i : Nat) (s : State) : State :=
  let b := s.bucket i
  if b.isOpen && b.delivering && !s.writing (.delivery i) then
    let s := { s with reduce := { s.reduce with closed := wrapAdd s.reduce.closed 1 64 } }
    let s := if b.poisonedIn then s else
      match b.task with
      | some t => retire t stOk b.poison s
      | none => s
    closeBucket i s
  else s

/-- A context is parted: its buckets close without records, also those that a partial opened for its group, and its waiting
contributions go (09 R402). -/
def partBuckets (p c : Nat) (s : State) : State :=
  let mine := s.reduce.buckets.filter (fun e => e.2.isOpen && s.rdPart e.2.group == p && s.rdCtx e.2.group e.1 == some c)
  let s := { s with
    reduce := { s.reduce with
      waiting := s.reduce.waiting.filter (fun w => !((s.slot w.1).part == p && (s.slot w.1).ctx == c))
      kind2 := s.reduce.kind2.filter (fun k => !(k.part == p && k.ctx == c)) } }
  mine.foldl (fun s e => closeBucket e.1 s) s

/-- A context is restored: the rounds of the slots it used start anew (09 R376; log entry 36). -/
def resetRounds (p c : Nat) (s : State) : State :=
  { s with
    reduce := { s.reduce with
      buckets := Tbl.each s.reduce.buckets (fun i b =>
        if !b.isOpen && s.rdPart b.group == p && s.rdCtx b.group i == some c then { group := b.group, ctx := b.ctx } else b) } }

/-- An ordered task whose count is 0 and which has not entered the buffer (02 R79; 09 R382). -/
def Slot.waitsBuffer (x : Slot) : Bool :=
  (x.st == .fetching || x.st == .ready) && x.ordered && !x.released && !x.inBuffer

/-- REDUCE_STATUS (09 R403): a contribution waits for its slot, or else for entries. -/
def State.reduceStatus (s : State) : Nat :=
  let slotWait (w : Nat × Nat) : Bool :=
    let b := s.bucket (crTag w.2 % 4096)
    b.isOpen && (b.tag != crTag w.2 || b.group != crGroup w.2 || b.task.isSome)
  let buffered := s.tasks.slots.any (fun e =>
    e.2.waitsBuffer)
  put (s.reduce.buckets.filter (fun e => e.2.isOpen)).length 0 13
    + put (flag (s.reduce.waiting.any slotWait)) 13 1
    + put (flag (buffered || s.reduce.waiting.any (fun w => !slotWait w))) 14 1 + put s.combineUsed 15 13

/-! ### Ordered tasks (02 R79, 09 R380 to R382) -/

/-- A task leaves the buffer for the ready set. -/
def releaseOrdered (i : Nat) (s : State) : State :=
  s |> modSlot i (fun x => { x with inBuffer := false, released := true, since := s.clock }) |> laters [.ready i, .buckets]

/-- An ordered task whose count has reached 0 enters the buffer, when an entry is free (09 R381, R382). A combine or finish
task holds its bucket's entry and is released at once, since every lower index has been. -/
def enterBuffer (i : Nat) (s : State) : State :=
  let x := s.slot i
  let k := x.okey.getD 0
  let g := fld k 12 16
  match x.role with
  | .combine b j => s |> freeEntry b j |> releaseOrdered i
  | _ =>
    if x.inBuffer then s
    else if s.build.combineEntries ≤ s.combineUsed then s
    else s |> wakeUp swCombine |> modSlot i (fun x => { x with inBuffer := true }) |> later (.order g)

/-- Release indices of a group in order (09 R381). -/
def releaseFrom (g : Nat) : Nat → State → State
  | 0, s => s
  | f + 1, s =>
    let o := s.order g
    match s.tasks.slots.find? (fun e =>
      e.2.inBuffer && e.2.okey.any (fun k => fld k 12 16 == g && fld k 0 12 == o.next)) with
    | some (i, _) => s |> modOrder g (fun o => { o with next := o.next + 1 }) |> releaseOrdered i |> releaseFrom g f
    | none =>
      if o.nulls.contains o.next then
        s |> modOrder g (fun o => { o with next := o.next + 1, nulls := o.nulls.filter (· != o.next) })
          |> releaseFrom g f
      else s

/-- The work of Job.order: release what can go, and the decrements of kind 2 whose index has been released (09 R381). Where the
null instances alone have moved the launch counter it returns to 0, once no launch has tasks still to create. -/
def orderWork (g : Nat) (s : State) : State :=
  let s := releaseFrom g (s.tasks.slots.length + 4096) s
  let due (k : Kind2) : Bool := k.group == g && decide (k.index < (s.order g).next)
  let ks := s.reduce.kind2.filter due
  let s := { s with reduce := { s.reduce with kind2 := s.reduce.kind2.filter (fun k => !due k) } }
  let s := ks.foldl (fun s k => decrement k.slot k.gen k.poison k.part k.ctx k.taskId s) s
  let creating := s.jigs.launches.any (fun e => e.2.phase == .creating)
  if ((s.order g).next == 0 && (s.order g).nulls.isEmpty) || creating || s.inOrder g (·.ordered) then s else restOrder g s

/-- Contributions that wait for their slot or for entries, in order. -/
def retryContribute : List (Nat × Nat) → State → State
  | [], s => s
  | w :: rest, s =>
    match tryContribute w.1 w.2 s with
    | some s => retryContribute rest s
    | none => retryContribute rest { s with reduce := { s.reduce with waiting := s.reduce.waiting ++ [w] } }

/-- The work of Job.buckets: entries or slots have become free (09 R379, R382). -/
def bucketsWork (s : State) : State :=
  let ws := s.reduce.waiting
  let s := retryContribute ws { s with reduce := { s.reduce with waiting := [] } }
  let held := sortBy (fun a b => a.2.since ≤ b.2.since) (s.tasks.slots.filter (fun e => e.2.waitsBuffer))
  s |> laters (held.map (fun e => Job.ready e.1))
    |> laters ((s.reduce.buckets.filter (fun e => e.2.isOpen && e.2.stuck)).map (fun e => Job.bucket e.1))

end Sys2Proof.Machine
end

