-- ==== Sys2Proof/Machine/DetUnit.lean ====
section
/-!
DEFINITION. Boundaries and membership records of a partition (10 R409, R410, R413, R414).
-/
namespace Sys2Proof.Machine

/-- Base of a partition's membership records (10 R405, 11 R437). -/
def State.memberBase (s : State) (p : Nat) : Nat := fld (s.recU tyDet p 0 24 8) 0 52

/-- The reduction groups of a partition, ascending. -/
def State.groupsOf (s : State) (p : Nat) : List Nat :=
  ((s.recsOf tyReduce).filter (fun r => r.u 18 1 == p)).map (·.key0)

/-- A boundary of the partition reads membership records: it has DET, reduction groups and a base (10 R405, R410). -/
def State.readsMembers (s : State) (p : Nat) : Bool :=
  s.detOf p && s.isHome p && !(s.groupsOf p).isEmpty && s.memberBase p != 0

/-- The conditions of 10 R410, as this instance sees them: no bucket of the partition is open here, and no cold fetch of it is
READY or ISSUED. That they hold at the other leaves is part of what BOUNDARY_TAKEN reports (log entry 38). -/
def State.boundaryClear (s : State) (p : Nat) : Bool :=
  !s.reduce.buckets.any (fun e => e.2.isOpen && s.rdPart e.2.group == p) &&
    !s.tasks.slots.any (fun e => e.2.part == p && (e.2.st == .ready || e.2.st == .issued) && e.2.fetches)

/-- The place of a boundary in a serving loop: boundary b is step 4 of 04 R178 at the formation of step b, which SERVE_FENCE
permits (10 R409, R414; 04 R196). Boundary 0 falls at image load. -/
def State.boundaryPlace (s : State) (p : Nat) : Bool :=
  !s.serves? p || (s.det p).first || (s.pastStep3 p && s.fenced p && !(s.serve p).running)

/-- A boundary of the partition waits to be taken and may be taken. -/
def State.boundaryDue (s : State) (p : Nat) : Bool :=
  (s.det p).asked && (s.det p).acks.isEmpty && s.boundaryPlace p && s.boundaryClear p

/-- The number of the boundary that is taken next (10 R409). -/
def Det.nextBoundary (d : Det) : Nat := if d.first then 0 else wrapAdd d.boundary 1 32

/-- The header of a bank. -/
def bankFrom (b : Blob) : Nat := fld b.bits 0 32

/-- The bank is a candidate at boundary `n` (10 R414). -/
def bankCandidate (n : Nat) (b : Blob) : Bool := bit b.bits 32 && decide (sub32 n (bankFrom b) < 2 ^ 31)

/-- A candidate that breaks a check of 10 R414. -/
def State.badBank (s : State) (g : Nat) (b : Blob) : Bool :=
  let n := s.rdMembers g
  fld b.bits 33 13 != n || fld b.bits (512 + n) (4096 - n) != 0 || fld b.bits 46 466 != 0

/-- The bank in force among usable ones: the later apply_from, bank 0 on a tie (10 R414). -/
def bankInForce (n : Nat) (b0 b1 : Option Blob) : Option Blob :=
  match b0, b1 with
  | some x, some y => if sub32 n (bankFrom y) < sub32 n (bankFrom x) then some y else some x
  | some x, none => some x
  | none, y => y

/-- The bank that stands for a record in which every member is present. -/
def State.fullBank (s : State) (g n : Nat) : Blob :=
  let m := s.rdMembers g
  ⟨576, put n 0 32 + put 1 32 1 + put m 33 13 + (2 ^ m - 1) * 2 ^ 512⟩

/-- First-flit content of MEMBER and MEMBER_ACK (12 R519). -/
def memberContent (g p n : Nat) : Nat := put g 0 8 + put p 8 8 + put n 32 32

/-- One group's record at boundary `n`: chosen, and delivered to every member leaf when it has changed (10 R410, R414). -/
def takeGroup (p n g : Nat) (b0 b1 : Blob) (s : State) : State :=
  let usable (b : Blob) : Option Blob := if bankCandidate n b && !s.badBank g b then some b else none
  let bad := [b0, b1].filter (fun b => bankCandidate n b && s.badBank g b)
  let bank := (bankInForce n (usable b0) (usable b1)).getD (s.fullBank g n)
  let bits := fld bank.bits 512 (s.rdMembers g)
  let old := Tbl.at (s.det p).records g (2 ^ s.rdMembers g - 1)
  let s := bad.foldl (fun s _ => raisePart fltMemberRecord srcSupervisor p 0 s) s
  if bits == old then s
  else
    let s := modDet p (fun d => { d with records := Tbl.put d.records g bits }) s
    (List.range (s.rdMembers g)).foldl
      (fun s pos =>
        match s.rdCode g pos with
        | none => s
        | some code =>
          if code == s.selfCode then s
          else
            s |> modDet p (fun d => { d with acks := d.acks ++ [(g, code)] })
              |> sendTo code
                  { cls := 0, pool := poolSystem, kind := 0x08, flits := 10, payload := ⟨576, bank.bits % 2 ^ 4608⟩
                    content := routed (memberContent g p n) (s.route code p true) }) s

/-- The place of a membership bank (10 R413). -/
def State.bankAddr (s : State) (p g k : Nat) : Nat := s.memberBase p + 1152 * g + 576 * k

/-- A membership bank as the home reads it (10 R413): the command's bytes, with none for a group that it does not name, or the
block store's in a build without a bed port (01 R46). -/
def State.bankRead (s : State) (p g k : Nat) (given : List (Nat × Blob × Blob)) : Blob :=
  if s.hasBed then
    match given.find? (fun e => e.1 == g) with
    | some (_, b0, b1) => if k == 0 then b0 else b1
    | none => ⟨576, 0⟩
  else ⟨576, storeRead s.store (s.bankAddr p g k) 576⟩

/-- The read of a bank's granule on bed_, under the lowest free tag (12 R492, R494; 08 R360). -/
def showBankRead (p g k i : Nat) (s : State) : State :=
  match Tbl.lowestFree s.bed.reads 512 with
  | some tag =>
    startRead tag
      { addr := s.bankAddr p g k + 64 * i, len := 64, why := .bank p g k, part := p, qos := s.qosOf p false, bank := s.activeBank 2 } s
  | none => s

/-- The bank reads have been answered: their tags are free. -/
def endBankReads (s : State) : State :=
  { s with bed := { s.bed with reads := s.bed.reads.filter (fun e => match e.2.why with
      | .bank _ _ _ => false
      | _ => true) } }

/-- The reads of a group's two banks on bed_. Their data come in the same command (log entry 38). -/
def showBankReads (p g : Nat) (s : State) : State :=
  if !s.hasBed then s
  else
    endBankReads ((List.range 18).foldl (fun s i => showBankRead p g (i / 9) (i % 9) s) (wakeUp swBed s))

/-- A boundary is taken (10 R409, R410): the banks of each group are read, and its record in force goes to its members. -/
def takeBoundary (p : Nat) (banks : List (Nat × Blob × Blob)) (s : State) : State :=
  let n := (s.det p).nextBoundary
  let s := modDet p (fun d => { d with asked := false, first := false, boundary := n }) s
  (s.groupsOf p).foldl
    (fun s g => s |> showBankReads p g |> takeGroup p n g (s.bankRead p g 0 banks) (s.bankRead p g 1 banks)) s

/-- DET_BOUNDARY is written (10 R409, R424): a boundary is asked for; without DET nothing holds it and it is taken. -/
def askBoundary (p : Nat) (s : State) : State :=
  if !s.isHome p || s.serves? p then s
  else if s.detOf p then modDet p (fun d => { d with asked := true }) s
  else modDet p (fun d => { d with boundary := wrapAdd d.boundary 1 32 }) s

/-- A membership record reaches a member leaf, which takes it and acknowledges (10 R410). The leaf counts the boundary that the
flit names: its cold area goes by it (10 R415). -/
def installMember (flit : Granule) (bank : Blob) (s : State) : State :=
  let w := flit.toNat
  let g := fld w 0 8
  let p := fld w 8 8
  if (s.rdPos g).isNone then s
  else
    s |> modDet p (fun d => { d with boundary := fld w 32 32, records := Tbl.put d.records g (fld bank.bits 512 (s.rdMembers g)) })
      |> sendTo (routeSrc flit)
          { cls := 0, pool := poolSystem, kind := 0x09
            content := routed (memberContent g p (fld w 32 32)) (s.route (routeSrc flit) p true) }

/-- An acknowledgement reaches the home (10 R410). -/
def memberAcked (flit : Granule) (s : State) : State :=
  let w := flit.toNat
  modDet (fld w 8 8) (fun d => { d with acks := d.acks.filter (fun a => !(a.1 == fld w 0 8 && a.2 == routeSrc flit)) }) s

/-- The partition has task slots or member leaves at other instances. -/
def State.spreads (s : State) (p : Nat) : Bool :=
  s.image.recs.any (fun r => r.type == tyAlloc && r.key0 == p && !bit r.scope 15 && fld r.scope 0 15 != s.selfCode)

/-- DET_STATUS (10 R423). What only other instances know of is a free value, a new one at each read: whether a boundary waits for
a bucket or a fetch elsewhere, and away from the home the wait and the count, which no message tells (log entry 38). -/
def State.detStatus (s : State) (p : Nat) : Nat :=
  let x := Sys2Proof.Config.freeValue (2 ^ 65 + s.clock)
  let asked := s.detOf p && (s.det p).asked
  let waits := if s.isHome p then asked && (!s.boundaryClear p || (s.boundaryPlace p && s.spreads p && bit x 0)) else s.detOf p && bit x 0
  let count := if s.isHome p || !s.hasRole then (s.det p).boundary else fld x 1 32
  put (flag (s.detOf p)) 0 1 + put (flag waits) 1 1 + put count 32 32

end Sys2Proof.Machine
end

