-- ==== Sys2Proof/Machine/PartUnit.lean ====
section
/-!
DEFINITION. Parting and restoring a context, PART and RESTORE flits, and the loss of a child or of the parent
(08 R361 to R367).
-/
namespace Sys2Proof.Machine

/-! ### Telling other instances (08 R362, R365) -/

/-- First-flit content of PART and RESTORE (12 R519). -/
def partContent (p c fault : Nat) : Nat := put p 0 8 + put c 8 8 + put fault 16 16

/-- A PART or RESTORE flit. -/
def State.partMsg (s : State) (kind dest p c fault : Nat) : TxMsg :=
  { cls := 0, pool := poolSystem, kind := kind, content := routed (partContent p c fault) (s.route dest p true) }

/-- The instances below the home at which a partition has engines or objects: those with its ALLOC record, or with a
semaphore, a barrier, a channel or a queue of it (08 R362). -/
def State.partTargets (s : State) (p : Nat) : List Nat :=
  let objects (code : Nat) : Bool := s.image.recs.any (fun r =>
    r.keptBy code && ((r.type == tyAlloc && r.key0 == p) || (r.type == tySemaphore && r.u 16 1 == p)
      || (r.type == tyBarrier && r.u 16 1 == p) || (r.type == tyChannel && r.u 17 1 == p)
      || (r.type == tyQueue && r.u 16 1 == p)))
  (s.image.recs.filter (fun r => r.type == tyTreeRole)).filterMap (fun r =>
    let code := fld r.scope 0 15
    if code != s.selfCode && under s.face.path (codePath code) && objects code then some code else none)

/-- Send PART or RESTORE: from the home to its subtree, from elsewhere to the home. -/
def tellOthers (kind p c fault : Nat) (s : State) : State :=
  if s.isHome p then (s.partTargets p).foldl (fun s code => sendTo code (s.partMsg kind code p c fault) s) s
  else if s.partConfigured p then sendTo (s.homeCode p) (s.partMsg kind (s.homeCode p) p c fault) s
  else s

/-! ### Local parting (08 R363) -/

/-- A slot of the context is freed (08 R363 step 3). A cold fetch that goes this way leaves its block ABSENT and poisons
the tasks that wait for it; a page move that was not dispatched ends (log entry 39). -/
def partSlot (i : Nat) (s : State) : State :=
  let x := s.slot i
  let id := s.taskId i
  let s :=
    match x.role with
    | .coldFetch b => fetchLost x.part b id x.ctx s
    | .move k => if x.st == .issued then s else moveFinal x.part k stParted true s
    | .mover packet sub => later (.completion packet stParted true sub) s
    | .recv e _ => modExchange e (fun y => { y with recvs := y.recvs.filter (fun r => r.2 != i) }) s
    | _ => s
  freeSlot i s

/-- Delegated page moves of the context that still wait for a slot end (05 R231). -/
def partMoves (p c : Nat) (s : State) : State :=
  let mine (w : Nat) : Bool := fld w 32 6 == p && fld w 38 5 == c
  { s with tasks := { s.tasks with movesIn := s.tasks.movesIn.filter (fun w => !mine w) } }
    |> laters ((s.tasks.movesIn.filter mine).map (fun w => Job.completion w stParted true false))

/-- In-flight entries of the context keep note that it has been parted: their records are discarded whatever state it is in
then (02 R97 step 2). -/
def partFlights (p c : Nat) (s : State) : State :=
  { s with
    tasks := { s.tasks with
      engines := Tbl.each s.tasks.engines (fun _ e =>
        if e.busy && e.part == p && e.ctx == c then { e with parted := true } else e)
      delegated := s.tasks.delegated.map (fun t => if t.part == p && t.ctx == c then { t with parted := true } else t) } }

/-- Steps 3 to 10 of 08 R363 for a context that has entered PARTING. What the tasks of its launches have reported of subnormal
numbers is told first, inner launches before the outer ones (02 R96, 04 R193). -/
def partWork (p c fault : Nat) (tell : Bool) (s : State) : State :=
  let launches := (s.jigs.launches.filter (fun e => e.2.part == p && e.2.ctx == c)).map (·.1)
  let s := launches.reverse.foldl (fun s id => passSubnormal id s) (partFlights p c s)
  let s := launches.foldl (fun s id => abandonLaunch id s) s
  let slots := (s.tasks.slots.filter (fun e => e.2.st != .free && e.2.part == p && e.2.ctx == c)).map (·.1)
  let s := s |> partBuckets p c |> (fun s => slots.foldl (fun s i => partSlot i s) s)
  let s := s |> partWaiters p c |> partObjects p c |> partChannels p c |> partQueues p c |> freeRuns p c
    |> partServing p c |> partMoves p c
  let s := modCtx p c (fun x => { x with st := .parted, bringIn := none, lineWait := false }) s
  let s := if tell then tellOthers 0x05 p c fault s else s
  laters [.place p, .sweep, .buckets, .reshape] s

/-- A PART flit has reached this instance (08 R362): the procedure of 08 R363 runs, with its ledger entry, and the home
hands it on. -/
def partReceived (p c fault : Nat) (s : State) : State :=
  if !s.ctxConfigured p c || s.gone p c then s
  else s |> enter fault srcSupervisor p c 1 0 false |> beginPartWith (s.isHome p) p c fault

/-! ### Restore (08 R365) -/

/-- A restore is accepted: private objects take their initial values, the context is DORMANT, and streams that may leave
HELD. -/
def restoreCtx (p c : Nat) (s : State) : State :=
  s |> modCtx p c (fun x => { x with st := .dormant })
    |> restoreObjects p c |> resetRounds p c |> releaseHeld p |> laters [.sweep, .place p]

/-- A restore reaches this instance. One that finds the context PARTING is refused; any other state ignores it. -/
def restoreReceived (p c : Nat) (s : State) : State :=
  match (s.ctx p c).st with
  | .parted =>
    let s := restoreCtx p c s
    if s.isHome p then tellOthers 0x06 p c 0 s else s
  | .parting => s |> modCtx p c (fun x => { x with restoreRefused := true }) |> noteBit (offCtx p c) 14
  | _ => s

/-- CTX_CTRL.restore (08 R365): at the home, once the context is PARTED there. -/
def askRestore (p c : Nat) (s : State) : State :=
  if s.isHome p && s.ctxConfigured p c then restoreReceived p c s else s

/-! ### Loss of a link (08 R366, R367) -/

/-- The link of port `x` has been lost: what came by it returns nothing there (08 R366 step 2). -/
def forgetPort (x : Nat) (s : State) : State :=
  let gone (y : Nat) : Nat := if y == x then x + 9 else y
  { s with
    ports := s.ports.map (fun p => { p with queue := p.queue.map (fun m => { m with back := m.back.map (fun b => (gone b.1, b.2)) }) })
    queues := { s.queues with
      intake := s.queues.intake.map (fun e => (e.1, e.2.1, e.2.2.map gone))
      chans := Tbl.each s.queues.chans (fun _ c => { c with ring := c.ring.map (fun m => { m with inPort := m.inPort.map gone }) }) }
    jigs := { s.jigs with
      exchanges := Tbl.each s.jigs.exchanges
        (fun _ e => { e with landing := e.landing.map (fun l => { l with inPort := l.inPort.map gone }) }) }
    sync := { s.sync with remoteIn := s.sync.remoteIn.map (fun w => { w with port := gone w.port }) }
    held := s.held.map (fun h => match h.2 with
      | .remoteSync y flit => (h.1, .remoteSync (gone y) flit)
      | .intake y flit => (h.1, .intake (gone y) flit)
      | _ => h) }

/-- A remote request that a lost child's port still held is lost (08 R366 step 5). -/
def loseHeld (x kind p : Nat) (s : State) : State := if kind == 0x10 && x != 0 then loseRemote p s else s

/-- The port goes down with its credits, sequence numbers, replay buffer and queue as at the start (08 R366 steps 1 to 3).
Remote requests that it still held are lost, and credits of forwarded messages go back to where they came from. -/
def dropPort (x : Nat) (s : State) : State :=
  let q := (s.port x).queue
  let sent := (s.port x).replay
  let s := modPort x (fun p =>
    { p with
      state := 0, lost := true, credits := s.imageCredits x
      tx := [0, 0, 0, 0, 0], rx := [0, 0, 0, 0, 0], replay := [], queue := [], waiting := false, unacked := 0
      naks := 0, replayAll := false, ours := none, theirs := none, pmReq := false, early := none }) s
  let s := s |> setLive x false |> forgetPort x
  let s := sent.foldl (fun s f => loseHeld x f.kind (syncReqOf (fld f.content.toNat 0 128)).part s) s
  q.foldl
    (fun s m =>
      let s := if m.sent == 0 then loseHeld x m.kind m.pool s else s
      match m.back with
      | some (y, k) => creditBack y k m.flits s
      | none => s) s

/-- A delegated task whose child is lost (08 R366 step 4). -/
def loseTask (x id p c : Nat) (s : State) : State :=
  let i := idSlot id
  let y := s.slot i
  let s := tellMove p id stChildLost true s
  let s := raiseCtx fltChildLost srcLink p c x s
  if y.st == .issued && y.gen == idGen id && y.child == some x then retire i stChildLost true s else s

/-- The partitions that have engines in the subtree below a child port (08 R366 step 4). -/
def State.partsBelow (s : State) (x : Nat) : List Nat :=
  let top := s.partnerPath x
  s.parts.filter (fun p =>
    s.image.recs.any (fun r =>
      r.type == tyAlloc && r.key0 == p && !bit r.scope 15 && under top (codePath (fld r.scope 0 15)) && r.u 16 64 != 0))

/-- The link timeout of a port has expired (08 R366, R367). -/
def lostWork (x : Nat) (s : State) : State :=
  let s := dropPort x s
  if x == 0 then
    let above := s.parts.filter (fun p => !s.isHome p && under (codePath (s.homeCode p)) s.face.path)
    let s := above.foldl
      (fun s p =>
        (s.ctxsOf p).foldl
          (fun s c => s |> enter fltParentLost srcLink p c 1 x false |> beginPartWith false p c fltParentLost) s) s
    later .reshape (nackThrough x s)
  else
    let mine := s.tasks.delegated.filter (fun t => t.child == x)
    let s := { s with tasks := { s.tasks with delegated := s.tasks.delegated.filter (fun t => t.child != x) } }
    let s := mine.foldl (fun s t => loseTask x t.taskId t.part t.ctx s) s
    let s := (s.partsBelow x).foldl
      (fun s p => (s.ctxsOf p).foldl (fun s c => raiseCtx fltChildLost srcLink p c x s) s) s
    later .reshape (nackThrough x s)

/-! ### Admission (12 R517) -/

/-- The port's verdicts are given: it comes up when both accept, and is refused when one does not (12 R517). -/
def judgePort (x : Nat) (s : State) : State :=
  let p := s.port x
  match p.ours, p.theirs with
  | some true, some true =>
    s |> modPort x (fun q => { q with state := 3, lost := false, lastRx := s.power.heart, lastBusy := s.power.heart })
      |> setLive x true |> laters [.start, .reshape, .transmit x]
  | some false, _ => refuse s
  | _, some false => refuse s
  | _, _ => s
where
  /-- The admission is refused, and counted once. -/
  refuse (s : State) : State :=
    if (s.port x).state == 5 then s
    else s |> modPort x (fun q => { q with state := 5, refusals := satInc q.refusals 0xFF })
           |> setLive x false |> later .start

/-- The partner is the one expected: connected, with the same digest and the expected path (12 R517; 01 R31, R32). -/
def State.admits (s : State) (x w : Nat) : Bool :=
  s.connected x && fld w 128 256 == s.image.digest && fld w 48 15 == pathCode (s.partnerPath x)

/-- An ADMIT is judged, or gives the partner's verdict (12 R517). -/
def takeAdmit (x w : Nat) (s : State) : State :=
  if bit w 64 then s |> modPort x (fun p => { p with theirs := some (bit w 65) }) |> judgePort x
  else
    let ok := s.admits x w
    let s := s |> modPort x (fun p => { p with ours := some ok }) |> sendAdmit x true ok
    let s := if ok then s else raiseNone fltTreeMismatch srcLink x s
    judgePort x s

/-- An ADMIT is taken. One that begins an admission anew finds the port UP or lost: the work of an UP port is lost then (08 R366,
R367; 12 R524; 13 R542). One that comes before this instance holds a role waits for it (13 R540 step 4). -/
def admitArrives (x : Nat) (flit : Granule) (s : State) : State :=
  let anew := !bit flit.toNat 64
  let s := if s.portUp x && anew then s |> lostWork x |> beginAdmission x
    else if s.connected x && (s.port x).state < 2 then beginAdmission x s
    else s
  let s := acceptFlit x 1 s
  if s.hasRole then s |> creditBack x (creditKey poolSystem 1 false) 1 |> takeAdmit x flit.toNat
  else if anew then modPort x (fun p => { p with early := some flit }) s
  else s

/-- The instance takes a role, or the port becomes active: admission begins (12 R517), and an ADMIT that has waited is judged. -/
def openPort (x : Nat) (s : State) : State :=
  let s := beginAdmission x s
  match (s.port x).early with
  | some flit =>
    s |> modPort x (fun p => { p with early := none })
      |> creditBack x (creditKey poolSystem 1 false) 1 |> takeAdmit x flit.toNat
  | none => s

/-! ### Link states (12 R507, R509, R512, R514) -/

/-- The port becomes physically down (12 R507). One that was UP stays so until its timeout, and is not live meanwhile (01 R35;
12 R514; log entry 55). -/
def portDown (x : Nat) (s : State) : State :=
  let p := s.port x
  let st := if s.portUp x then 3 else if s.connected x && !p.lost then 1 else 0
  s |> modPort x (fun q => { q with state := st, replayAll := false, early := none }) |> setLive x false

/-- The port enters the active state from state 0: its numbers start at 0, and nothing of before is replayed (12 R509). If it is
still UP, its work is lost first (08 R366, R367; 13 R542). -/
def portStarts (x : Nat) (s : State) : State :=
  let s := if s.portUp x then lostWork x s else s
  let s := modPort x (fun p =>
    { p with
      tx := [0, 0, 0, 0, 0], rx := [0, 0, 0, 0, 0], replay := [], waiting := false, unacked := 0, naks := 0, replayAll := false
      early := none }) s
  if !s.hasRole then s
  else if s.connected x then beginAdmission x s
  else raiseNone fltTreeMismatch srcLink x s

/-- The port is active again: its traffic goes on, after the replay that a retraining asks for (12 R512); one that was lost
meanwhile is admitted anew (12 R524). -/
def portResumes (x : Nat) (s : State) : State :=
  let s := modPort x (fun p => { p with state := if p.state == 4 then 3 else p.state }) s
  if s.connected x && (s.port x).state < 2 then beginAdmission x s
  else if (s.port x).replayAll then replayBuffer x s
  else later (.transmit x) s

/-- The state of a link port has changed (12 R507). The link timer does not run in L1, and starts as the port leaves it (12
R514). -/
def portMoved (x before now : Nat) (s : State) : State :=
  let s := if before == 2 then touched x s else s
  if now == 0 then portDown x s
  else if now == 1 then if before == 0 then portStarts x s else portResumes x s
  else modPort x (fun p =>
    { p with state := if now == 2 && p.state == 3 then 4 else if p.state == 4 then 3 else p.state }) s

end Sys2Proof.Machine
end

