-- ==== Sys2Proof/Machine/ImageUnit.lean ====
section
/-!
DEFINITION. Reading an image and the first five stages of its validation (11 R426 to R447): format, digests, role,
build and window.
-/
namespace Sys2Proof.Machine

/-! ### Reading records (11 R426) -/

/-- A record with its index and its byte offset in the image. -/
structure Placed where
  idx : Nat := 0
  off : Nat := 0
  r   : Rec := {}
deriving DecidableEq, Repr, Inhabited

/-- Why an image is rejected: the fault, the failing record and the failing field's byte offset (11 R447), and for a knot
the edge as KNOT_EDGE shows it (11 R474). -/
structure Rejection where
  fault : Nat := 0
  idx   : Nat := 0
  off   : Nat := 0
  edge  : Option Nat := none
deriving DecidableEq, Repr, Inhabited

/-- A check: whether it holds, and the byte offset in the record of the field it looks at. -/
abbrev Check := Bool × Nat

/-- The first check of a record that fails, as a rejection. -/
def Placed.firstBad (p : Placed) (fault : Nat) (cs : List Check) : Option Rejection :=
  (cs.find? (fun c => !c.1)).map (fun c => { fault := fault, idx := p.idx, off := p.off + c.2 })

/-- Round up to a multiple of 16. -/
def up16 (n : Nat) : Nat := ceilDiv n 16 * 16

/-- The length that a record's type and counts give; none for a type that is not known (11 R428 to R443). The records of
variable length without counts keep their own length, within its limits. -/
def Rec.rightLength (r : Rec) : Option Nat :=
  if r.type == tyHeader then some 128
  else if r.type == tyTreeRole then some 80
  else if r.type == tyCredit then some 544
  else if r.type == tyEngineMap then some 2064
  else if r.type == tyCensus || r.type == tyVgroup || r.type == tyMask then some 80
  else if r.type == tyQos then some 96
  else if r.type == tyPartition || r.type == tyHostq || r.type == tyCold || r.type == tyQueue then some 48
  else if r.type == tyAlloc || r.type == tyChannel then some 128
  else if r.type == tyContext || r.type == tyServe then some 80
  else if r.type == tyScratch then some 544
  else if r.type == tySpill || r.type == tyPolicy || r.type == tySemaphore || r.type == tyBarrier
      || r.type == tySyncRef || r.type == tyReshape then some 32
  else if r.type == tyDet then some (up16 (48 + 4 * r.u 32 2))
  else if r.type == tyCost then some 96
  else if r.type == tyPageFormat then some 112
  else if r.type == tyJig then some (up16 (80 + 32 * fld (r.u 16 2) 0 13 + 8 * fld (r.u 18 2) 0 14))
  else if r.type == tyExchange then some (up16 (32 + 2 * r.u 18 2))
  else if r.type == tyHandler then some (16 + 16 * min 1024 ((r.length - 16) / 16))
  else if r.type == tyReduce then some (up16 (64 + 2 * r.u 16 2))
  else if r.type == tyData then some (max 32 r.length)
  else if r.type == tyDebug then some r.length
  else none

/-- Read the records of an image of `len` bytes from `off` on: each has its header, a length that is a multiple of 16, and
lies within the image (11 R426). -/
def parseRecords (b : Blob) (len : Nat) : Nat → Nat → Nat → List Placed → List Placed ⊕ Rejection
  | 0, off, idx, _ => .inr { fault := fltImageFormat, idx := idx, off := off }
  | f + 1, off, idx, acc =>
    if off == len then .inl acc.reverse
    else if len < off + 16 then .inr { fault := fltImageFormat, idx := idx, off := off }
    else
      let h := bytesAt b off 16
      let n := fld h 32 32
      if n % 16 != 0 || n < 16 || len < off + n then .inr { fault := fltImageFormat, idx := idx, off := off + 4 }
      else
        let r : Rec :=
          { type := fld h 0 16, length := n, scope := fld h 64 16, key0 := fld h 80 16, key1 := fld h 96 32
            bits := bytesAt b off n }
        if r.rightLength.isNone then .inr { fault := fltImageFormat, idx := idx, off := off }
        else parseRecords b len f (off + n) (idx + 1) ({ idx := idx, off := off, r := r } :: acc)

/-! ### Stage 1: format (11 R447) -/

/-- The order of records (11 R426). -/
def Rec.sortKey (r : Rec) : Nat := ((r.type * 2 ^ 16 + r.scope) * 2 ^ 16 + r.key0) * 2 ^ 32 + r.key1

/-- A mask of `n` bytes from byte `lo`. -/
def byteMask (lo n : Nat) : Nat := (2 ^ (8 * n) - 1) * 2 ^ (8 * lo)

/-- A mask of `w` bits from bit `b` of byte `lo`. -/
def bitMask (lo b w : Nat) : Nat := (2 ^ w - 1) * 2 ^ (8 * lo + b)

/-- An address of 52 bits at byte `lo` (00 R9). -/
def addrMask (lo : Nat) : Nat := bitMask lo 0 52

/-- The bits of a record's body that carry a field (11 R430 to R443). Every other bit is reserved. -/
def Rec.usedBits (r : Rec) : Nat :=
  let ty := r.type
  if ty == tyHeader then
    byteMask 16 4 + byteMask 20 2 + byteMask 24 4 + byteMask 28 4 + byteMask 32 4 + byteMask 36 4 + byteMask 40 2
      + byteMask 48 64
  else if ty == tyTreeRole then
    byteMask 16 1 + bitMask 17 0 1 + byteMask 18 1 + addrMask 24 + addrMask 32 + addrMask 40 + addrMask 48
      + byteMask 56 4 + addrMask 64 + addrMask 72
  else if ty == tyCredit then byteMask 16 520
  else if ty == tyEngineMap then (List.range 512).foldl (fun m v => m + bitMask (16 + 4 * v) 0 21) 0
  else if ty == tyCensus || ty == tyVgroup || ty == tyMask then byteMask 16 64
  else if ty == tyQos then (List.range 65).foldl (fun m v => m + bitMask (16 + v) 0 4) 0
  else if ty == tyPartition then bitMask 16 0 15 + byteMask 20 4 + byteMask 24 4 + byteMask 32 8
  else if ty == tyAlloc then
    byteMask 16 64 + byteMask 80 1 + byteMask 84 4 + addrMask 88 + addrMask 96 + byteMask 104 4 + byteMask 108 4
      + addrMask 112
  else if ty == tyContext then
    byteMask 16 1 + byteMask 20 2 + byteMask 22 2 + byteMask 24 2 + addrMask 32 + byteMask 48 32
  else if ty == tyScratch then
    byteMask 16 2 + byteMask 18 2 + byteMask 20 2 + byteMask 22 2 + byteMask 24 4 + byteMask 28 1 + byteMask 32 512
  else if ty == tySpill then addrMask 16
  else if ty == tyDet then
    bitMask 16 0 1 + addrMask 24 + byteMask 32 2
      + (List.range (r.u 32 2)).foldl (fun m i => m + bitMask (48 + 4 * i) 0 25) 0
  else if ty == tyPolicy then bitMask 16 0 5 + bitMask 17 0 1
  else if ty == tyServe then
    bitMask 16 0 20 + byteMask 20 4 + addrMask 24 + byteMask 32 3 + byteMask 36 4 + addrMask 40 + byteMask 48 2
      + byteMask 50 1 + byteMask 51 1 + byteMask 52 4 + byteMask 56 8 + byteMask 64 8 + addrMask 72
  else if ty == tyHostq then addrMask 16 + byteMask 24 1 + addrMask 32 + byteMask 40 1
  else if ty == tyCost then byteMask 16 2 + addrMask 24 + byteMask 32 64
  else if ty == tyPageFormat then
    byteMask 16 2 + byteMask 18 1 + byteMask 19 1 + byteMask 20 4 + byteMask 24 2 + byteMask 26 2 + byteMask 28 2
      + (List.range 3).foldl (fun m t => m + addrMask (32 + 16 * t) + byteMask (40 + 16 * t) 4) 0 + byteMask 80 24
  else if ty == tyJig then
    let nodes := fld (r.u 16 2) 0 13
    let specs := fld (r.u 18 2) 0 14
    bitMask 16 0 13 + bitMask 18 0 14 + byteMask 20 2
      + (List.range nodes).foldl (fun m k => m + bitMask (80 + 32 * k) 0 232) 0
      + (List.range specs).foldl (fun m k => m + bitMask (80 + 32 * nodes + 8 * k) 0 36) 0
  else if ty == tyExchange then
    byteMask 16 1 + byteMask 18 2 + byteMask 20 2 + byteMask 22 2 + addrMask 24 + byteMask 32 (2 * r.u 18 2)
  else if ty == tyCold then byteMask 16 1 + addrMask 24 + byteMask 32 4 + byteMask 36 4 + addrMask 40
  else if ty == tyHandler then
    (List.range ((r.length - 16) / 16)).foldl
      (fun m h => m + bitMask (16 + 16 * h) 0 13 + bitMask (16 + 16 * h) 15 1 + byteMask (20 + 16 * h) 4
        + addrMask (24 + 16 * h)) 0
  else if ty == tySemaphore then
    byteMask 16 1 + byteMask 17 1 + bitMask 18 0 3 + bitMask 19 0 4 + byteMask 20 4 + byteMask 24 4
  else if ty == tyBarrier then byteMask 16 1 + byteMask 17 1 + bitMask 18 0 2 + byteMask 20 2
  else if ty == tySyncRef then bitMask 16 0 15 + byteMask 18 1 + byteMask 20 2
  else if ty == tyChannel then
    bitMask 16 0 2 + byteMask 17 1 + byteMask 18 2 + bitMask 20 0 3 + byteMask 21 1 + bitMask 22 0 15 + byteMask 24 2
      + byteMask 26 2 + addrMask 32 + addrMask 40 + byteMask 48 64 + byteMask 112 8
  else if ty == tyQueue then
    byteMask 16 1 + byteMask 17 1 + bitMask 18 0 3 + byteMask 19 1 + bitMask 20 0 10 + bitMask 22 0 10 + byteMask 24 4
      + addrMask 32
  else if ty == tyReduce then
    byteMask 16 2 + byteMask 18 1 + byteMask 19 1 + byteMask 20 1 + byteMask 21 1 + byteMask 22 1 + byteMask 23 1
      + byteMask 24 2 + byteMask 26 2 + byteMask 28 2 + byteMask 30 1 + byteMask 32 2 + addrMask 40
      + byteMask 64 (2 * r.u 16 2)
  else if ty == tyReshape then byteMask 16 8
  else if ty == tyData then addrMask 16 + byteMask 32 (r.length - 32)
  else byteMask 16 (r.length - 16)

/-- The lowest set byte of a number that is not 0. -/
def lowestByte (v n : Nat) : Nat := ((List.range n).find? (fun k => fld v (8 * k) 8 != 0)).getD 0

/-- Which scopes a type may have: 0 all, 1 instance, 2 either (11 R428). -/
def scopeKind (ty : Nat) : Nat :=
  if ty == tyJig || ty == tyData || ty == tyDebug then 2
  else if ty == tyHeader || ty == tyQos || ty == tyPartition || ty == tyContext || ty == tyDet || ty == tyPolicy
      || ty == tyServe || ty == tyHostq || ty == tyCost || ty == tyPageFormat || ty == tyReduce || ty == tyReshape then 0
  else 1

/-- Types that only an instance with a leaf function has (11 R428). -/
def leafOnly (ty : Nat) : Bool :=
  ty == tyEngineMap || ty == tyCensus || ty == tyVgroup || ty == tyScratch || ty == tySpill

/-- The keys that a type has: key0, key1 below these limits (11 R428). A key that a type has not is 0. -/
def keyLimits (ty : Nat) : Nat × Nat :=
  if ty == tyCredit then (9, 1)
  else if ty == tyVgroup then (4096, 1)
  else if ty == tyPartition || ty == tyAlloc || ty == tyDet || ty == tyPolicy || ty == tyServe || ty == tyHostq then (64, 1)
  else if ty == tyContext || ty == tySpill || ty == tyCost || ty == tyHandler then (64, 32)
  else if ty == tyPageFormat then (64, 4)
  else if ty == tyJig then (8192, 64)
  else if ty == tyExchange then (255, 1)
  else if ty == tyCold then (64, 2048)
  else if ty == tySemaphore || ty == tyBarrier || ty == tyMask || ty == tySyncRef || ty == tyChannel || ty == tyQueue then
    (0x10000, 1)
  else if ty == tyReduce then (256, 1)
  else if ty == tyData then (64, 2 ^ 32)
  else if ty == tyDebug then (0x10000, 2 ^ 32)
  else (1, 1)

/-- A path code is well formed: at most four digits, and none beyond the depth. -/
def goodCode (code : Nat) : Bool := decide (fld code 0 3 ≤ 4) && pathCode (codePath code) == code

/-- A party of a queue: a virtual engine, a core 0 to 255, or host software (11 R441, 02 R85). -/
def goodParty (v : Nat) : Bool := decide (v < 768) || v == 1023

/-- The ranges of field values that chapter 11 gives. -/
def Rec.ranges (r : Rec) : List Check :=
  let ty := r.type
  let inside (lo hi v : Nat) : Bool := decide (lo ≤ v) && decide (v ≤ hi)
  if ty == tyHeader then
    [(r.u 16 4 == 0x4B524C42, 16), (r.u 20 2 == 3, 20), (r.u 26 2 == 3 && decide (r.u 24 2 ≤ 1), 24)
    , (inside 100 2400 (r.u 40 2), 40)]
  else if ty == tyTreeRole then
    [(inside 1 3 (r.u 16 1), 16), (!(r.u 16 1 == 3 && bit (r.u 18 1) 0), 18), (r.u 24 8 % 0x100000 == 0, 24)
    , (r.u 32 8 % 0x100000 == 0 && (r.u 32 8 == 0 || decide (0x1000000 ≤ r.u 32 8)), 32), (r.u 40 8 % 4096 == 0, 40)
    , (r.u 72 8 % 4096 == 0, 72)]
  else if ty == tyPartition then
    [(goodCode (r.u 16 2), 16), (inside 50 100000 (r.u 20 4), 20), (r.u 24 4 == 0 || inside 10 10000 (r.u 24 4), 24)]
      ++ (List.range 8).map (fun k => (decide (r.u (32 + k) 1 ≤ 7), 32 + k))
  else if ty == tyAlloc then [(r.u 88 8 % 4096 == 0, 88), (r.u 108 4 % 64 == 0, 108)]
  else if ty == tyScratch then
    [(r.u 16 2 == 4096 || r.u 16 2 == 8192, 16), (inside 256 8192 (r.u 18 2), 18)]
  else if ty == tyServe then
    [(inside 2 16 (r.u 50 1), 50), (inside 1 16 (r.u 51 1), 51), (inside 1 65536 (r.u 52 4), 52)]
  else if ty == tyHostq then [(inside 6 20 (r.u 24 1), 24), (inside 6 20 (r.u 40 1), 40)]
  else if ty == tyPageFormat then [(r.u 16 2 == 64 || r.u 16 2 == 128 || r.u 16 2 == 256, 16)]
  else if ty == tySyncRef then [(goodCode (r.u 16 2), 16), (decide (r.u 18 1 ≤ 1), 18)]
  else if ty == tyJig then [(inside 1 4096 (fld (r.u 16 2) 0 13), 16)]
  else if ty == tyQueue then [(goodParty (r.u 20 2), 20), (goodParty (r.u 22 2), 22)]
  else if ty == tyReduce then [(decide (r.u 19 1 ≤ 1), 19)]
  else []

/-- The checks of stage 1 on one record: length, scope, keys, reserved bits and ranges. `codes` are the paths of the
TREE_ROLE records, `leaves` those with a leaf function. -/
def Placed.formatChecks (codes leaves : List Nat) (p : Placed) : List Check :=
  let r := p.r
  let (k0, k1) := keyLimits r.type
  let spare := r.bits / 2 ^ 128 * 2 ^ 128
  let extra := spare - (spare &&& r.usedBits)
  let code := fld r.scope 0 15
  let all := bit r.scope 15
  [ (fld r.bits 16 16 == 0, 2), (r.rightLength == some r.length, 4)
  , (if all then code == 0 && scopeKind r.type != 1 else codes.contains code && scopeKind r.type != 0, 8)
  , (all || !leafOnly r.type || leaves.contains code, 8)
  , (decide (r.key0 < k0) || (r.type == tyData && r.key0 == 0xFFFF), 10), (decide (r.key1 < k1) || (r.type == tyJig && r.key1 == 0xFFFF), 12)
  , (extra == 0, if extra == 0 then 0 else lowestByte extra r.length) ] ++ r.ranges

/-- Stage 1 over the records (11 R447, R443). -/
def formatBad (len : Nat) (ps : List Placed) : Option Rejection :=
  let roles := ps.filter (fun p => p.r.type == tyTreeRole)
  let codes := roles.map (fun p => fld p.r.scope 0 15)
  let leaves := (roles.filter (fun p => p.r.u 16 1 != 2)).map (fun p => fld p.r.scope 0 15)
  match ps with
  | [] => some { fault := fltImageFormat }
  | h :: t =>
    let first := h.firstBad fltImageFormat
      [(h.r.type == tyHeader, 0), (h.r.u 28 4 == ps.length, 28), (h.r.u 32 4 == len, 32)]
    let disorder := ((t.zip (t.drop 1)).find? (fun e => !decide (e.1.r.sortKey < e.2.r.sortKey))).map
      (fun e => ({ fault := fltImageFormat, idx := e.2.idx, off := e.2.off } : Rejection))
    let twice := (((t.filter (fun p => p.r.type == tyReshape)).drop 1).head?).map
      (fun p => ({ fault := fltImageFormat, idx := p.idx, off := p.off } : Rejection))
    let header := (t.find? (fun p => p.r.type == tyHeader)).map
      (fun p => ({ fault := fltImageFormat, idx := p.idx, off := p.off } : Rejection))
    first.or (disorder.or (header.or ((ps.findSome? (fun p =>
      p.firstBad fltImageFormat (p.formatChecks codes leaves))).or twice)))

/-! ### Stage 2: digests (11 R444) -/

/-- The bits of a record that the image digest leaves out: the digests of the HEADER, the physical ports of ENGINE_MAP and
the bitmap of CENSUS. -/
def Rec.censusBits (r : Rec) : Nat :=
  if r.type == tyEngineMap then (List.range 512).foldl (fun m v => m + bitMask (16 + 4 * v) 0 9) 0
  else if r.type == tyCensus then byteMask 16 64
  else 0

def Rec.digestBits (r : Rec) : Nat :=
  let out := if r.type == tyHeader then byteMask 48 64 else r.censusBits
  r.bits - (r.bits &&& out)

/-- image_digest of an image (11 R444). -/
def imageDigest (ps : List Placed) : Nat :=
  sha256 (ps.foldl (fun b p => blobCat b ⟨p.r.length, p.r.digestBits⟩) ⟨0, 0⟩)

/-- census_digest of an image (11 R444). -/
def censusDigest (ps : List Placed) : Nat :=
  sha256 ((ps.filter (fun p => p.r.type == tyEngineMap || p.r.type == tyCensus)).foldl
    (fun b p => blobCat b ⟨p.r.length, p.r.bits &&& p.r.censusBits⟩) ⟨0, 0⟩)

/-- Stage 2 (11 R447). -/
def digestBad (ps : List Placed) : Option Rejection :=
  match ps with
  | [] => none
  | h :: _ => h.firstBad fltImageDigest [(h.r.u 48 32 == imageDigest ps, 48), (h.r.u 80 32 == censusDigest ps, 80)]

/-! ### Stage 3: role (11 R447, 01 R21) -/

/-- The role is one that the build's functions support (01 R21). -/
def State.supports (s : State) (role : Nat) : Bool :=
  match role with
  | 1 => s.build != .node
  | 2 => s.hasNodeFn
  | 3 => s.hasNodeFn && s.build != .node
  | _ => false

def State.roleBad (s : State) (ps : List Placed) : Option Rejection :=
  match ps.find? (fun p => p.r.type == tyTreeRole && fld p.r.scope 0 15 == pathCode s.place) with
  | none => some { fault := fltImageRole }
  | some p => p.firstBad fltImageRole [(s.supports (p.r.u 16 1), 16)]

/-! ### Stage 4: build (11 R447) -/

/-- The types whose key0 is a partition (11 R457). -/
def partKeyed (ty : Nat) : Bool :=
  ty == tyPartition || ty == tyAlloc || ty == tyContext || ty == tySpill || ty == tyDet || ty == tyPolicy || ty == tyServe
    || ty == tyHostq || ty == tyCost || ty == tyPageFormat || ty == tyCold || ty == tyHandler

/-- Indices, counts and bitmaps of one kept record within the build parameters (01 R44). -/
def State.buildChecks (s : State) (r : Rec) : List Check :=
  let b := s.build
  let ty := r.type
  let part (lo : Nat) : Check := (decide (r.u lo 1 < b.partitions), lo)
  let ctx (lo : Nat) : Check := (decide (r.u lo 1 < b.contexts), lo)
  (if partKeyed ty then [(decide (r.key0 < b.partitions), 10)] else [])
    ++ (if ty == tyContext || ty == tySpill || ty == tyCost || ty == tyHandler then
          [(decide (r.key1 < b.contexts), 12)] else [])
    ++ (if ty == tyTreeRole then
          [(!bit (r.u 17 1) 0 || b.parentPorts == 1, 17), (r.u 18 1 == 0 || s.childPorts == 8, 18)]
        else if ty == tyCredit then [(s.hasPort r.key0, 10)]
        else if ty == tyEngineMap then
          (List.range 512).map (fun v =>
            let e := r.u (16 + 4 * v) 4
            (bit e 9 || decide (fld e 0 9 < b.enginePorts), 16 + 4 * v))
        else if ty == tyCensus then [(decide (r.u 16 64 < 2 ^ b.enginePorts), 16)]
        else if ty == tyAlloc then
          [(b.enginePorts != 0 || r.u 16 64 == 0, 16), (r.u 80 1 == 0 || s.childPorts == 8, 80)]
        else if ty == tyJig then
          [(decide (r.key0 < b.jigSlots), 10), (r.key1 == 0xFFFF || decide (r.key1 < b.partitions), 12), (decide (fld (r.u 16 2) 0 13 ≤ b.jigNodesMax), 16)]
        else if ty == tyExchange then [part 16, (decide (r.u 22 2 < b.channels), 22)]
        else if ty == tyHandler then
          (decide ((r.length - 16) / 16 ≤ b.handlers), 4) :: (List.range ((r.length - 16) / 16)).map (fun h =>
            (!bit (r.u (16 + 16 * h) 2) 15 || decide (fld (r.u (16 + 16 * h) 2) 0 13 < b.jigSlots), 16 + 16 * h))
        else if ty == tyCost then [(decide (r.u 16 2 < b.jigSlots), 16)]
        else if ty == tyDet then
          (List.range (r.u 32 2)).map (fun i =>
            let e := r.u (48 + 4 * i) 4
            (decide (fld e 0 13 < b.jigSlots) && decide (fld e 13 12 < b.jigNodesMax), 48 + 4 * i))
        else if ty == tyScratch then
          (List.range 256).map (fun c => (r.u (32 + 2 * c) 2 == 0xFFFF || decide (r.u (32 + 2 * c) 2 < 512), 32 + 2 * c))
        else if ty == tyData then [(r.key0 == 0xFFFF || decide (r.key0 < b.partitions), 10)]
        else if ty == tyReshape then [(decide (r.u 16 8 < 2 ^ b.partitions), 16)]
        else if ty == tySemaphore then [(decide (r.key0 < b.semaphores), 10), part 16, ctx 17]
        else if ty == tyBarrier then
          [(decide (r.key0 < b.barriers), 10), part 16, ctx 17, (decide (r.u 20 2 < b.maskCount), 20)]
        else if ty == tyMask then
          [(decide (r.key0 < b.maskCount), 10), (decide (r.u 16 64 < 2 ^ b.maskBits), 16)]
        else if ty == tyChannel then
          [(decide (r.key0 < b.channels), 10), part 17, ctx 18, ctx 19
          , (r.u 26 2 == 0xFFFF || decide (r.u 26 2 < b.semaphores), 26)]
        else if ty == tyQueue then [(decide (r.key0 < b.queues), 10), part 16, ctx 17]
        else if ty == tyReduce then [part 18]
        else [])

/-- Stage 4 over the records this instance keeps (11 R447). -/
def State.buildBad (s : State) (ps : List Placed) : Option Rejection :=
  (ps.filter (fun p => p.r.keptBy (pathCode s.place))).findSome? (fun p => p.firstBad fltImageBuild (s.buildChecks p.r))

/-! ### Stage 5: window (11 R447, 01 R46, 08 R581) -/

/-- A span of memory that a record names: first byte, length, byte offset of the field, and whether it may overlap no other. -/
structure Span where
  lo   : Nat := 0
  len  : Nat := 0
  off  : Nat := 0
  sole : Bool := false
deriving DecidableEq, Repr, Inhabited

/-- A field of a record of a given list. -/
def recField (rs : List Rec) (code ty k0 k1 lo n : Nat) : Nat :=
  match findRec rs code ty k0 k1 with
  | some r => r.u lo n
  | none => 0

/-- Size of the step blocks of a SERVE record: Q blocks (04 R188). -/
def stepBlockBytes (r : Rec) : Nat := r.u 50 1 * (ceilDiv (0x2840 + 64 * r.u 52 4) 4096 * 4096)

/-- Bytes of a jig body in the jig table, rounded to granules. -/
def bodyBytes (r : Rec) : Nat := ceilDiv (r.length - 16) 64 * 64

/-- The jig table: a directory entry for each jig slot of the build, and the bodies behind it (03 R119; log entry 41). -/
def State.jigTableBytes (s : State) (rs : List Rec) (code : Nat) : Nat :=
  16 * s.build.jigSlots
    + (rs.filter (fun r => r.type == tyJig && r.keptBy code)).foldl (fun n r => n + bodyBytes r) 0

/-- Bytes of the command areas that a launch of a jig slot takes: 256 for each instance that an engine or mover node can have
(02 R51; 03 R127, R143). A slot without a jig here counts as one byte. -/
def cmdAreaBytes (rs : List Rec) (code slot : Nat) : Nat :=
  match rs.find? (fun r => r.type == tyJig && r.key0 == slot && r.keptBy code) with
  | none => 1
  | some r =>
    let b : Blob := ⟨r.length - 16, r.bits / 2 ^ 128⟩
    let areas (n : Node) : Nat :=
      if n.kind == 0 then n.cmdOffset + (if n.countKind == 0 then n.countValue else n.countMax)
      else if n.kind == 2 then n.cmdOffset + recField rs code tyExchange (jigExchange b n) 0 18 2
      else 0
    max 1 (256 * ((jigNodes b).foldl (fun m n => max m (areas n)) 0))

/-- The spans of one kept record. A base of 0 in a field that may be unused names nothing: also in the serve region's in a build
without a bed port, whose block store is smaller than one (log entry 42). The cold area lies in HBM (03 R154) and not in bed memory. A reduction area
of a partition with a reduction group has a fault of its own at stage 6 (09 R374). -/
def State.spansOf (s : State) (rs : List Rec) (code : Nat) (r : Rec) : List Span :=
  let ty := r.type
  let u := fun lo => fld (r.u lo 8) 0 52
  let home (p : Nat) : Bool := fld (recField rs code tyPartition p 0 16 2) 0 15 == code
  let works (p : Nat) : Bool := (findRec rs code tyAlloc p 0).isSome
  let opt (a n off : Nat) (sole : Bool) : List Span := if a == 0 then [] else [⟨a, n, off, sole⟩]
  if ty == tyTreeRole then
    (if s.hasBed then [⟨u 40, 32 * s.build.taskSlots, 40, true⟩] else [])
      ++ [⟨u 48, 64 * r.u 56 4, 48, true⟩, ⟨u 64, s.jigTableBytes rs code, 64, true⟩, ⟨u 72, 4096, 72, true⟩]
  else if ty == tyAlloc then
    let streams := if home r.key0 then recField rs code tyServe r.key0 0 20 4 else 0
    let grouped := rs.any (fun x => x.type == tyReduce && x.u 18 1 == r.key0)
    (if s.hasBed then [⟨u 88, 0x104000 + 128 * streams, 88, true⟩] else opt (u 88) (0x104000 + 128 * streams) 88 true)
      ++ (if grouped then [] else opt (u 112) 0x1100000 112 false)
  else if ty == tyContext then if works r.key0 then opt (u 32) 32 32 false else []
  else if ty == tyDet then
    let groups := (rs.filter (fun x => x.type == tyReduce && x.u 18 1 == r.key0)).map (·.key0)
    if home r.key0 then opt (u 24) (1152 * (groups.foldl (fun m g => max m (g + 1)) 0)) 24 false else []
  else if ty == tyServe then
    if home r.key0 then
      [⟨u 24, 64 * r.u 20 4, 24, false⟩, ⟨u 40, 16 * r.u 36 4, 40, false⟩, ⟨u 72, stepBlockBytes r, 72, true⟩]
    else []
  else if ty == tyHostq then
    if home r.key0 then [⟨u 16, 64 * 2 ^ r.u 24 1, 16, false⟩, ⟨u 32, 64 * 2 ^ r.u 40 1, 32, false⟩] else []
  else if ty == tyCost then if home r.key0 then opt (u 24) (cmdAreaBytes rs code (r.u 16 2)) 24 false else []
  else if ty == tyExchange then [⟨u 24, 128 * r.u 18 2, 24, false⟩]
  else if ty == tyCold then [⟨u 40, 256, 40, false⟩]
  else if ty == tyHandler then
    (List.range ((r.length - 16) / 16)).flatMap (fun h =>
      let e := r.u (16 + 16 * h) 2
      if bit e 15 then opt (u (24 + 16 * h)) (cmdAreaBytes rs code (fld e 0 13)) (24 + 16 * h) false else [])
  else if ty == tyChannel then if bit (r.u 16 1) 0 then [⟨u 32, 512, 32, false⟩] else []
  else if ty == tyReduce then if r.u 19 1 == 1 && works (r.u 18 1) then [⟨u 40, 32, 40, false⟩] else []
  else if ty == tyData then [⟨u 16, r.length - 32, 16, true⟩]
  else []

/-- The bed window that a TREE_ROLE record gives (11 R431, 01 R46). -/
def State.windowOf (s : State) (r : Rec) : Nat × Nat :=
  if s.hasBed then
    let n := fld (r.u 32 8) 0 52
    (fld (r.u 24 8) 0 52, if n == 0 then 0x10000000 else n)
  else (0, 0x10000)

/-- The first of a list of exclusive spans that meets an earlier one. -/
def firstOverlap : List (Placed × Span) → List (Placed × Span) → Option (Placed × Span)
  | _, [] => none
  | seen, x :: rest =>
    if seen.any (fun y => spansMeet x.2.lo x.2.len y.2.lo y.2.len) then some x else firstOverlap (seen ++ [x]) rest

/-- Stage 5 (11 R447, 01 R46, 08 R581). -/
def State.windowBad (s : State) (ps : List Placed) : Option Rejection :=
  let code := pathCode s.place
  let kept := ps.filter (fun p => p.r.keptBy code)
  let rs := kept.map (·.r)
  match kept.find? (fun p => p.r.type == tyTreeRole) with
  | none => none
  | some t =>
    let (base, size) := s.windowOf t.r
    let store := t.firstBad fltImageWindow
      [(s.hasBed || fld (t.r.u 24 8) 0 52 == 0, 24), (s.hasBed || fld (t.r.u 32 8) 0 52 == 0, 32)]
    let spans := kept.flatMap (fun p => (s.spansOf rs code p.r).map (fun x => (p, x)))
    let outside := (spans.find? (fun e => 0 < e.2.len && !(decide (base ≤ e.2.lo) && decide (e.2.lo + e.2.len ≤ base + size))))
    let met := firstOverlap [] (spans.filter (fun e => e.2.sole))
    let pools := kept.filter (fun p => p.r.type == tyAlloc)
    let exceeded := (List.range pools.length).find? (fun k =>
      decide (t.r.u 56 4 - 1 < ((pools.take (k + 1)).foldl (fun n p => n + p.r.u 84 4) 0)))
    let bad (e : Placed × Span) : Rejection := { fault := fltImageWindow, idx := e.1.idx, off := e.1.off + e.2.off }
    store.or ((outside.map bad).or ((met.map bad).or ((exceeded.bind (fun k => pools[k]?)).map
      (fun p => { fault := fltImageWindow, idx := p.idx, off := p.off + 84 }))))

end Sys2Proof.Machine
end

