-- ==== Sys2Proof/Machine/ImageRules.lean ====
section
/-!
DEFINITION. Stages 6 to 8 of image validation: the rules of the owning chapters, the task length bound and the knot
(11 R448, R449; 07 R313).
-/
namespace Sys2Proof.Machine

/-- The image as the rules see it: every record with its place, the records alone, and the task length bound in fc
(11 R449). -/
structure Img where
  ps : List Placed := []
  rs : List Rec := []
  bf : Nat := 0

def Img.ofType (m : Img) (ty : Nat) : List Placed := m.ps.filter (fun p => p.r.type == ty)

/-- Reject at a byte of a record. -/
def Placed.reject (p : Placed) (fault off : Nat) : Rejection := { fault := fault, idx := p.idx, off := p.off + off }

/-- The instance code of a record whose scope names an instance. -/
def Rec.code (r : Rec) : Nat := fld r.scope 0 15

/-- The codes of all instances, and of those with a leaf function. -/
def Img.codes (m : Img) : List Nat := (m.ofType tyTreeRole).map (·.r.code)
def Img.leaves (m : Img) : List Nat := ((m.ofType tyTreeRole).filter (fun p => p.r.u 16 1 != 2)).map (·.r.code)

/-- Greatest depth of a leaf, 0 for a tree of one instance (01 R30): a combined instance's own leaf function lies one
below it. -/
def Img.depth (m : Img) : Nat :=
  if (m.ofType tyTreeRole).length ≤ 1 then 0
  else (m.ofType tyTreeRole).foldl (fun d p =>
    max d (match p.r.u 16 1 with
      | 1 => fld p.r.scope 0 3
      | 3 => fld p.r.scope 0 3 + 1
      | _ => 0)) 0

/-- The instance with the leaf function of a leaf index (01 R30). -/
def Img.leafCode (m : Img) (leaf : Nat) : Option Nat := m.leaves.find? (fun c => leafIndexOf (codePath c) m.depth == leaf)

/-- An entry of an instance's engine class map: port, class, core (11 R433). -/
def Img.engine (m : Img) (code v : Nat) : Option (Nat × Nat × Nat) :=
  match findRec m.rs code tyEngineMap 0 0 with
  | none => none
  | some r =>
    let e := r.u (16 + 4 * v) 4
    if v < 512 && !bit e 9 then some (fld e 0 9, fld e 10 3, fld e 13 8) else none

/-- A field of a record kept by an instance. -/
def Img.field (m : Img) (code ty k0 k1 lo n : Nat) : Nat := recField m.rs code ty k0 k1 lo n

/-- The virtual engines of an allocation. -/
def Img.alloc (m : Img) (code p : Nat) : Nat := m.field code tyAlloc p 0 16 64

/-- The same for a jig of a partition, or for one that every partition shares. -/
def Img.allocOf (m : Img) (code p : Nat) : Nat :=
  if p == 0xFFFF then
    ((m.rs.filter (fun r => r.type == tyAlloc && fld r.scope 0 15 == code)).map (fun r => r.u 16 64)).foldl (· ||| ·) 0
  else m.alloc code p

/-- The mapped virtual engines of a vgroup for a class, at an instance and for a partition; 0xFFFF in a shared jig takes
every mapped engine of the class (02 R86). -/
def Img.groupEngines (m : Img) (code vg p : Nat) (cls : Option Nat) : List Nat :=
  (List.range 512).filter (fun v =>
    (match m.engine code v with
      | some (_, k, _) => cls.all (· == k)
      | none => false) &&
    (if vg == 0xFFFF then p == 0xFFFF || bit (m.alloc code p) v else bit (m.field code tyVgroup vg 0 16 64) v))

/-- The role that the image gives an instance (11 R431). -/
def Img.role (m : Img) (code : Nat) : Nat := m.field code tyTreeRole 0 0 16 1

/-- The tasks of a vgroup and class go to engines of the instance itself, and not to its children (01, roles; log entry 15). -/
def Img.ownTask (m : Img) (code p vg cls : Nat) : Bool :=
  m.role code == 1 ||
    (m.role code == 3 &&
      ownEngines (findRec m.rs code tyEngineMap 0 0) (findRec m.rs code tyVgroup vg 0) (m.allocOf code p) vg cls)

/-- The bed window of an instance, by its TREE_ROLE (11 R431). -/
def Img.inWindow (m : Img) (s : State) (code a n : Nat) : Bool :=
  match findRec m.rs code tyTreeRole 0 0 with
  | none => false
  | some r =>
    let (base, size) := s.windowOf r
    decide (base ≤ a) && decide (a + n ≤ base + size)

/-- The jig body of a JIG record. -/
def Rec.body (r : Rec) : Blob := ⟨r.length - 16, r.bits / 2 ^ 128⟩

/-- Byte offset of node `k` in a JIG record. -/
def nodeOff (k : Nat) : Nat := 80 + 32 * k

/-- The first element that fails, turned into a rejection. -/
def firstReject {α : Type} (l : List α) (bad : α → Option Rejection) : Option Rejection := l.findSome? bad

/-! ### Rows of 11 R448 -/

/-- 02 R85: no two entries name one port, and each mapped entry names a usable port of CENSUS. -/
def Img.badMap (m : Img) : Option Rejection :=
  firstReject (m.ofType tyEngineMap) (fun p =>
    let census := m.field p.r.code tyCensus 0 0 16 64
    ((List.range 512).find? (fun v =>
      match m.engine p.r.code v with
      | none => false
      | some (q, _, _) =>
        !bit census q || (List.range v).any (fun w => (m.engine p.r.code w).any (fun e => e.1 == q)))).map
      (fun v => p.reject fltImageMap (16 + 4 * v)))

/-- The digits that two paths share from the root down. -/
def commonPath : List Nat → List Nat → List Nat
  | a :: x, b :: y => if a == b then a :: commonPath x y else []
  | _, _ => []

/-- 01 R33: the home is the deepest instance above every leaf at which the partition has engines (log entry 43). A
partition without engines may be homed anywhere. -/
def Img.badHome (m : Img) : Option Rejection :=
  firstReject (m.ofType tyPartition) (fun p =>
    let at' := ((m.ofType tyAlloc).filter (fun a => a.r.key0 == p.r.key0 && a.r.u 16 64 != 0)).map (fun a => codePath a.r.code)
    match at' with
    | [] => none
    | x :: t => if pathCode (t.foldl commonPath x) == fld (p.r.u 16 2) 0 15 then none else some (p.reject fltImageHome 16))

/-- 08 R332: at one leaf the allocations are disjoint, and the engines of one core belong to one partition or to none. -/
def Img.badPartition (m : Img) : Option Rejection :=
  let allocs := m.ofType tyAlloc
  firstReject allocs (fun p =>
    let code := p.r.code
    let earlier := allocs.filter (fun a => a.idx < p.idx && a.r.code == code)
    let mine := bitsSet (p.r.u 16 64) 512
    let core (v : Nat) : Option Nat := (m.engine code v).map (·.2.2)
    (mine.find? (fun v =>
      earlier.any (fun a => bit (a.r.u 16 64) v) ||
        (core v).any (fun c => (List.range 512).any (fun w =>
          core w == some c && !bit (p.r.u 16 64) w)))).map
      (fun v => p.reject fltImagePartition (16 + v / 8)))

/-- An instance lies on the far side of a port of another. -/
def farSide (own : List Nat) (port : Nat) (path : List Nat) : Bool :=
  if port == 0 then !under own path else under (own ++ [port - 1]) path

/-- The classes on which a partition's messages arrive at a port, by the records that make them (08 R354, 12 R519): control
for the intake of a home below the root and for the answers of its channels and exchanges, signal for its events, data for
messages, headers and remote requests, reduce for its groups. Only REDUCE crosses the root's bridge port (12 R518). -/
def Img.usesClass (m : Img) (own : List Nat) (port p cls : Nat) : Bool :=
  let far (code : Nat) : Bool := farSide own port (codePath code)
  let near (code : Nat) : Bool := !far code
  let home := fld (m.field (pathCode own) tyPartition p 0 16 2) 0 15
  let sends := (m.ofType tyChannel).filter (fun c => c.r.u 17 1 == p && bit (c.r.u 16 1) 0)
  let members (r : Rec) (n lo : Nat) : List Nat := (List.range n).filterMap (fun i => m.leafCode (r.u (lo + 2 * i) 2))
  let exchanges := (m.ofType tyExchange).any (fun e =>
    e.r.u 16 1 == p && near e.r.code && (members e.r (e.r.u 18 2) 32).any far)
  match cls with
  | 0 => sends.any (fun c => near c.r.code && far (fld (c.r.u 22 2) 0 15)) || exchanges ||
      (port == 0 && !own.isEmpty && near home && (m.ofType tyServe).any (fun v => v.r.key0 == p))
  | 1 => near home && (m.ofType tyAlloc).any (fun a => a.r.key0 == p && far a.r.code)
  | 2 =>
    sends.any (fun c => far c.r.code && near (fld (c.r.u 22 2) 0 15)) || exchanges ||
      (m.ofType tySyncRef).any (fun x =>
        far x.r.code && near (fld (x.r.u 16 2) 0 15) &&
          m.field (fld (x.r.u 16 2) 0 15) (if x.r.u 18 1 == 0 then tySemaphore else tyBarrier) (x.r.u 20 2) 0 16 1 == p)
  | _ =>
    (m.ofType tyReduce).any (fun g =>
      let ms := members g.r (g.r.u 16 2) 64
      g.r.u 18 1 == p && ((ms.any far && ms.any near) || (1 < g.r.u 20 1 && ms.any near && port == 0)
        || (1 < g.r.u 20 1 && ms.any far && port != 0)))

/-- 08 R354: a port's credits stay within its buffer, and every partition has two on a class that it uses and a task credit
where it is delegated to. -/
def Img.badCredit (m : Img) : Option Rejection :=
  firstReject (m.ofType tyCredit) (fun c =>
    let r := c.r
    let own := codePath r.code
    let port := r.key0
    let total := (List.range 4).foldl (fun n k => n + r.u (16 + 2 * k) 2) 0
      + (List.range 64).foldl (fun n p =>
          n + r.u (24 + 8 * p) 1 + r.u (25 + 8 * p) 1 + r.u (26 + 8 * p) 2 + r.u (28 + 8 * p) 2 + r.u (30 + 8 * p) 2) 0
    if 1024 < total then some (c.reject fltImageCredit 16)
    else
      firstReject (m.ofType tyPartition) (fun q =>
        let p := q.r.key0
        let b := 24 + 8 * p
        let short (cls n : Nat) : Bool := m.usesClass own port p cls && decide (n < 2)
        let delegated := port == 0 && bit (m.field (pathCode own.dropLast) tyAlloc p 0 80 1) (own.getLast?.getD 0)
          && !own.isEmpty
        if delegated && r.u (b + 1) 1 == 0 then some (c.reject fltImageCredit (b + 1))
        else if short 0 (r.u b 1) then some (c.reject fltImageCredit b)
        else if short 1 (r.u (b + 2) 2) then some (c.reject fltImageCredit (b + 2))
        else if short 2 (r.u (b + 4) 2) then some (c.reject fltImageCredit (b + 4))
        else if short 3 (r.u (b + 6) 2) then some (c.reject fltImageCredit (b + 6))
        else none))

/-- 08 R344: guarantees, borrow limits, spill areas and the cost of a spill. -/
def Img.badScratch (m : Img) (s : State) : Option Rejection :=
  let ctxs := m.ofType tyContext
  let guar (r : Rec) : Nat × Nat := (r.u 20 2, r.u 22 2)
  let onCtx (p : Placed) : Option Rejection :=
    let r := p.r
    let attrs := r.u 16 1
    let overlap := ctxs.any (fun q => q.idx < p.idx && q.r.key0 == r.key0 && spansMeet (guar r).1 (guar r).2 (guar q.r).1 (guar q.r).2)
    let leaves := (m.ofType tyAlloc).filter (fun a => a.r.key0 == r.key0 && a.r.u 16 64 != 0)
    let inSpill := leaves.all (fun a =>
      let base := m.field a.r.code tyScratch 0 0 20 2
      let n := m.field a.r.code tyScratch 0 0 22 2
      decide (base ≤ (guar r).1) && decide ((guar r).1 + (guar r).2 ≤ base + n))
    if overlap then some (p.reject fltImageScratch 20)
    else if !bit attrs 3 && (guar r).2 != 0 && !inSpill then some (p.reject fltImageScratch 20)
    else if r.u 24 2 != 0 && !bit attrs 4 then some (p.reject fltImageScratch 24)
    else none
  let onSpill (p : Placed) : Option Rejection :=
    let code := p.r.code
    let engines := bitsSet (m.alloc code p.r.key0) 512
    let cores := (engines.filterMap (fun v => (m.engine code v).map (·.2.2))).foldl (fun n c => max n (c + 1)) 0
    let bytes := cores * m.field code tyScratch 0 0 22 2 * m.field code tyScratch 0 0 16 2
    if m.inWindow s code (fld (p.r.u 16 8) 0 52) bytes then none else some (p.reject fltImageScratch 16)
  let onLeaf (p : Placed) : Option Rejection :=
    if m.bf < p.r.u 22 2 * p.r.u 24 4 then some (p.reject fltImageScratch 24) else none
  (firstReject ctxs onCtx).or ((firstReject (m.ofType tyScratch) onLeaf).or (firstReject (m.ofType tySpill) onSpill))

/-- The edge specs of a jig lead from each node to later ones only, in some order: no cycle (03 R123). Nodes whose targets
are all taken away go first; what is left holds a cycle. -/
def acyclic (n : Nat) (edges : List (Nat × Nat)) : Bool :=
  let rec strip : Nat → List Nat → Bool
    | 0, left => left.isEmpty
    | f + 1, left =>
      let keep := left.filter (fun a => edges.any (fun e => e.1 == a && left.contains e.2))
      if keep.length == left.length then left.isEmpty else strip f keep
  strip (n + 1) (List.range n)

/-- 02 R53, R89, 03 R123, 09 R380 on one jig: byte offset of the first failing field. A count field out of the ranges of 03
R121, a vgroup that 02 R50 reserves, or edge specs past edge_spec_count fail too (DESIGN CHOICE, log entry 59). -/
def Img.badJig (m : Img) (p : Placed) : Option Nat :=
  let b := p.r.body
  let ns := jigNodes b
  let specs := jigSpecs b
  let listed (a : Nat) : Bool := (m.ofType tyDet).any (fun d =>
    (List.range (d.r.u 32 2)).any (fun i =>
      let e := d.r.u (48 + 4 * i) 4
      fld e 0 13 == p.r.key0 && fld e 13 12 == a))
  let badNode (a : Nat) (n : Node) : Bool :=
    let special := n.kind != 0
    badTask (placedNode n) n.costCycles n.escalate n.formatClass
      || (special && (n.gang || n.ordered || n.skip || n.pageWait || n.cold))
      || (n.skip && n.gang)
      || (1 < n.countKind || 20 < n.countShift || n.countMax == 0 || 2 ^ 20 < n.countMax
            || (n.countKind == 1 && decide (65536 ≤ n.countValue)))
      || (!special && decide (0x1000 ≤ n.vgroup) && decide (n.vgroup ≤ 0xFFFA))
      || (n.countKind == 0 && (n.countValue == 0 || decide (n.countMax < n.countValue)))
      || ((n.kind == 2 || n.kind == 3) && (jigExchange b n == 0xFF ||
            !(m.ofType tyExchange).any (fun e => e.r.key0 == jigExchange b n && (bit p.r.scope 15 || e.r.code == p.r.code))))
      || ((n.ordered || listed a) && badOrderKey n.detOffset)
      || (n.edgeNum != 0 && decide (specs.length < n.edgeFirst + n.edgeNum))
      || (specsOf specs n).any (·.target == a)
  let badSpec (e : EdgeSpec) : Bool := decide (4 < e.pattern) || decide (ns.length ≤ e.target)
  let badGroup (g : List Nat) : Bool :=
    let xs := g.filterMap (fun a => ns[a]?)
    !gangOk ns g || (1 < g.length && !xs.all (fun x => xs.all (fun y =>
      x.countKind == y.countKind && x.countShift == y.countShift && x.countValue == y.countValue)))
  let groups := nodeGroups ns
  let badQueue (a : Nat) (n : Node) : Bool :=
    (specsOf specs n).any (fun e => e.pattern == 4 && !groups.any (fun g => 1 < g.length && g.contains a && g.contains e.target))
  let edges := (List.range ns.length).flatMap (fun a =>
    match ns[a]? with
    | some n => (specsOf specs n).map (fun e => (a, e.target))
    | none => [])
  match (List.range ns.length).find? (fun a =>
    match ns[a]? with
    | some n => badNode a n || badQueue a n
    | none => false) with
  | some a => some (nodeOff a)
  | none =>
    match groups.find? (fun g => badGroup g), specs.findIdx? badSpec with
    | some g, _ => some (nodeOff (g.head?.getD 0))
    | none, some k => some (nodeOff ns.length + 8 * k)
    | none, none => if acyclic ns.length edges then none else some (nodeOff ns.length)

/-- The instances that keep a record. -/
def Img.keepers (m : Img) (r : Rec) : List Nat := m.codes.filter (fun c => r.keptBy c)

/-- 02 R87: every vgroup that a task names holds an engine of the task's class: the moves of a page format, at the home or at
the mover leaf (05 R231), the nodes of a jig and the combine tasks of a group (09 R384), wherever the partition has engines
and its tasks are not for children (log entries 15, 44). -/
def Img.badVgroup (m : Img) : Option Rejection :=
  let empty (code vg p cls : Nat) : Bool := (m.groupEngines code vg p (some cls)).isEmpty
  let onFormat (p : Placed) : Option Rejection :=
    let home := fld (m.field 0 tyPartition p.r.key0 0 16 2) 0 15
    let code := if p.r.u 28 2 == 0xFFFF then some home else m.leafCode (p.r.u 28 2)
    if code.any (fun c => m.alloc c p.r.key0 != 0 && empty c (p.r.u 26 2) p.r.key0 2) then
      some (p.reject fltImageVgroup 26)
    else none
  let onJig (p : Placed) : Option Rejection :=
    let own := p.r.key1
    let at' := (m.keepers p.r).filter (fun c =>
      (findRec m.rs c tyEngineMap 0 0).isSome && (own == 0xFFFF || m.alloc c own != 0))
    let children (c : Nat) : Bool := m.role c == 3 && (m.ofType tyAlloc).any (fun a =>
      a.r.code == c && (own == 0xFFFF || a.r.key0 == own) && a.r.u 80 1 != 0)
    let ns := jigNodes p.r.body
    ((List.range ns.length).find? (fun a =>
      match ns[a]? with
      | some n => placedNode n &&
        at'.any (fun c => empty c n.vgroup own (nodeClass n) && (!children c || m.ownTask c own n.vgroup (nodeClass n)))
      | none => false)).map (fun a => p.reject fltImageVgroup (nodeOff a))
  let onGroup (p : Placed) : Option Rejection :=
    if (List.range (p.r.u 16 2)).any (fun i =>
        (m.leafCode (p.r.u (64 + 2 * i) 2)).any (fun c => m.alloc c (p.r.u 18 1) != 0 && empty c (p.r.u 28 2) (p.r.u 18 1) 1))
    then some (p.reject fltImageVgroup 28)
    else none
  (firstReject (m.ofType tyPageFormat) onFormat).or ((firstReject (m.ofType tyJig) onJig).or
    (firstReject (m.ofType tyReduce) onGroup))

/-- 03 R156: no jig names more distinct cold blocks than the cold area holds. -/
def Img.badCold (m : Img) : Option Rejection :=
  firstReject (m.ofType tyJig) (fun p =>
    let ns := jigNodes p.r.body
    let named := dedup ((ns.filter (·.cold)).map (·.coldBlock))
    let owners := (m.ofType tyAlloc).filter (fun a =>
      p.r.keptBy a.r.code && (p.r.key1 == 0xFFFF || p.r.key1 == a.r.key0))
    if named.isEmpty then none
    else if owners.any (fun a => decide (a.r.u 104 4 < named.length)) then
      some (p.reject fltImageCold (nodeOff ((ns.findIdx? (·.cold)).getD 0)))
    else none)

/-- A SERVE record's range overlaps an earlier one, or takes the total of the ranges so far over `top`. -/
def rangeBad (serves : List Placed) (base size : Rec → Nat) (top : Nat) (p : Placed) : Bool :=
  let earlier := serves.filter (fun q => decide (q.idx < p.idx))
  earlier.any (fun q => spansMeet (base p.r) (size p.r) (base q.r) (size q.r))
    || decide (top < earlier.foldl (fun n q => n + size q.r) (size p.r))

/-- 04 R164, R165, record by record. A build without a stream cache or a page ledger has no link port and is a whole tree,
so that R164 can fail at this instance only (01 R44). -/
def Img.badServe (m : Img) (s : State) : Option Rejection :=
  let serves := m.ofType tyServe
  firstReject serves (fun p =>
    if fld (m.field (pathCode s.place) tyPartition p.r.key0 0 16 2) 0 15 == pathCode s.place
        && (s.build.streamCache == 0 || s.build.pageLedger == 0) then some (p.reject fltImageServe 0)
    else if rangeBad serves (fun r => fld (r.u 16 4) 0 20) (fun r => r.u 20 4) 0x100000 p then
      some (p.reject fltImageServe 16)
    else none)

/-- 05 R215 on one page format. Conditions 1 and 2 are judged where the partition has a SERVE record, which gives their
parameters. -/
def Img.badFormat (m : Img) (p : Placed) : Option Rejection :=
  let r := p.r
  let sh := r.u 18 1 + r.u 24 2 + 1
  let frames (t : Nat) : Nat := r.u (40 + 16 * t) 4
  let base (t : Nat) : Nat := fld (r.u (32 + 16 * t) 8) 0 52
  let bytes := r.u 16 2 * r.u 20 4
  let few := ((m.ofType tyServe).find? (fun q => q.r.key0 == r.key0)).any (fun q =>
    decide (frames 0 < q.r.u 52 4 * sh + q.r.u 51 1 * 8192 / r.u 16 2 + 16 * sh)
      || decide (frames 0 + frames 1 + frames 2 < q.r.u 36 4 + 64))
  if few then some (p.reject fltImagePages 40)
  else
    match (List.range 6).find? (fun k => r.u (80 + 4 * k) 4 == 0 || decide (m.bf < r.u (80 + 4 * k) 4)) with
    | some k => some (p.reject fltImagePages (80 + 4 * k))
    | none =>
      ((List.range 3).find? (fun t =>
        (frames t != 0 && base t % 64 != 0) || (decide (1 < frames t) && bytes % 64 != 0) ||
          (List.range t).any (fun u => spansMeet (base t) (frames t * bytes) (base u) (frames u * bytes)))).map
        (fun t => p.reject fltImagePages (32 + 16 * t))

/-- 05 R211, R215. -/
def Img.badPages (m : Img) : Option Rejection :=
  let serves := m.ofType tyServe
  (firstReject serves (fun p =>
    if rangeBad serves (fun r => r.u 32 3) (fun r => r.u 36 4) 0x1000000 p then some (p.reject fltImagePages 32)
    else none)).or (firstReject (m.ofType tyPageFormat) m.badFormat)

/-- 06 R257, R274, 08 R357, record by record. The limit on remote objects is that of the instance's build; another
instance's build is not known here, and no build has more than 256 (01 R44; log entry 94). -/
def Img.badSync (m : Img) (s : State) : Option Rejection :=
  let isObject (r : Rec) : Bool := r.type == tySemaphore || r.type == tyBarrier
  let limit (code : Nat) : Nat := if code == pathCode s.place then s.build.remoteSync else 256
  let before (p : Placed) (f : Rec → Bool) : Nat :=
    (m.ps.filter (fun q => decide (q.idx < p.idx) && q.r.code == p.r.code && f q.r)).length
  let remote (p : Placed) : Bool :=
    bit (p.r.u 18 1) 1 && decide (limit p.r.code ≤ before p (fun r => isObject r && bit (r.u 18 1) 1))
  firstReject m.ps (fun p =>
    let r := p.r
    if r.type == tySemaphore then
      if remote p || (bit (r.u 18 1) 0 && decide (256 ≤ before p (fun x => x.type == tySemaphore && bit (x.u 18 1) 0))) then
        some (p.reject fltImageSync 18)
      else none
    else if r.type == tyBarrier then
      if remote p then some (p.reject fltImageSync 18)
      else if m.field r.code tyMask (r.u 20 2) 0 16 64 == 0 then some (p.reject fltImageSync 20)
      else none
    else if r.type == tySyncRef then
      let ty := if r.u 18 1 == 0 then tySemaphore else tyBarrier
      if bit (m.field (fld (r.u 16 2) 0 15) ty (r.u 20 2) 0 18 1) 1 then none else some (p.reject fltImageSync 20)
    else none)

/-- 07 R286. A sender is given by bitmaps of engines and cores, so host software cannot be one. -/
def Img.badChan (m : Img) (s : State) : Option Rejection :=
  firstReject (m.ofType tyChannel) (fun p =>
    let r := p.r
    let part := r.u 17 1
    let sends := bit (r.u 16 1) 0
    let recvs := bit (r.u 16 1) 1
    let target := findRec m.rs (fld (r.u 22 2) 0 15) tyChannel (r.u 24 2) 0
    let hasCtx (c : Nat) : Bool := m.ps.any (fun q => q.r.type == tyContext && q.r.key0 == part && q.r.key1 == c)
    let noTarget := sends && !target.any (fun t => bit (t.u 16 1) 1)
    let differ := sends && target.any (fun t =>
      t.u 17 1 != part || bit (t.u 20 1) 2 != bit (r.u 20 1) 2 || t.u 21 1 != r.u 21 1)
    let ring := recvs && !m.inWindow s r.code (fld (r.u 40 8) 0 52) (2 ^ r.u 21 1)
    let notify := sends && r.u 26 2 != 0xFFFF &&
      !(findRec m.rs r.code tySemaphore (r.u 26 2) 0).any (fun x => x.u 16 1 == part)
    if noTarget then some (p.reject fltImageChan 24)
    else if differ then some (p.reject fltImageChan 17)
    else if ring then some (p.reject fltImageChan 40)
    else if notify then some (p.reject fltImageChan 26)
    else if sends && !hasCtx (r.u 18 1) then some (p.reject fltImageChan 18)
    else if recvs && !hasCtx (r.u 19 1) then some (p.reject fltImageChan 19)
    else none)

/-- 07 R301. -/
def Img.badQueue (m : Img) (s : State) : Option Rejection :=
  firstReject (m.ofType tyQueue) (fun p =>
    let r := p.r
    let k := r.u 19 1
    let base := fld (r.u 32 8) 0 52
    let top := if r.code == pathCode s.place then s.build.queueBedLog2 else 26
    if base % 64 != 0 then some (p.reject fltImageQueue 32)
    else if k == 0 then none
    else if k < 9 || top < k then some (p.reject fltImageQueue 19)
    else if !m.inWindow s r.code base (8 * 2 ^ k + 2 ^ k / 8) then some (p.reject fltImageQueue 32)
    else none)

/-- 09 R374. -/
def Img.badReduce (m : Img) (s : State) : Option Rejection :=
  let gs := m.ofType tyReduce
  let tags (r : Rec) (t : Nat) : Bool := decide ((t + 4096 - r.u 24 2 % 4096) % 4096 < r.u 26 2)
  firstReject gs (fun p =>
    let r := p.r
    let n := r.u 16 2
    let part := r.u 18 1
    let badMember := (List.range n).find? (fun i =>
      match m.leafCode (r.u (64 + 2 * i) 2) with
      | some c => m.alloc c part == 0
      | none => true)
    let badArea := (List.range n).any (fun i =>
      match m.leafCode (r.u (64 + 2 * i) 2) with
      | some c => !m.inWindow s c (fld (m.field c tyAlloc part 0 112 8) 0 52) 0x1100000
      | none => false)
    match badMember with
    | some i => some (p.reject fltImageReduce (64 + 2 * i))
    | none =>
      if gs.any (fun q => q.idx < p.idx && (List.range 4096).any (fun t => tags r t && tags q.r t)) then
        some (p.reject fltImageReduce 24)
      else if m.bf < 65536 * r.u 30 1 then some (p.reject fltImageReduce 30)
      else if r.u 19 1 == 1 && r.u 20 1 != 1 then some (p.reject fltImageReduce 20)
      else if badArea then some (p.reject fltImageReduce 0)
      else none)

/-- 10 R408. -/
def Img.badDet (m : Img) : Option Rejection :=
  firstReject (m.ofType tyDet) (fun p =>
    let n := p.r.u 32 2
    if 1024 < n then some (p.reject fltImageDet 32)
    else
      ((List.range n).find? (fun i =>
        let e := p.r.u (48 + 4 * i) 4
        let jigs := (m.ofType tyJig).filter (fun j => j.r.key0 == fld e 0 13)
        let nodes := jigs.filterMap (fun j => (jigNodes j.r.body)[fld e 13 12]?)
        nodes.isEmpty || nodes.any (fun x => x.kind != 0))).map (fun i => p.reject fltImageDet (48 + 4 * i)))

/-- Stage 6: the rows in table order (11 R448). No field of an image names a fallback context, so the row of 04 R201 has
nothing to check (log entry 45). -/
def Img.ruleBad (m : Img) (s : State) : Option Rejection :=
  m.badMap.or (m.badHome.or (m.badPartition.or (m.badCredit.or ((m.badScratch s).or
    ((firstReject (m.ofType tyJig) (fun p => (m.badJig p).map (fun o => p.reject fltImageTask o))).or
    (m.badVgroup.or (m.badCold.or ((m.badServe s).or (m.badPages.or ((m.badSync s).or ((m.badChan s).or
    ((m.badQueue s).or ((m.badReduce s).or m.badDet)))))))))))))

/-! ### Stage 7: bound (11 R449) -/

/-- The bound on engine tasks and cold fetches. The tasks of a jig that only instances with children keep for them are
delegated and not checked (01 R26). -/
def Img.boundBad (m : Img) : Option Rejection :=
  firstReject m.ps (fun p =>
    if p.r.type == tyJig then
      let ns := jigNodes p.r.body
      ((List.range ns.length).find? (fun a =>
        match ns[a]? with
        | some n =>
          placedNode n && n.kind == 0 && (m.keepers p.r).any (fun c => m.ownTask c p.r.key1 n.vgroup n.engineClass) &&
            decide (m.bf < n.costCycles * (if n.escalate == 2 then 16 else 1))
        | none => false)).map (fun a => p.reject fltImageBound (nodeOff a + 12))
    else if p.r.type == tyCold && m.bf < p.r.u 36 4 then some (p.reject fltImageBound 36)
    else none)

/-! ### Stage 8: knot (07 R313) -/

/-- A vertex: instance code × 1,024 + engine, or 512 + core (11 R474). -/
def vertexOf (code v : Nat) : Nat := code * 1024 + v

/-- An edge of the graph, with the record that gives it. -/
structure KnotEdge where
  source : Nat
  target : Nat
  placed : Placed

/-- All pairs of two lists of vertices. -/
def edgesBetween (p : Placed) (xs ys : List Nat) : List KnotEdge := xs.flatMap (fun x => ys.map (fun y => ⟨x, y, p⟩))

/-- The virtual engines that a node's vgroup names at an instance: those of the VGROUP record, or every mapped one of the
class (07 R313, 02 R86). -/
def Img.named (m : Img) (code part : Nat) (n : Node) : List Nat :=
  if n.vgroup == 0xFFFF then m.groupEngines code n.vgroup part (some (nodeClass n))
  else bitsSet (m.field code tyVgroup n.vgroup 0 16 64) 512

/-- The channel and queue graph of the whole tree (07 R313). -/
def Img.graph (m : Img) : List KnotEdge :=
  let queues := (m.ofType tyQueue).flatMap (fun p =>
    let a := fld (p.r.u 20 2) 0 10
    let b := fld (p.r.u 22 2) 0 10
    if a == 1023 || b == 1023 then [] else [⟨vertexOf p.r.code a, vertexOf p.r.code b, p⟩])
  let chans := ((m.ofType tyChannel).filter (fun p => bit (p.r.u 16 1) 0 && bit (p.r.u 20 1) 1)).flatMap (fun p =>
    let senders := (bitsSet (p.r.u 48 64) 512) ++ (bitsSet (p.r.u 112 8) 64).map (512 + ·)
    let far := fld (p.r.u 22 2) 0 15
    let part := p.r.u 17 1
    let ctx := m.field far tyChannel (p.r.u 24 2) 0 19 1
    match findRec m.rs far tyHandler part ctx with
    | none => []
    | some h =>
      let slots := dedup ((List.range ((h.length - 16) / 16)).filterMap (fun k =>
        let e := h.u (16 + 16 * k) 2
        if bit e 15 then some (fld e 0 13) else none))
      let jigs := (m.ofType tyJig).filter (fun j => j.r.keptBy far && slots.contains j.r.key0)
      let engines := dedup (jigs.flatMap (fun j => ((jigNodes j.r.body).filter placedNode).flatMap (m.named far part)))
      edgesBetween p (senders.map (vertexOf p.r.code)) (engines.map (vertexOf far)))
  let stations := (m.ofType tyJig).flatMap (fun p =>
    let ns := jigNodes p.r.body
    let specs := jigSpecs p.r.body
    (m.keepers p.r).flatMap (fun code =>
      let engines (n : Node) : List Nat := (m.named code p.r.key1 n).map (vertexOf code)
      ns.flatMap (fun n => ((specsOf specs n).filter (fun e => e.pattern == 4)).flatMap (fun e =>
        match ns[e.target]? with
        | some t => edgesBetween p (engines n) (engines t)
        | none => []))))
  queues ++ chans ++ stations

/-- Take away vertices without a way in, or without a way out, until every vertex left has both. -/
def coreEdges : Nat → List KnotEdge → List KnotEdge
  | 0, es => es
  | f + 1, es =>
    let keep := es.filter (fun e => es.any (fun x => x.target == e.source) && es.any (fun x => x.source == e.target))
    if keep.length == es.length then es else coreEdges f keep

/-- The vertices that can be reached from a list. -/
def reachable (es : List KnotEdge) : Nat → List Nat → List Nat
  | 0, seen => seen
  | f + 1, seen =>
    let more := dedup ((es.filter (fun e => seen.contains e.source && !seen.contains e.target)).map (·.target))
    if more.isEmpty then seen else reachable es f (seen ++ more)

/-- KNOT_EDGE of an edge (11 R474). -/
def KnotEdge.bits (e : KnotEdge) : Nat :=
  put (e.source / 1024) 0 15 + put (e.source % 1024) 15 10 + put (e.target / 1024) 25 15 + put (e.target % 1024) 40 10
    + put 1 50 1

/-- Stage 8 (07 R313, 11 R447). -/
def Img.knotBad (m : Img) : Option Rejection :=
  let es := m.graph
  let es := coreEdges es.length es
  (es.find? (fun e => (reachable es es.length [e.target]).contains e.source)).map
    (fun e => { e.placed.reject fltImageKnot 0 with edge := some e.bits })

/-! ### All stages (11 R447) -/

/-- Validate an image in `b`; `len` is its length by the HEADER. Answers its records, or the first rejection. -/
def State.validate (s : State) (b : Blob) : List Placed ⊕ Rejection :=
  let len := bytesAt b 32 4
  match parseRecords b len (len / 16 + 1) 0 0 [] with
  | .inr e => .inr e
  | .inl ps =>
    let m : Img := { ps := ps, rs := ps.map (·.r), bf := 50 * (ps.head?.map (fun p => p.r.u 40 2)).getD 0 }
    match (formatBad len ps).or ((digestBad ps).or ((s.roleBad ps).or ((s.buildBad ps).or ((s.windowBad ps).or
        ((m.ruleBad s).or (m.boundBad.or m.knotBad)))))) with
    | some e => .inr e
    | none => .inl ps

end Sys2Proof.Machine
end

