-- ==== Sys2Proof/Machine/LoadUnit.lean ====
section
/-!
DEFINITION. The image loader: a load, its acceptance and its rejection, and the start of an instance's work
(11 R445, R446, R451; 13 R537, R540).
-/
namespace Sys2Proof.Machine

/-! ### Ports at the start (13 R540 steps 4 to 6) -/

/-- The codes of the instances at which a partition has an allocation. -/
def State.workCodes (s : State) (p : Nat) : List Nat :=
  (s.image.recs.filter (fun r => r.type == tyTreeRole)).filterMap (fun r =>
    let code := fld r.scope 0 15
    if (findRec s.image.recs code tyAlloc p 0).isSome then some code else none)

/-- The ports of this instance that lie on the paths between a partition's home and the instances at which it has work. -/
def State.portsUsed (s : State) (p : Nat) : List Nat :=
  let own := s.face.path
  let home := codePath (s.homeCode p)
  if !under home own then []
  else
    let here := (s.workCodes p).filter (fun c => under own (codePath c))
    let below := here.filterMap (fun c =>
      let q := codePath c
      if own.length < q.length then some (1 + q.getD own.length 0) else none)
    dedup ((if home == own || here.isEmpty then [] else [0]) ++ below)

/-- A partition's work starts at the instance once the ports that it uses are UP (13 R540 step 6). -/
def startParts (s : State) : State :=
  let new := s.parts.filter (fun p => !s.ctxs.started.contains p && (s.portsUsed p).all (fun x => s.portUp x))
  new.foldl (fun s p => later (.place p) s)
    (later .sweep { s with ctxs := { s.ctxs with started := s.ctxs.started ++ new } })

/-- Discovery is over: each connected port is UP, refused or lost (13 R540 steps 4 and 5). -/
def State.discovered (s : State) : Bool :=
  (List.range 9).all (fun x => !s.connected x || s.portUp x || (s.port x).state == 5 || (s.port x).lost)

/-- The ports of a warm start match: every one that was live is UP again, and no other is (13 R543 step 5). -/
def State.censusMatches (s : State) : Bool :=
  s.power.warm && (List.range 9).all (fun x => (s.port x).wasLive == s.portUp x)

/-- A context is resident at load, or dormant (08 R335). -/
def State.loadState (s : State) (p c : Nat) : CtxSt := if s.ctxResident p c then .resident else .dormant

/-- The contexts of a partition take their load states. -/
def loadContexts (p : Nat) (s : State) : State :=
  (s.ctxsOf p).foldl (fun s c => modCtx p c (fun x => { x with st := s.loadState p c }) s) s

/-- Objects take their initial values and contexts their load states; the instance runs (13 R540 step 6). Boundary 0 of a
serving partition falls at image load (10 R409). -/
def startRunning (skipped : Bool) (s : State) : State :=
  let s := initObjects { s with power := { s.power with
    phase := 4, discoverySkipped := skipped, flushed := s.power.flushed && !s.power.warm } }
  let s := s.parts.foldl (fun s p => loadContexts p s) s
  s.parts.foldl
    (fun s p => if (s.det p).first then modDet p (fun d => { d with asked := true }) s else s) s
    |> later .reshape

/-- The ports may now allow what waits for them (Job.start). -/
def startWork (s : State) : State :=
  let s :=
    if s.power.phase == 3 && s.hasRole then
      if s.censusMatches then startRunning true s
      else if s.discovered then startRunning false s
      else s
    else s
  if s.power.phase == 4 then startParts s else s

/-- A port is looked at when its instance takes a role (12 R517; 01 R32; 13 R540 step 4). -/
def discoverPort (x : Nat) (s : State) : State :=
  if !s.hasPort x then s
  else if s.connected x then
    let s := modPort x (fun p => { p with since := s.power.heart, lost := false }) s
    if (s.port x).isl == 1 then openPort x s else modPort x (fun p => { p with state := 1 }) s
  else if (s.port x).isl == 1 then raiseNone fltTreeMismatch srcLink x s
  else s

/-! ### Writing the image's bytes (11 R451, R461, R463) -/

/-- A write of the loader to bed memory. -/
def loaderWrite (addr : Nat) (b : Blob) (s : State) : State := issueWrite .data addr b 0 0 true s

/-- The bytes of a DATA record are written at its destination (11 R443). -/
def writeData (r : Rec) (s : State) : State :=
  loaderWrite (fld (r.u 16 8) 0 52) ⟨r.length - 32, r.bits / 2 ^ 256⟩ s

/-- The lowest place, from `a` on, for `n` bytes that meet none of the given spans (log entry 41). -/
def lowestGap : Nat → Nat → Nat → List (Nat × Nat) → Nat
  | 0, a, _, _ => a
  | k + 1, a, n, taken =>
    match taken.find? (fun t => spansMeet t.1 t.2 a n) with
    | some t => lowestGap k (t.1 + t.2) n taken
    | none => a

/-- The jig unit's copy of a slot goes, and a fill under way starts again (03 R580). -/
def forgetJig (slot : Nat) (s : State) : State :=
  { s with jigs := { s.jigs with
      cache := Tbl.del s.jigs.cache slot
      stale := if (Tbl.find s.jigs.filling slot).isSome then dedup (s.jigs.stale ++ [slot]) else s.jigs.stale } }

/-- The addresses of jig bodies from `start` on, with those of `taken` where they are (03 R119; log entry 41). -/
def placeJigs (start : Nat) : List Rec → List (Nat × Nat) → List (Rec × Nat)
  | [], _ => []
  | r :: rest, taken =>
    let a := lowestGap (taken.length + 1) start (bodyBytes r) taken
    (r, a) :: placeJigs start rest (taken ++ [(a, bodyBytes r)])

/-- Write a jig body and its directory entry (03 R119). -/
def writeJig (r : Rec) (a : Nat) (s : State) : State :=
  let s := s |> loaderWrite a r.body |> loaderWrite (s.jigTable + 16 * r.key0) ⟨16, put a 0 52 + 2 ^ 52⟩
  forgetJig r.key0 { s with image := { s.image with bodies := Tbl.put s.image.bodies r.key0 a } }

/-- Write jig bodies at their addresses. -/
def writeJigs (l : List (Rec × Nat)) (s : State) : State := l.foldl (fun s e => writeJig e.1 e.2 s) s

/-- Slots that no longer hold a jig: their directory entries have bit 52 at 0 (03 R119). -/
def dropJigs (slots : List Nat) (s : State) : State :=
  slots.foldl
    (fun s slot =>
      { s with image := { s.image with bodies := Tbl.del s.image.bodies slot } }
        |> loaderWrite (s.jigTable + 16 * slot) ⟨16, 0⟩ |> forgetJig slot) s

/-- The kept records of a type in a list, in image order. -/
def State.keptOf (s : State) (rs : List Rec) (ty : Nat) : List Rec :=
  rs.filter (fun r => r.type == ty && r.keptBy s.selfCode)

/-! ### Acceptance and rejection (11 R446, R447, R451) -/

/-- Matrix members of the largest gang of an image's jig nodes: G (13 R537). -/
def gangMaxOf (rs : List Rec) : Nat :=
  (rs.filter (fun r => r.type == tyJig)).foldl
    (fun g r =>
      let ns := jigNodes r.body
      (nodeGroups ns).foldl
        (fun g grp =>
          if grp.length < 2 then g
          else max g ((grp.filter (fun k => (ns[k]?.map (fun n => n.engineClass == 0)).getD false)).length)) g) 0

/-- G takes the value of the image that becomes running; W follows a g above it (13 R537). -/
def setGangMax (rs : List Rec) (s : State) : State :=
  let g := gangMaxOf rs
  { s with power := { s.power with
      gangMax := g, width := if s.power.width != 0 && s.power.width < max 1 g then max 1 g else s.power.width } }

/-- The records become the running image: tree position, banks, digests and engine
charges (11 R451, R475; 01 R35; 02 R101). -/
def installRecords (addr : Nat) (rs : List Rec) (s : State) : State :=
  let hdr := rs.headD {}
  let role := recField rs (pathCode s.place) tyTreeRole 0 0 16 1
  let m : Img := { ps := rs.map (fun r => { r := r }), rs := rs, bf := 0 }
  let banked := rs.filter (fun r => isBanked r.type)
  setGangMax rs
    { s with
      tasks := { s.tasks with
        engines := Tbl.each s.tasks.engines (fun _ e => { e with suspect := false, lasting := 0, transient := 0 }) }
      face := { s.face with
        role := role, depth := s.place.length, treeDepth := m.depth, path := s.place
        leafIndex := match role with
          | 1 => leafIndexOf s.place m.depth
          | 3 => leafIndexOf (s.place ++ [0]) m.depth
          | _ => 0
        childLive := if role == 3 then setBit s.face.childLive 0 else s.face.childLive }
      image := { s.image with
        digest := hdr.u 48 32, census := hdr.u 80 32, epoch := hdr.u 36 4
        recs := rs, runAddr := addr, active := [0, 0, 0, 0], bank0 := banked, bank1 := banked, busy := [] } }

/-- DET of the partitions (10 R405, R406), with boundary 0 of serving partitions, which reads membership records (R409). -/
def initDets (s : State) : State :=
  s.parts.foldl
    (fun s p =>
      let d := bit (s.recU tyDet p 0 16 1) 0
      let s := modDet p (fun _ => { det := d }) s
      if s.readsMembers p && s.serves? p then modDet p (fun x => { x with first := true }) s else s) { s with dets := [] }

/-- The image digest that serving partitions homed here take into their context hashes at load, and at the restart after a
reshape or an abort (04 R204; 11 R462, R463). -/
def takeDigest (ps : List Nat) (s : State) : State :=
  { s with image := { s.image with
      digests := (ps.filter (fun p => s.isHome p && s.serves? p)).foldl (fun t p => Tbl.put t p s.image.digest) s.image.digests } }

/-- An accepted image is installed and written, and discovery begins (11 R451). -/
def loadImage (addr : Nat) (rs : List Rec) (s : State) : State :=
  let s := installRecords addr rs s
  let s :=
    { noteBit 0x1048 0 s with
      image := { s.image with state := 2, loading := false, older := 0, bodies := [], digests := [] }
      jigs := { s.jigs with cache := [] }
      reshape := { s.reshape with jSeq := 0, jLast := none }
      face := { s.face with loadDone := true }
      power := { s.power with phase := 3 } }
  let s := (s.keptOf rs tyData).foldl (fun s r => writeData r s) s
  let s := s |> loaderWrite s.jigTable ⟨16 * s.build.jigSlots, 0⟩
    |> writeJigs (placeJigs (s.jigTable + 16 * s.build.jigSlots) (s.keptOf rs tyJig) [])
  let s := loaderWrite s.journalBase ⟨4096, 0⟩ s
  (List.range 9).foldl (fun s x => discoverPort x s) (takeDigest s.parts s) |> later .start

/-- An image is accepted by an instance without a role: nothing of an earlier image is kept (11 R451). A load after
a warm start whose image was rejected clears SERVE_FENCE and SERVE_STATUS.step with the rest of the serving state (DESIGN CHOICE,
log entry 99). -/
def acceptImage (addr : Nat) (rs : List Rec) (s : State) : State :=
  initDets (loadImage addr rs { s with serves := [], pages := [], queues := { s.queues with hostqs := [] } })

/-- An image is rejected: the instance holds no role, and says why (11 R447, R474). -/
def rejectImage (e : Rejection) (s : State) : State :=
  raiseNone e.fault srcLoader e.idx
    { noteBit 0x1048 0 s with
      image := { s.image with
        state := 3, loading := false, fault := e.fault, failRec := e.idx, offset := e.off
        knotEdge := e.edge.getD 0, knotValid := e.edge.isSome }
      face := { s.face with loadDone := true } }

/-- IMAGE_CTRL.load (11 R445, R446). A load that a warm reset has cut short is no longer in progress, although LOAD_STATUS.state
is kept (R474; log entry 73). -/
def startLoad (s : State) : State :=
  if s.hasRole || s.image.loading then noteBit 0xC0018 2 { s with image := { s.image with refused := true } }
  else wakeUp swBed { s with image := { s.image with state := 1, loading := true } }

/-- The image as the loader reads it: the command's bytes, or those of the block store in a build without a bed port
(11 R445 step 1). -/
def State.imageBytes (s : State) (addr : Nat) (given : Blob) : Blob :=
  if s.hasBed then given else ⟨0x10000 - addr, storeRead s.store addr (0x10000 - addr)⟩

/-- The loader has read the image and checked it (11 R447). -/
def loadDone (img : Blob) (s : State) : State :=
  match s.validate (s.imageBytes s.image.addr img) with
  | .inl ps => acceptImage s.image.addr (ps.map (·.r)) s
  | .inr e => rejectImage e s

end Sys2Proof.Machine
end

