-- ==== Sys2Proof/Machine/ReshapeUnit.lean ====
section
/-!
DEFINITION. Staged reshape, its journal, and the banked tables (11 R452, R455 to R472).
-/
namespace Sys2Proof.Machine

/-! ### Doorbell launches (03 R126; 11 R460) -/

/-- A write of LAUNCH_DOORBELL is carried out (03 R126, R160): it starts a launch, also where that creates no task (R161). The
ledger entry for a context without a record has scope 0 (DESIGN CHOICE, log entry 13), and a record_addr that is not aligned to 32
bytes is read as it is written (DESIGN CHOICE, log entry 96). -/
def ringDoorbell (p d : Nat) (s : State) : State :=
  let addr := fld d 0 52
  let c := fld d 52 5
  let s := if !s.ctxConfigured p c || s.gone p c then countLaunch s else s
  if !s.ctxConfigured p c then
    s |> enter fltJigNode srcJig p c 0 0 false |> launchDoneRecord p c addr stUnmapped true false 0
  else if s.gone p c then launchDoneRecord p c addr stParted true false 0 s
  else startLaunch (.doorbell addr) p c (s.image.epoch % 256) addr 0 s

/-- A doorbell of a partition that drains is held, up to 16 of them (11 R460). -/
def doorbell (p d : Nat) (s : State) : State :=
  if s.draining p then
    if s.reshape.doorbells.length < 16 then
      { s with reshape := { s.reshape with doorbells := s.reshape.doorbells ++ [(p, d)] } }
    else noteBit 0xC0038 8 { s with reshape := { s.reshape with doorbellDrop := true } }
  else ringDoorbell p d s

/-- The held doorbells, in order (11 R462). -/
def ringHeld (s : State) : State :=
  s.reshape.doorbells.foldl (fun s e => ringDoorbell e.1 e.2 s)
    { s with reshape := { s.reshape with doorbells := [] } }

/-! ### Flits and journal (11 R458, R465, R466) -/

/-- The payload of a reshape flit (11 R458). -/
def reshapePayload (op result fault epoch affected : Nat) : Nat :=
  put op 0 8 + put result 8 8 + put fault 16 16 + put epoch 32 32 + put affected 64 64

/-- Send a reshape flit to an instance; while a journal entry is being written it waits (11 R458, R466). -/
def sendReshape (dest payload : Nat) (s : State) : State :=
  if s.reshape.jOut.isEmpty then
    sendTo dest { cls := 0, pool := poolSystem, kind := 0x07, content := routed payload (s.route dest 0 true) } s
  else { s with reshape := { s.reshape with flits := s.reshape.flits ++ [(dest, payload)] } }

/-- The child ports that are live (11 R458). -/
def State.liveKids (s : State) : List Nat :=
  ((List.range 8).map (· + 1)).filter (fun x => s.connected x && s.portUp x)

/-- Send an op to every live child (11 R458). -/
def flood (op : Nat) (s : State) : State :=
  let pay := reshapePayload op 0 0 s.reshape.newEpoch s.reshape.affected
  s.liveKids.foldl (fun s x => sendReshape (pathCode (s.partnerPath x)) pay s) s

/-- Send a QUERY to the root; the nodes on its way forward it (11 R467, R468). -/
def sendQuery (s : State) : State :=
  if s.isRoot then s
  else sendReshape (pathCode []) (reshapePayload 10 0 0 s.reshape.newEpoch s.reshape.affected) s

/-- Send an op to the parent (11 R458). -/
def sendUp (op result fault : Nat) (s : State) : State :=
  if s.isRoot then s
  else
    sendReshape (pathCode (s.partnerPath 0))
      (reshapePayload op result fault s.reshape.newEpoch s.reshape.affected) s

/-- A journal entry (11 R465). -/
def State.journalEntry (s : State) (phase : Nat) : Nat :=
  let r := s.reshape
  let body := put 0x4C4E524A 0 32 + put r.jSeq 32 32 + put phase 64 8 + put (flag s.isRoot) 72 8
    + put (sub32 r.newEpoch 1) 128 32 + put r.newEpoch 160 32 + put r.affected 192 64 + put s.image.runAddr 256 64
    + put s.image.reshapeAddr 320 64 + put r.digest 384 64
  body + put (crc32 body 60) 480 32

/-- Write a journal entry as one granule (11 R465, R466). -/
def writeJournal (phase : Nat) (s : State) : State :=
  let addr := s.journalBase + 64 * (s.reshape.jSeq % 64)
  let bits := s.journalEntry phase
  { s with reshape := { s.reshape with
      jSeq := wrapAdd s.reshape.jSeq 1 32, jOut := s.reshape.jOut ++ [phase] } }
    |> issueWrite .journal addr ⟨64, bits⟩ 0 0 true

/-! ### What a new image may change (11 R455 to R457) -/

/-- The partitions that a record names, in the tests of R456: it names one of the affected ones. -/
def Rec.names (r : Rec) (affected : Nat) : Bool :=
  let some' := affected % 2 ^ 64 != 0
  if partKeyed r.type then bit affected r.key0
  else if r.type == tyJig || r.type == tyData then
    if r.key1 == 0xFFFF then some' else bit affected r.key1
  else if r.type == tyExchange || r.type == tySemaphore || r.type == tyBarrier then bit affected (r.u 16 1)
  else if r.type == tyChannel then bit affected (r.u 17 1)
  else if r.type == tyQueue then bit affected (r.u 16 1)
  else if r.type == tyReduce then bit affected (r.u 18 1)
  else
    (r.type == tyTreeRole || r.type == tyCredit || r.type == tyScratch || r.type == tyVgroup || r.type == tyMask
      || r.type == tySyncRef) && some'

/-- The records have one key. -/
def Rec.same (a b : Rec) : Bool :=
  a.type == b.type && a.scope == b.scope && a.key0 == b.key0 && a.key1 == b.key1

/-- Virtual engines of unaffected partitions at an instance, by the running image. -/
def State.keptEngines (s : State) (code affected : Nat) : Nat :=
  ((s.image.recs.filter (fun r => r.type == tyAlloc && r.keptBy code && !bit affected r.key0)).flatMap
    (fun r => bitsSet (r.u 16 64) 512)).foldl (fun m v => setBit m v) 0

/-- Entries of an engine class map that may differ in their physical port only (11 R456). -/
def State.mapOk (s : State) (affected : Nat) (old new : Rec) : Bool :=
  let kept := s.keptEngines (fld old.scope 0 15) affected
  (List.range 512).all (fun v => !bit kept v || old.u (16 + 4 * v) 4 / 512 == new.u (16 + 4 * v) 4 / 512)

/-- A change from one record to another is one that R456 allows. -/
def State.changeOk (s : State) (affected : Nat) (old new : Option Rec) : Bool :=
  let either (f : Rec → Bool) : Bool := (old.map f).getD false || (new.map f).getD false
  if either (fun r => r.type == tyEngineMap) then
    match old, new with
    | some a, some b => s.mapOk affected a b
    | some a, none => s.keptEngines (fld a.scope 0 15) affected == 0
    | _, _ => true
  else
    either (fun r => isBanked r.type || r.type == tyDebug || r.type == tyHeader || r.type == tyReshape)
      || either (fun r => r.names affected)

/-- The first change that R456 does not allow: its index and byte offset in the new image. -/
def State.scopeBad (s : State) (affected : Nat) (ps : List Placed) : Option Rejection :=
  let changed := ps.findSome? (fun p =>
    let old := s.image.recs.find? (fun r => r.same p.r)
    if old == some p.r || s.changeOk affected old (some p.r) then none
    else some { fault := fltReshapeScope, idx := p.idx, off := p.off })
  let removed := s.image.recs.findSome? (fun r =>
    if ps.any (fun p => p.r.same r) || s.changeOk affected (some r) none then none
    else some { fault := fltReshapeScope, idx := 0, off := 0 })
  changed.or removed

/-- An affected partition with streams keeps its ranges, tables and page sizes (11 R457); judged at its home. -/
def State.carryBad (s : State) (affected : Nat) (ps : List Placed) : Option Rejection :=
  (s.parts.filter (fun p =>
    bit affected p && s.isHome p && (s.serve p).streams.any (fun e => e.2.state != 0))).findSome? (fun p =>
      let field (ty k1 lo n : Nat) : Bool :=
        recField s.image.recs s.selfCode ty p k1 lo n == recField (ps.map (·.r)) s.selfCode ty p k1 lo n
      let at' (ty k1 lo : Nat) : Rejection :=
        match ps.find? (fun x => x.r.type == ty && x.r.key0 == p && x.r.key1 == k1 && x.r.keptBy s.selfCode) with
        | some x => { fault := fltReshapeScope, idx := x.idx, off := x.off + lo }
        | none => { fault := fltReshapeScope }
      let serve := ([(16, 4), (20, 4), (24, 8), (32, 3), (36, 4), (40, 8)] : List (Nat × Nat)).findSome?
        (fun e => if field tyServe 0 e.1 e.2 then none else some (at' tyServe 0 e.1))
      let formats := (List.range 4).findSome? (fun f =>
        if field tyPageFormat f 16 2 && field tyPageFormat f 20 4 then none else some (at' tyPageFormat f 16))
      serve.or formats)

/-- The affected mask of an image (11 R443). -/
def affectedOf (rs : List Rec) : Nat := ((rs.find? (fun r => r.type == tyReshape)).map (fun r => r.u 16 8)).getD 0

/-- A reshape image is checked under R447 and R455 to R457 (11 R459 step 3). An image without a RESHAPE record is refused
as one that changes what it may not (log entry 49). -/
def State.checkReshape (s : State) (b : Blob) : List Placed ⊕ Rejection :=
  match s.validate b with
  | .inr e => .inr e
  | .inl ps =>
    let rs := ps.map (·.r)
    let mask := affectedOf rs
    let epoch := (rs.headD {}).u 36 4
    let bad : Option Rejection :=
      if epoch != wrapAdd s.image.epoch 1 32 || epoch != s.reshape.newEpoch then
        some { fault := fltReshapeEpoch, idx := 0, off := 36 }
      else if !rs.any (fun r => r.type == tyReshape) then some { fault := fltReshapeScope }
      else (s.scopeBad mask ps).or (s.carryBad mask ps)
    match bad with
    | some e => .inr e
    | none => .inl ps

/-! ### Affected partitions (11 R460 to R463) -/

/-- The affected partitions. -/
def Reshape.parts (r : Reshape) : List Nat := bitsSet r.affected 64

/-- The partition is drained at the instance (11 R460). A launch that is still being read or counted will wait at
reservation, so it counts as one (log entry 50). -/
def State.drained (s : State) (p : Nat) : Bool :=
  !s.tasks.slots.any (fun e => e.2.st != .free && e.2.part == p)
    && !s.reduce.buckets.any (fun e => e.2.isOpen && s.rdPart e.2.group == p)
    && !s.queues.chans.any (fun e => !e.2.sends.isEmpty && s.chPart e.1 == p)
    && !s.jigs.exchanges.any (fun e => !e.2.outs.isEmpty && s.exchPart e.1 == p)
    && !s.queues.queues.any (fun e => !e.2.held.isEmpty && s.qPart e.1 == p)
    && (s.page p).stepPins.isEmpty && (s.page p).outside.all (fun o => o.pins.isEmpty)
    && !s.jigs.launches.any (fun e => e.2.part == p)
    && !(s.serve p).running && (s.serve p).forming.isNone && (s.serve p).done.isEmpty

/-- Objects and contexts of the partitions as a load leaves them, by the given records (11 R461, R463; 06 R278): no waiter entry is
left, and the contexts that a load makes resident become so as the partitions start. -/
def reinitParts (ps : List Nat) (rs : List Rec) (s : State) : State :=
  let running := s.image.recs
  let waiters := (s.sync.waiters.filter (fun e => e.2.state != 0 && ps.contains (s.waiterPart e.2))).map (·.1)
  let s := waiters.foldl (fun s id => setWaiter id {} s) s
  let s := initObjectsOf ps { s with image := { s.image with recs := rs } }
  { s with
    image := { s.image with recs := running }
    ctxs := { s.ctxs with
      ctxs := s.ctxs.ctxs.map (fun e =>
        (e.1, if ps.contains (e.1 / 32) then { e.2 with st := .dormant, bringIn := none, lineWait := false } else e.2)) } }

/-- On-block state of the partitions as a load leaves it, by the given records (11 R461): objects, contexts, queues,
channel sides, exchanges, cold tables, lent lines and reduction slots. Serving state, host queues and boundary counts
carry over (R457). -/
def resetParts (ps : List Nat) (rs : List Rec) (s : State) : State :=
  let s := reinitParts ps rs s
  let mine (s : State) (part : State → Nat → Nat) (i : Nat) : Bool := ps.contains (part s i)
  let other := { s with image := { s.image with recs := rs } }
  let gone (part : State → Nat → Nat) (i : Nat) : Bool := mine s part i || mine other part i
  { s with
    queues := { s.queues with
      queues := s.queues.queues.filter (fun e => !gone (fun s q => s.qPart q) e.1)
      chans := s.queues.chans.filter (fun e => !gone (fun s ch => s.chPart ch) e.1) }
    jigs := { s.jigs with
      exchanges := s.jigs.exchanges.filter (fun e => !gone (fun s x => s.exchPart x) e.1)
      cold := s.jigs.cold.filter (fun e => !ps.contains (e.1 / 2048)) }
    reduce := { s.reduce with
      buckets := s.reduce.buckets.filter (fun e => !gone (fun s g => s.rdPart g) e.2.group)
      kind2 := s.reduce.kind2.filter (fun e => !ps.contains e.part) }
    ctxs := { s.ctxs with
      slices := s.ctxs.slices.map (fun e => (e.1, if ps.contains e.1 then { e.2 with running := none, last := 7 } else e.2))
      runs := s.ctxs.runs.filter (fun r => !ps.contains r.part)
      windows := s.ctxs.windows.filter (fun w => !ps.contains w.part) } }

/-- The DATA and JIG records that name the partitions are written (11 R461, R463); slots that the image gives no jig are emptied.
The other bodies stay where they are, unless the new ones do not fit between them: then all bodies are written, one after the
other (03 R119; log entry 41). -/
def writeParts (mask : Nat) (rs : List Rec) (s : State) : State :=
  let jigs := s.keptOf rs tyJig
  let s := ((s.keptOf rs tyData).filter (fun r => r.names mask)).foldl (fun s r => writeData r s) s
  let s := dropJigs ((s.image.bodies.map (·.1)).filter (fun k => !jigs.any (fun r => r.key0 == k))) s
  let stays := (jigs.filter (fun r => !r.names mask)).filterMap (fun r =>
    (Tbl.find s.image.bodies r.key0).map (fun a => (a, bodyBytes r)))
  let top := s.jigTable + s.jigTableBytes rs s.selfCode
  let some' := placeJigs (s.jigTable + 16 * s.build.jigSlots) (jigs.filter (fun r => r.names mask)) stays
  if some'.all (fun e => decide (e.2 + bodyBytes e.1 ≤ top)) then writeJigs some' s
  else writeJigs (placeJigs (s.jigTable + 16 * s.build.jigSlots) jigs []) s

/-- The partitions start again under the running image (11 R462, R463), as a load would start them. -/
def resumeParts (ps : List Nat) (s : State) : State :=
  let s := ps.foldl (fun s p => s |> loadContexts p |> releaseHeld p |> later (.place p)) (takeDigest ps s)
  ringHeld s |> laters [.sweep, .buckets, .start]

/-! ### Banks (11 R469 to R471) -/

/-- Queue requests of engines that have been accepted and not answered, with lookups of a bank of the engine class map (11 R470). -/
def State.queueLookups (s : State) (b : Nat) : Nat :=
  (s.queues.waiting.filter (fun e => decide (e.1 < 512) && e.2.2 == b)).length
    + s.queues.queues.foldl (fun n e =>
      n + (e.2.held.filter (fun h => decide (h.src < 512) && h.bank == b)).length
        + flag (e.2.reading.any (fun id => decide (id < 512)) && e.2.readBank == b)) 0

/-- Lookups of a bank of a banked table that are in flight (11 R470). -/
def State.lookups (s : State) (table b : Nat) : Nat :=
  match table with
  | 0 => (s.tasks.engines.filter (fun e => e.2.busy && e.2.bank == b)).length + s.queueLookups b
  | 1 => s.queues.chans.foldl (fun n e =>
      n + (e.2.ring.filter (fun m => !m.written && m.handler != 0x3FF && m.bank == b)).length) 0
  | 2 => (s.bed.writes.filter (fun e => e.2.bank == b)).length + (s.bed.writeWait.filter (fun w => w.bank == b)).length
      + (s.bed.readWait.filter (fun r => r.bank == b)).length
  | _ => (s.serves.filter (fun e => e.2.forming.any (fun f => f.bank == b))).length

/-- The new image goes into the inactive bank of a table (11 R461). -/
def writeBank (table : Nat) (s : State) : State :=
  let b := 1 - s.activeBank table
  let new := s.reshape.staged.filter (fun r => isBanked r.type && tableOf r.type == table)
  let keep (rs : List Rec) : List Rec := rs.filter (fun r => tableOf r.type != table)
  { s with
    image := { s.image with
      busy := s.image.busy.filter (· != table)
      bank0 := if b == 0 then keep s.image.bank0 ++ new else s.image.bank0
      bank1 := if b == 1 then keep s.image.bank1 ++ new else s.image.bank1 } }

/-! ### The phases (11 R459) -/

/-- RESHAPE_STATUS.result is written (12 R527). -/
def finishReshape (result : Nat) (s : State) : State :=
  { noteBit 0x1048 1 s with
    reshape := { s.reshape with
      phase := 0, result := result, olderWait := false, drainWait := false, staged := [], reading := false
      voteNo := false, selfDone := false, heard := [], kids := [], querying := false, rolling := false
      fault := if result == 1 then 0 else s.reshape.fault }
    face := { s.face with reshapeDone := true } }

/-- The reshape is aborted here (11 R463): the banks are discarded, the affected partitions start again from the running image,
an ABORT entry is written, and ABORT goes down. Of partitions that are drained nothing is left; those that are not keep their
tasks, sends and buckets, while their objects and contexts start again (log entry 47). -/
def abortHere (s : State) : State :=
  let r := s.reshape
  let back := r.querying || r.phase == 3 || (r.phase == 2 && !r.drainWait)
  let s := finishReshape 2
    { s with
      image := { s.image with busy := [], aborts := wrapAdd s.image.aborts 1 64 }
      power := { s.power with replay := if r.querying then 1 else s.power.replay } }
  let s := writeParts r.affected s.image.recs s
  let s := if back then resetParts r.parts s.image.recs s else reinitParts r.parts s.image.recs s
  s |> writeJournal 6 |> flood 9 |> resumeParts r.parts

/-- EPOCH_OLDER at a commit (11 R452). -/
def State.olderMask (s : State) : Nat :=
  (List.range 64).foldl
    (fun m p =>
      if !bit s.reshape.affected p
          && s.tasks.slots.any (fun e => e.2.st != .free && e.2.part == p && e.2.epoch == s.image.epoch % 256)
      then setBit m p else m) 0

/-- DET of an affected partition follows the new image (10 R406). The change applies from the first step formed after the commit
(10 R422): with DET the boundary of that step is asked for; without, a boundary that was asked for is counted at its
formation. -/
def commitDet (p : Nat) (s : State) : State :=
  let old := s.detOf p
  let new := bit (s.recU tyDet p 0 16 1) 0
  let first := s.isHome p && s.serves? p && new && !old && (s.serve p).next != (s.det p).boundary
  modDet p (fun d => { d with det := new, asked := if new then d.asked || first else false }) s

/-- The reshape commits at this instance (11 R462). -/
def commitHere (s : State) : State :=
  let r := s.reshape
  let rs := r.staged
  let older := s.olderMask
  let image := s.image
  let s := installRecords s.image.reshapeAddr rs s
  let s := { s with
    image := { s.image with
      digest := r.digest, census := r.census, epoch := r.newEpoch, older := older
      active := image.active.map (fun b => 1 - b), bank0 := image.bank0, bank1 := image.bank1
      commits := wrapAdd image.commits 1 64 }
    reshape := { s.reshape with phase := 4 } }
  resumeParts r.parts (r.parts.foldl (fun s p => commitDet p s) s)

/-- SWAP (11 R461): the new state of the affected partitions, and the banks whose lookups have ended. -/
def swapHere (s : State) : State :=
  let r := s.reshape
  let s := { s with reshape := { r with phase := 3, selfDone := false, heard := [] } }
  let s := s |> writeParts r.affected r.staged |> resetParts r.parts r.staged
  let s := { s with image := { s.image with busy := [0, 1, 2, 3] } }
  let s := ([0, 1, 2, 3] : List Nat).foldl
    (fun s t => if s.lookups t (1 - s.activeBank t) == 0 then writeBank t s else s) s
  if s.image.busy.isEmpty then writeJournal 3 s else s

/-- DRAIN (11 R460). -/
def drainHere (s : State) : State :=
  { s with reshape := { s.reshape with phase := 2, drainWait := true, selfDone := false, heard := [] } }

/-- This instance has finished a phase and every live child has sent the same: on to the next phase at the root, or up
(11 R458, R459). -/
def phaseDone (s : State) : State :=
  let r := s.reshape
  if r.selfDone && r.kids.all (fun x => r.heard.contains x) then
    let s := { s with reshape := { r with selfDone := false, heard := [] } }
    match r.phase with
    | 1 => if s.isRoot then s |> drainHere |> flood 3 else sendUp 2 1 0 s
    | 2 => if s.isRoot then s |> swapHere |> flood 5 else sendUp 4 0 0 s
    | 3 =>
      if s.isRoot then { s with reshape := { s.reshape with phase := 4 } } |> writeJournal 4
      else sendUp 6 0 0 s
    | 4 => if s.isRoot then writeJournal 5 s else s |> sendUp 8 0 0 |> finishReshape 1
    | _ => s
  else s

/-- This instance has finished its part of the phase. -/
def selfDone (s : State) : State := phaseDone { s with reshape := { s.reshape with selfDone := true } }

/-- What follows an entry of the journal once it has been accepted (11 R459, R463). -/
def entryDone (phase : Nat) (s : State) : State :=
  if phase == 5 then finishReshape 1 s
  else if phase != s.reshape.phase || s.reshape.reading then s
  else
    match phase with
    | 1 =>
      if s.reshape.voteNo then if s.isRoot then abortHere s else sendUp 2 0 s.reshape.fault s
      else selfDone s
    | 2 => selfDone s
    | 3 => selfDone s
    | 4 => if s.isRoot then s |> commitHere |> flood 7 |> selfDone else selfDone s
    | _ => s

/-- The oldest journal entry has been accepted (11 R466): flits that waited go, and the reshape goes on. -/
def journalWritten (s : State) : State :=
  match s.reshape.jOut with
  | [] => s
  | ph :: rest =>
    let r := s.reshape
    let s := { s with reshape := { r with
      jOut := rest, jLast := some (ph, s.isRoot, sub32 r.newEpoch 1, r.newEpoch, r.affected)
      flits := if rest.isEmpty then [] else r.flits } }
    let s := if rest.isEmpty then r.flits.foldl (fun s f => sendReshape f.1 f.2 s) s else s
    entryDone ph s

/-- A reshape begins at this instance: its new image is read (11 R459 step 3). Until it has been read its digest, which an ABORT
entry carries (R465), is a free value (log entry 103). -/
def prepareHere (epoch affected : Nat) (s : State) : State :=
  let (d, s) := takeFree 64 s
  { s with reshape := { s.reshape with
      phase := 1, olderWait := false, drainWait := false, newEpoch := epoch, affected := affected, staged := []
      digest := d, reading := true, voteNo := false, selfDone := false, heard := [], kids := s.liveKids
      fault := 0, querying := false, rolling := false } }

/-- EPOCH_OLDER reads 0 at every instance (11 R459 step 2). No message tells the root of the registers of others: with live
children it is a free value whether they all read 0 (log entry 46). -/
def olderClear (s : State) : Bool × State :=
  if s.image.older != 0 then (false, s)
  else if s.liveKids.isEmpty then (true, s)
  else
    let (v, s) := takeFree 1 s
    (v == 0, s)

/-- The root's PREPARE phase begins once EPOCH_OLDER reads 0 (11 R459 step 2). PREPARE carries the affected mask, so that it goes
down when the root has read its image (log entry 46). -/
def tryPrepare (s : State) : State :=
  if !s.reshape.olderWait then s
  else
    match olderClear s with
    | (true, s) => prepareHere (wrapAdd s.image.epoch 1 32) 0 s
    | (false, s) => s

/-- IMAGE_CTRL.reshape_start (11 R459, R472): from now on it is the reshape in progress (R476). -/
def startReshape (s : State) : State :=
  if s.isRoot && s.reshape.phase == 0 && !s.reshape.olderWait && !s.reshape.querying then
    let (d, s) := takeFree 64 s
    tryPrepare { s with reshape := { s.reshape with
      olderWait := true, newEpoch := wrapAdd s.image.epoch 1 32, affected := 0, digest := d, fault := 0, kids := s.liveKids } }
  else s

/-- IMAGE_CTRL.reshape_abort (11 R463, R472). -/
def requestAbort (s : State) : State :=
  if s.isRoot && (s.reshape.olderWait || (1 ≤ s.reshape.phase && s.reshape.phase ≤ 3)) then abortHere s else s

/-- This instance votes NO (11 R459 step 3, R474): the fault is entered, and so is the failing field's offset. -/
def voteNo (e : Rejection) (s : State) : State :=
  raiseNone e.fault srcLoader e.idx
    { s with
      image := { s.image with offset := e.off }
      reshape := { s.reshape with reading := false, voteNo := true, fault := e.fault } }
    |> writeJournal 1

/-- The instance loses its role, because the image that its journal chooses is rejected (13 R543 step 4). -/
def dropRole (s : State) : State :=
  { s with
    face := { s.face with role := 0, parentLive := false, childLive := 0 }
    image := { s.image with recs := [], bank0 := [], bank1 := [] }
    power := { s.power with phase := 2 }
    reshape := { s.reshape with phase := 0, querying := false, rolling := false, reading := false, resend := 0 } }

/-- A replaying instance has the new image and rolls forward (11 R467): it writes what SWAP wrote, and commits. -/
def rollForward (rs : List Rec) (s : State) : State :=
  let hdr := rs.headD {}
  let s := { s with
    power := { s.power with replay := 2 }
    reshape := { s.reshape with
      staged := rs, digest := hdr.u 48 32, census := hdr.u 80 32, affected := affectedOf rs, phase := 4
      rolling := false, reading := false, querying := false, kids := s.liveKids } }
  let mask := s.reshape.affected
  let s := s |> writeParts mask rs |> resetParts s.reshape.parts rs
  let s := ([0, 1, 2, 3] : List Nat).foldl (fun s t => writeBank t s) s
  s |> writeJournal 4 |> commitHere

/-- The affected mask of an image as it is read; 0 where its records cannot be told apart. -/
def maskOf (b : Blob) : Nat :=
  match parseRecords b (bytesAt b 32 4) (bytesAt b 32 4 / 16 + 1) 0 0 [] with
  | .inl ps => affectedOf (ps.map (·.r))
  | .inr _ => 0

/-- The new image has been read and checked (11 R459 step 3, R467). The root sends PREPARE. -/
def reshapeRead (img : Blob) (s : State) : State :=
  let b := s.imageBytes s.image.reshapeAddr img
  if s.reshape.rolling then
    match s.validate b with
    | .inl ps => rollForward (ps.map (·.r)) s
    | .inr e => s |> dropRole |> rejectImage e
  else
    let s := { s with reshape := { s.reshape with digest := bytesAt b 48 32 } }
    let s :=
      if s.isRoot then flood 1 { s with reshape := { s.reshape with affected := maskOf b } } else s
    match s.checkReshape b with
    | .inr e => voteNo e s
    | .inl ps =>
      let rs := ps.map (·.r)
      let hdr := rs.headD {}
      { s with reshape := { s.reshape with
          reading := false, staged := rs, digest := hdr.u 48 32, census := hdr.u 80 32, affected := affectedOf rs } }
        |> writeJournal 1

/-- A replaying instance learns that the reshape has committed: it reads the new image (11 R467). -/
def rollAsked (s : State) : State :=
  { s with reshape := { s.reshape with querying := false, rolling := true, reading := true, selfDone := false, heard := [] } }

/-- A child is lost (11 R464): before the commit, from the wait of R459 step 2 on, the reshape is aborted, by the root, or through a
NO vote of the node that sees it (log entry 48); after it the reshape completes without the child. -/
def childrenLost (s : State) : State :=
  let r := s.reshape
  let kids := r.kids.filter (fun x => s.liveKids.contains x)
  if kids.length == r.kids.length || (r.phase == 0 && !r.olderWait) then s
  else
    let s := { s with reshape := { r with kids := kids } }
    if r.phase == 4 then phaseDone s
    else if s.isRoot then abortHere s
    else sendUp 2 0 fltChildLost { s with reshape := { s.reshape with fault := fltChildLost } }

/-- The flit that a replay sends once the links are up again (11 R467). -/
def resendReplay (s : State) : State :=
  if s.power.phase == 4 && s.reshape.resend != 0 then
    let op := s.reshape.resend
    let s := { s with reshape := { s.reshape with resend := 0, askedAt := s.power.heart } }
    if op == 7 then { s with reshape := { s.reshape with kids := s.liveKids } } |> flood 7 |> selfDone
    else if op == 9 then flood 9 s
    else if op == 10 then sendQuery s
    else sendUp op 0 0 s
  else s

/-- What a change elsewhere in the block may let a reshape do (Job.reshape). -/
def reshapeWork (s : State) : State := s |> resendReplay |> childrenLost |> tryPrepare

/-! ### Reshape flits (11 R458, R462, R468) -/

/-- A phase's message has come from a child (11 R458). The DONE of a child that has rolled forward before this instance has is
remembered (R467). -/
def heardFrom (port phase : Nat) (s : State) : State :=
  let s' := { s with reshape := { s.reshape with heard := dedup (s.reshape.heard ++ [port]) } }
  if s.reshape.rolling then if phase == 4 then s' else s
  else if s.reshape.phase == phase then phaseDone s'
  else s

/-- Take a reshape flit at its target: op, result, fault, epoch, affected, sender. Flits of a reshape other than the one in
progress have no effect. -/
def takeReshape (port op result fault epoch affected src : Nat) (s : State) : State :=
  let r := s.reshape
  let mine := r.newEpoch == epoch
  match op with
  | 1 => if r.phase == 0 && !r.querying then s |> prepareHere epoch affected |> flood 1 else s
  | 2 =>
    if result == 1 then if mine then heardFrom port 1 s else s
    else if mine && 1 ≤ r.phase && r.phase ≤ 3 then
      let s := { s with reshape := { s.reshape with fault := fault } }
      if s.isRoot then abortHere s else sendUp 2 0 fault s
    else s
  | 3 => if mine && r.phase == 1 && !r.querying then s |> drainHere |> flood 3 else s
  | 4 => if mine then heardFrom port 2 s else s
  | 5 => if mine && r.phase == 2 && !r.querying then s |> swapHere |> flood 5 else s
  | 6 => if mine then heardFrom port 3 s else s
  | 7 =>
    if s.image.epoch == epoch then
      sendReshape (pathCode (s.partnerPath 0)) (reshapePayload 8 0 0 epoch affected) s
    else if mine && r.querying then s |> rollAsked |> flood 7
    else if mine && r.rolling then flood 7 s
    else if mine && r.phase == 3 then
      { s with reshape := { s.reshape with selfDone := false, heard := [] } }
        |> writeJournal 4 |> commitHere |> flood 7
    else s
  | 8 => if mine then heardFrom port 4 s else s
  | 9 => if mine && 1 ≤ r.phase && r.phase ≤ 3 then abortHere s else s
  | 10 =>
    if !s.isRoot then
      sendTo (pathCode [])
        { cls := 0, pool := poolSystem, kind := 0x07
          content := routed (reshapePayload 10 result fault epoch affected) (routeWord src (pathCode []) 0 true) } s
    else
      let committed :=
        match r.jLast with
        | some (ph, _, _, e, _) => (ph == 4 || ph == 5) && e == epoch
        | none => false
      let going := r.jOut.contains 4 && mine
      let s :=
        if !committed && !going && (r.olderWait || (1 ≤ r.phase && r.phase ≤ 3)) then requestAbort s else s
      sendReshape src (reshapePayload 11 (flag (committed || going)) 0 epoch affected) s
  | 11 =>
    if r.querying && mine then if result == 1 then rollAsked s else abortHere s
    else s
  | _ => s

end Sys2Proof.Machine
end

