-- ==== Sys2Proof/Machine/PowerUnit.lean ====
section
/-!
DEFINITION. The power governor, clock gating, the flush, and the halt of the block (13 R529 to R539, R541, R548).
-/
namespace Sys2Proof.Machine

/-! ### Power governor (12 R498, R499; 13 R537, R538) -/

/-- g of R537. -/
def State.gangWidth (s : State) : Nat := max 1 s.power.gangMax

/-- The next lower allowed width, or 0 (13 R537, R538). -/
def State.lowerWidth (s : State) : Nat :=
  if s.gangWidth < s.power.width then s.power.width - 1 else 0

/-- The next higher allowed width, or 4 (13 R537, R538). -/
def State.higherWidth (s : State) : Nat :=
  if s.power.width < s.gangWidth then min 4 s.gangWidth else min 4 (s.power.width + 1)

/-- W of the next window; windows below width 4 are counted (13 R538, R556). The count rises as the window begins. -/
def setWidth (w : Nat) (s : State) : State :=
  { s with power := { s.power with
      width := w, cappedWindows := if w < 4 then satInc s.power.cappedWindows 0xFFFFFFFF else s.power.cappedWindows } }
    |> later .sweep

/-- A telemetry gap while a cap is set: W is g, and FLT_TELEMETRY is raised once for the gap (13 R538). The entry's detail is
the last p_die, as the spec's example shows. -/
def governGap (s : State) : State :=
  let first := !s.power.gap
  let s := setWidth s.gangWidth { s with power := { s.power with gap := true } }
  if first then raiseNone fltTelemetry srcGovernor (fld s.power.sample 32 16) s else s

/-- A sample decides the next window (13 R538). -/
def governSample (w : Nat) (s : State) : State :=
  let v := fld w 0 16
  let p := fld w 32 16
  if v < 40000 || 60000 < v then
    let first := !s.power.busRange
    let s := setWidth 0 { s with power := { s.power with busRange := true } }
    if first then raiseNone fltBusRange srcGovernor p s else s
  else
    let s := { s with power := { s.power with gap := false, busRange := false } }
    if s.power.cap < p then setWidth s.lowerWidth s
    else if p + s.power.hyst < s.power.cap then setWidth s.higherWidth s
    else setWidth s.power.width s

/-- The sample is a telemetry gap: it is stale, or its number skips (12 R499). -/
def State.gapSample (s : State) (w : Nat) : Bool :=
  bit w 56 || (s.power.sampled && fld w 48 8 != (fld s.power.sample 48 8 + 1) % 256)

/-- PG_SAMPLE (12 R499; 13 R538). The governor decides while it runs. -/
def takeSample (w : Nat) (s : State) : State :=
  let gap := s.gapSample w
  let before := s.power.sample
  let s := { s with power := { s.power with sample := w, sampled := true, sampleAt := s.power.heart } }
  if s.power.cap == 0 || !s.runs swGov then s
  else if gap then
    let s := governGap { s with power := { s.power with sample := before } }
    { s with power := { s.power with sample := w } }
  else governSample w s

/-- A write of POWER_CAP (13 R536, R556; 01 R42). Without a cap W is 4. -/
def setCap (d : Nat) (s : State) : State :=
  let r := fld d 16 9
  let s := { s with power := { s.power with
    cap := fld d 0 16, hyst := fld d 32 16, capRatio := if r == 0 || 256 < r then s.power.capRatio else r } }
  if s.power.cap == 0 then
    { s with power := { s.power with width := 4, gap := false, busRange := false } } |> later .sweep
  else wakeUp swGov s

/-! ### Gating (13 R530) -/

/-- A launch that is being read, counted, reserved or created. -/
def Launch.busy (l : Launch) : Bool := l.phase != .running

/-- A formation waits on the step-rate floor: without it a step might be formed (04 R177, R178; 13 R530). -/
def State.floorWaits (s : State) (p : Nat) : Bool :=
  !(s.serve p).floorDone && (modServe p (fun v => { v with floorDone := true }) s).formMay p
    && (s.detOf p || (s.serve p).queues.any (fun q => !q.2.isEmpty))

/-- A domain is idle (13 R530; 01 R41, R42). -/
def State.idle (s : State) (d : Nat) : Bool :=
  if d == swDispatch then
    s.tasks.slots.all (fun e => e.2.st == .free || e.2.st == .pending || e.2.st == .seasoned)
      && s.jigs.buffer == 0 && !s.jigs.launches.any (fun e => e.2.phase == .creating)
  else if d == swJig then !s.jigs.launches.any (fun e => e.2.busy)
  else if d == swServe then
    s.queues.intake.isEmpty
      && s.serves.all (fun e => !e.2.running && e.2.misses.isEmpty && e.2.forming.isNone && e.2.done.isEmpty && !s.floorWaits e.1)
      && s.pages.all (fun e => e.2.moves.isEmpty && e.2.warm.isEmpty)
  else if d == swSync then
    s.queues.queues.all (fun e => e.2.held.isEmpty && e.2.reading.isNone)
      && s.queues.chans.all (fun e => e.2.sends.isEmpty && e.2.ring.all (fun m => m.skip || m.written))
      && s.jigs.exchanges.all (fun e => e.2.outs.isEmpty && e.2.landing.isEmpty)
      && !s.sync.dumpBusy
  else if d == swCombine then
    s.tasks.slots.all (fun e => !e.2.inBuffer) && s.reduce.buckets.all (fun e => !e.2.stuck)
  else if d == swLink then (List.range 9).all (fun x => !s.hasPort x || (s.port x).isl == 2)
  else if d == swBed then
    s.bed.reads.isEmpty && s.bed.writes.isEmpty && s.bed.readWait.isEmpty && s.bed.writeWait.isEmpty
  else s.power.cap == 0

/-- How long each domain has been idle, one hc later (13 R530, R531). -/
def idleTimes (s : State) : State :=
  { s with power := { s.power with
      idleFor := (List.range 8).map (fun d => if s.idle d then min (s.power.idleFor.getD d 0 + 1) 0xFFFF else 0) } }

/-- The domain gates (13 R529, R530): it keeps all its state. -/
def gate (d : Nat) (s : State) : State :=
  { s with power := { s.power with running := setAt s.power.running d false } }

/-- The domain runs again (01 R39). -/
def ungate (d : Nat) (s : State) : State :=
  { s with power := { s.power with
      running := setAt s.power.running d true, ungating := setAt s.power.ungating d false } }

/-- Bits of CLOCK_CTRL.force_on ask their domains to run (13 R530, R555). -/
def forceOn (mask : Nat) (s : State) : State :=
  { s with power := { s.power with
      forceOn := mask
      ungating := (List.range 8).map (fun d =>
        s.power.ungating.getD d false || (bit mask d && !s.power.running.getD d false)) } }

/-! ### Flush (13 R541) -/

/-- START_CTRL.flush: every dirty entry is written back, and from now on every update is written through. -/
def startFlush (s : State) : State :=
  writeThrough { s with power := { s.power with writeThrough := true, flushing := true } }

/-- The write writes a cached entry back. -/
def WriteFor.isBack (w : WriteFor) : Bool :=
  match w with
  | .stream _ _ => true
  | .ledger _ _ => true
  | _ => false

/-- The write writes back an entry of a partition. -/
def WriteFor.backOf (p : Nat) (w : WriteFor) : Bool :=
  match w with
  | .stream q _ => p == q
  | .ledger q _ => p == q
  | _ => false

/-- Updates of a partition's streams and pages are still being written to the tables (13 R541). -/
def State.writingBack (s : State) (p : Nat) : Bool :=
  !(s.serve p).dirty.isEmpty || !(s.page p).dirty.isEmpty || s.bed.writes.any (fun e => e.2.why.backOf p)
    || s.bed.writeWait.any (fun w => w.why.backOf p)

/-- Records whose updates have been accepted count as applied (13 R541). -/
def countWritten (s : State) : State :=
  if !s.power.writeThrough then s
  else
    s.serves.foldl (fun s e =>
      match e.2.applying with
      | some (seq, applied) =>
        if s.writingBack e.1 then s
        else s |> modServe e.1 (fun v => { v with applying := none }) |> countRecord e.1 seq applied
      | none => s) s

/-- The write-back of a flush is complete. -/
def State.flushOver (s : State) : Bool :=
  s.power.flushing && s.serves.all (fun e => e.2.dirty.isEmpty) && s.pages.all (fun e => e.2.dirty.isEmpty)
    && !s.bed.writes.any (fun e => e.2.why.isBack) && !s.bed.writeWait.any (fun w => w.why.isBack)

/-! ### The loss of clk_fast (13 R533) -/

/-- What a warm start would take over of a serving partition is unknown: free values from number `n` on. -/
def Serve.lost (n : Nat) (v : Serve) : Serve :=
  let x (k w : Nat) := Sys2Proof.Config.freeValue (n + k) % 2 ^ w
  { v with
    fenceSeq := x 0 32, fenceStep := x 1 32, step := x 2 32, expected := x 3 32, next := x 4 32
    fenceWritten := x 5 1 == 1, modelClock := x 6 64, kNum := x 7 64, kDen := x 8 64
    blocks := v.blocks.map (fun b => (b.1, x (16 + b.1) 32)) }

/-- The same of a partition's host queues. -/
def HostQ.lostState (n : Nat) (h : HostQ) : HostQ :=
  let x (k : Nat) := Sys2Proof.Config.freeValue (n + k) % 2 ^ 32
  { h with
    consumed := x 0, received := x 1, cplProduced := x 2, cplAcked := x 3, evtProduced := x 4, evtAcked := x 5
    cplSeq := x 6, evtSeq := x 7, lost := x 8 % 2 == 1 }

/-- A block store whose words are free values from number `n` on. -/
def lostStore (n : Nat) : List Host.Cell :=
  (List.range 8192).foldl (fun m k => storeWrite m (8 * k) 8 (Sys2Proof.Config.freeValue (n + k))) []

/-- The registers of the dispatch unit that a halted block still shows (14 R559): counters and ENGINE_STATE. -/
def Tasks.lost (n : Nat) (t : Tasks) : Tasks :=
  let x (k w : Nat) := Sys2Proof.Config.freeValue (n + k) % 2 ^ w
  { t with
    dispSeasoned := x 0 64, dispUnseasoned := x 1 64, seasonDrop := x 2 64, cplDiscard := x 3 64, transientCount := x 4 64
    lastingCount := x 5 64, scaleAccept := x 6 64
    engines := (List.range 512).map (fun p => (p,
      { busy := x (16 + 6 * p) 1 == 1, suspect := x (17 + 6 * p) 1 == 1, lasting := x (18 + 6 * p) 2
        transient := x (19 + 6 * p) 16, timedOut := x (20 + 6 * p) 1 == 1, taskId := x (21 + 6 * p) 32 })) }

/-- The counters of the jig unit. -/
def Jigs.lost (n : Nat) (j : Jigs) : Jigs :=
  let x (k : Nat) := Sys2Proof.Config.freeValue (n + k) % 2 ^ 64
  { j with launchesCount := x 0, created := x 1, nulls := x 2, skips := x 3, coldFetches := x 4 }

/-- REDUCE_STATUS and the counters of the ordered-combine buffer. -/
def Reduce.lost (n : Nat) (r : Reduce) : Reduce :=
  let x (k : Nat) := Sys2Proof.Config.freeValue (n + k) % 2 ^ 64
  { r with opened := x 0, closed := x 1, absent := x 2, late := x 3, nulls := x 4, lostStatus := some (x 5 % 2 ^ 28) }

/-- INTAKE_FRAME_DROPS, which SW_SERVE counts. -/
def State.lostDrops (s : State) : Nat :=
  if s.runs swServe then Sys2Proof.Config.freeValue (s.free + 0x5F1200) % 2 ^ 64 else s.queues.frameDrops

/-- `clk_fast` stops while domains run: their state is undefined (13 R533). What outlives the next reset of it, goes into a
FAULT event before, or is read in the halted block, takes free values; the rest is not looked at until a reset clears it (log entry
78). -/
def clockLost (s : State) : State :=
  { s with
    power := { s.power with fastStable := false }
    tasks := if s.runs swDispatch then s.tasks.lost (s.free + 0x5F0000) else s.tasks
    jigs := if s.runs swJig then s.jigs.lost (s.free + 0x5F1000) else s.jigs
    reduce := if s.runs swCombine then s.reduce.lost (s.free + 0x5F1100) else s.reduce
    serves :=
      if s.runs swServe then (List.range 64).map (fun p => (p, (s.serve p).lost (s.free + 0x10000 * p))) else s.serves
    queues :=
      if s.runs swSync then
        { s.queues with
          frameDrops := s.lostDrops
          hostqs := (List.range 64).map (fun p => (p, (s.hostq p).lostState (s.free + 0x400000 + 16 * p))) }
      else { s.queues with frameDrops := s.lostDrops }
    store := if s.runs swBed && !s.hasBed then lostStore (s.free + 0x500000) else s.store
    free := s.free + 0x600000 }

/-! ### Halt (13 R548) -/

/-- The instance halts: the links go down and block_fault is set. FAULT events follow when the entry is numbered. -/
def haltWork (s : State) : State :=
  if s.power.phase == 5 then s
  else
    let s := (List.range 9).foldl (fun s x => if s.hasPort x then dropPort x s else s) s
    { noteBit 0x1048 2 s with
      power := { s.power with phase := 5 }
      face := { s.face with blockFault := true }
      held := [], work := [] }

end Sys2Proof.Machine
end

