-- ==== Sys2Proof/Machine/WarmUnit.lean ====
section
/-!
DEFINITION. The two resets: the cold start (13 R540) and the warm start with its journal replay (13 R542 to R545;
11 R466, R467).
-/
namespace Sys2Proof.Machine

/-! ### Cold start (13 R540 step 1; 00 R19) -/

/-- Every field at its Reset value. What does not belong to the block stays: its build and place, the levels of
`clk_fast_stable` and of the link states, and the wrapper, which has a reset of its own. -/
def coldStart (s : State) : State :=
  { (State.reset) with
    build := s.build, nodeFn := s.nodeFn, place := s.place
    power := { (State.reset).power with fastStable := s.power.fastStable }
    ports := s.ports.map (fun p => { ({} : Port) with isl := p.isl })
    wrapper := { s.wrapper with undefined := false }
    clock := s.clock, free := s.free, pending := s.pending }

/-! ### The journal (11 R465, R466) -/

/-- An entry as a replay reads it. -/
structure JournalEntry where
  seq   : Nat := 0
  phase : Nat := 0
  old   : Nat := 0
  new   : Nat := 0
  mask  : Nat := 0
  oldImage : Nat := 0
  newImage : Nat := 0
  digest   : Nat := 0
deriving DecidableEq, Repr, Inhabited

/-- The entry in 512 bits, if its magic and check are right (11 R466). -/
def journalEntryOf (w : Nat) : Option JournalEntry :=
  if fld w 0 32 == 0x4C4E524A && fld w 480 32 == crc32 w 60 then
    some
      { seq := fld w 32 32, phase := fld w 64 8, old := fld w 128 32, new := fld w 160 32, mask := fld w 192 64
        oldImage := fld w 256 64, newImage := fld w 320 64, digest := fld w 384 64 }
  else none

/-- The last entry: the valid one with the greatest seq (11 R466). -/
def lastEntry (journal : Nat) : Option JournalEntry :=
  leastBy (fun a b => decide (b.seq < a.seq)) ((List.range 64).filterMap (fun k => journalEntryOf (fld journal (512 * k) 512)))

/-! ### What each kind of state becomes (13 R544) -/

/-- Host queues: the census is kept, the receive buffer and the records that wait are not (07 R323; 13 R544). -/
def HostQ.warm (h : HostQ) : HostQ :=
  { consumed := h.consumed, received := h.consumed, cplProduced := h.cplProduced, cplAcked := h.cplAcked
    evtProduced := h.evtProduced, evtAcked := h.evtAcked, cplSeq := wrapAdd h.cplProduced 1 32
    evtSeq := h.evtWriting.headD h.evtSeq, lost := h.lost }

/-- A step whose STEP_DONE record is dropped (13 R544). -/
def HostQ.drops? (h : HostQ) (step : Nat) : Bool :=
  (h.waiting ++ h.writing.toList.map (·.2)).any (fun r => fld r 32 8 == 1 && fld r 64 32 == step)

/-- What every partition keeps of its serving registers (04 R171, R208, R209; 13 R544). -/
def Serve.kept (v : Serve) : Serve :=
  { step := v.step, fenceSeq := v.fenceSeq, fenceStep := v.fenceStep, fenceWritten := v.fenceWritten, expected := v.expected }

/-- Serving state of a flushed partition (13 R544, R545): the running step is to be formed again. The blocks of steps whose record
is dropped are free as well (`warmFields`). -/
def Serve.warm (v : Serve) : Serve :=
  { v.kept with
    next := if v.running then v.step else v.next
    modelClock := v.modelClock, kNum := v.kNum, kDen := v.kDen
    streams := Tbl.each v.streams (fun _ x => { x with inStep := false })
    blocks := v.blocks.filter (fun b =>
      !(v.running && b.2 == v.step) && !v.done.any (fun d => d.step == b.2)) }

/-- A ledger entry after a warm start (13 R545): a move is undone, and a pinned entry is RESIDENT. -/
def Page.warm (e : Page) (m : Option Move) : Page :=
  let r : Page := { e with wanted := false, pins := 0 }
  match m with
  | some m => { r with state := 1, tier := m.srcTier, location := m.src }
  | none => if 1 ≤ e.state then { r with state := 1 } else r

/-- An INBOUND entry with location 0: a page that has no copy yet (13 R545). -/
def Page.fresh? (e : Page) : Bool := e.state == 2 && e.location == 0

/-- Pages of the abandoned step that have no copy are removed from the heads of their streams' lists (13 R545). -/
def dropFresh (p i : Nat) : Nat → State → State
  | 0, s => s
  | k + 1, s =>
    let x := s.stream p i
    let e := s.entry p x.pageHead
    if 0 < x.pageCount && e.fresh? then
      s |> updStream p i (fun x => { x with pageHead := e.next, pageCount := x.pageCount - 1 })
        |> updPage p x.pageHead (fun _ => {}) |> dropFresh p i k
    else s

/-- A flushed serving partition (13 R545): pages that have no copy go, streams leave the step, cancelled streams are
released, moves are undone. The caches are empty but for what the repairs have changed (13 R543 step 2). Streams join
their queues in ascending number (log entry 51). -/
def warmServing (p : Nat) (s : State) : State :=
  let v := s.serve p
  let ids := (v.streams.filter (fun e => e.2.state != 0)).map (·.1)
  let moves := (s.page p).moves
  let s := modServe p (fun _ => v.warm) s
  let s := modServe p (fun v => { v with uncached := ids, dirty := [] }) s
  let s := modPages p (fun g =>
    { ledger := g.ledger, uncached := (g.ledger.filter (fun e => e.2.state != 0)).map (·.1) }) s
  let s := ids.foldl (fun s i => dropFresh p i (s.stream p i).pageCount s) s
  let s := ((s.page p).ledger.filter (fun e => 1 < e.2.state)).foldl
    (fun s e => updPage p e.1 (fun x => x.warm (Tbl.find moves e.1)) s) s
  let s := ids.foldl
    (fun s i =>
      let x := s.stream p i
      let s := if (Tbl.at v.streams i {}).inStep then updStream p i id s else s
      if x.cancelled then releaseStream p i s else requeue p i s) s
  s |> modServe p (fun v => { v with uncached := v.uncached.filter (fun i => !v.dirty.contains i) })
    |> modPages p (fun g => { g with uncached := g.uncached.filter (fun i => !g.dirty.contains i) })

/-- A serving partition that was not flushed (13 R544): its streams and pages are written FREE. -/
def loseServing (p : Nat) (s : State) : State :=
  let s := modServe p (fun v => { v.warm with streams := [] }) s
  let s := modPages p (fun _ => {}) s
  let s := noteBit 0x1038 7 { s with power := { s.power with serveLost := true } }
  let n := 64 * s.streamCount p
  let m := 16 * s.ledgerCount p
  let s := if n == 0 then s else issueWrite .data (s.streamBase p |> s.streamAddr p) ⟨n, 0⟩ p 0 false s
  let s := if m == 0 then s else issueWrite .data (s.ledgerBase p |> s.ledgerAddr p) ⟨m, 0⟩ p 0 false s
  raisePart fltWarmServe srcSupervisor p 0 s

/-- The context hashes of a partition that no reshape has affected keep the image digest of its load (DESIGN CHOICE, log entry 99).
Fields that are not kept take their Reset values; the rest is as R544 says (13 R543 steps 1 and 2, R544). The serving
state and the image are looked at afterwards. -/
def warmFields (s : State) : State :=
  let s := numberFaults { s with work := [] }
  let live := fun (x : Nat) => if x == 0 then s.face.parentLive else bit s.face.childLive (x - 1)
  { s with
    power := { (State.reset).power with
      fastStable := s.power.fastStable, ratio := s.power.ratio, cap := s.power.cap, capRatio := s.power.capRatio
      hyst := s.power.hyst, flushed := s.power.flushed, heart := s.power.heart, gangMax := s.power.gangMax
      warm := true, phase := 1
      ungating := (List.range 8).map (fun d => d == swGov && s.power.cap != 0) }
    face := { (State.reset).face with
      role := s.face.role, depth := s.face.depth, treeDepth := s.face.treeDepth, leafIndex := s.face.leafIndex
      path := s.face.path, parentLive := s.face.parentLive, childLive := s.face.childLive }
    tasks := {}, jigs := {}, sync := {}, reduce := {}, bed := {}
    serves := Tbl.each s.serves (fun p v => { v with blocks := v.blocks.filter (fun b => !(s.hostq p).drops? b.2) })
    queues := { hostqs := Tbl.each s.queues.hostqs (fun _ h => h.warm) }
    ctxs := { ctxs := Tbl.each s.ctxs.ctxs (fun _ c => { partings := c.partings }) }
    dets := Tbl.each s.dets (fun _ d =>
      { det := d.det, boundary := d.boundary, first := d.first, asked := d.asked, records := d.records })
    fresh := []
    image := { s.image with
      addr := 0, loading := false, refused := false, fault := 0, failRec := 0, knotEdge := 0, knotValid := false, older := 0
      active := [0, 0, 0, 0], busy := [], commits := 0, aborts := 0, epochMix := 0 }
    reshape := { result := s.reshape.result }
    ports := (List.range 9).map (fun x => { ({} : Port) with isl := (s.port x).isl, wasLive := s.connected x && live x })
    held := [], outs := [], work := [] }

/-! ### The replay (11 R467; 13 R543) -/

/-- The image that the journal chooses, and the epoch (11 R467). -/
def State.chosenImage (s : State) (e : Option JournalEntry) : Nat × Nat :=
  match e with
  | some e =>
    if e.phase == 4 || e.phase == 5 then (e.newImage, e.new)
    else if 1 ≤ e.phase && e.phase ≤ 3 then (e.oldImage, e.old)
    else (s.image.runAddr, s.image.epoch)
  | none => (s.image.runAddr, s.image.epoch)

/-- The parse is skipped (13 R543 step 4). -/
def State.skipsParse (s : State) (e : Option JournalEntry) (addr digest : Nat) : Bool :=
  (addr == s.image.runAddr && digest == s.image.digest) ||
    (match e with
      | some e => (e.phase == 4 || e.phase == 5) && e.digest == fld digest 0 64
      | none => false)

/-- What the replay leaves of the reshape (11 R467). A roll-forward restarts the affected partitions, which take the digest of
the new image into their context hashes (04 R204, 11 R462). -/
def replayReshape (e : JournalEntry) (s : State) : State :=
  let s := { s with reshape := { s.reshape with
    jLast := some (e.phase, s.isRoot, e.old, e.new, e.mask)
    newEpoch := e.new, affected := e.mask, digest := e.digest } }
  if 1 ≤ e.phase && e.phase ≤ 3 then
    if s.isRoot then
      { s with
        power := { s.power with replay := 1 }
        reshape := { s.reshape with result := 2, resend := 9 }
        image := { s.image with aborts := wrapAdd s.image.aborts 1 64 }
        face := { s.face with reshapeDone := true } }
        |> noteBit 0x1048 1 |> writeParts e.mask s.image.recs |> writeJournal 6
    else
      { s with reshape := { s.reshape with phase := e.phase, querying := true, resend := 10 } }
  else if e.phase == 4 then
    { (if s.isRoot then s else noteBit 0x1048 1 s) with
      power := { s.power with replay := 2 }
      image := { s.image with commits := wrapAdd s.image.commits 1 64 }
      reshape :=
        if s.isRoot then { s.reshape with phase := 4, resend := 7 }
        else { s.reshape with result := 1, resend := 8 }
      face := { s.face with reshapeDone := s.face.reshapeDone || !s.isRoot } }
      |> takeDigest (bitsSet e.mask 64)
  else s

/-- DET of the partitions as the image has it, when the journal replay sets it (13 R544). -/
def warmDets (s : State) : State :=
  s.parts.foldl (fun s p => modDet p (fun d => { d with det := bit (s.recU tyDet p 0 16 1) 0 }) s) s

/-- Serving state after a warm start (13 R544): homes with streams keep it or lose it; of every other partition only the kept
registers stay. -/
def warmServes (flushed : Bool) (s : State) : State :=
  let homes := s.parts.filter (fun p => s.isHome p && s.serves? p)
  let s := { s with
    serves := Tbl.each s.serves (fun p v => if homes.contains p then v else v.kept)
    pages := s.pages.filter (fun e => homes.contains e.1) }
  homes.foldl (fun s p => if flushed then warmServing p s else loseServing p s) s

/-- Ports train again (13 R543 step 5). -/
def warmPorts (s : State) : State :=
  (List.range 9).foldl (fun s x => discoverPort x s) s |> later .start

/-- The warm start of an instance that holds a role, from the replay of the journal on (13 R543 steps 3 to 6, R544). -/
def warmStart (journal img : Blob) (s : State) : State :=
  let flushed := s.power.flushed
  let j := if s.hasBed then journal.bits else storeRead s.store s.journalBase 4096
  let e := lastEntry j
  let (addr, epoch) := s.chosenImage e
  let b := s.imageBytes addr img
  let digest := bytesAt b 48 32
  let skip := s.skipsParse e addr digest
  let parsed := if skip then parseRecords b (bytesAt b 32 4) (bytesAt b 32 4 / 16 + 1) 0 0 [] else s.validate b
  match parsed with
  | .inr r => s |> dropRole |> rejectImage r
  | .inl ps =>
    let rs := ps.map (·.r)
    let s :=
      if skip then
        let s := installRecords addr rs s
        { s with
          image := { s.image with epoch := epoch }
          reshape := { s.reshape with jSeq := match e with
            | some e => wrapAdd e.seq 1 32
            | none => 0 }
          power := { s.power with parseSkipped := true, phase := 3 } }
      else
        let s := loadImage addr rs s
        { s with image := { s.image with epoch := epoch } }
    let s := warmDets s
    let s := match e with
      | some e => replayReshape e s
      | none => s
    let s := warmServes flushed s
    if skip then warmPorts s else s

/-- The release of the warm reset (13 R543 steps 1 and 2): CLEAR begins. What the replay will read of bed memory waits until it
is over. -/
def warmReset (journal img : Blob) (s : State) : State :=
  let s := warmFields s
  { s with power := { s.power with replayIn := some (journal, img) } }

/-- CLEAR is over after a warm reset (13 R543 step 3). Without a role there is no journal to replay: the instance still holds
none. -/
def warmCleared (journal img : Blob) (s : State) : State :=
  let s := { s with power := { s.power with phase := 2, replayIn := none } }
  if s.hasRole then warmStart journal img s
  else { s with serves := Tbl.each s.serves (fun _ v => v.kept), pages := [] }

end Sys2Proof.Machine
end

