-- ==== Sys2Proof/Machine/FaceUnit.lean ====
section
/-!
DEFINITION. The faceplate: which accesses are carried out, what every register reads, and what a write of each does
(14; 00 R17 to R20; 12 R481 to R483, R525 to R528; 13 R555 to R558).
-/
namespace Sys2Proof.Machine

/-! ### Where the registers lie (14 R559, R563 to R574) -/

/-- Stands for the heartwood domain in the tables below. -/
def domHeart := 8

/-- Registers outside the partition blocks: first offset, number of registers, domain. -/
def regTable : List (Nat × Nat × Nat) :=
  [(0x00000, 4, 8), (0x00040, 8, 8), (0x01000, 10, 8), (0x01050, 1, 6), (0x01058, 1, 8), (0x01100, 9, 8),
   (0x50000, 9, 3), (0x50080, 6, 3), (0x51000, 576, 3),
   (0x80000, 5, 3), (0x80040, 4, 3), (0x80200, 64, 3), (0x81000, 256, 3), (0xA0000, 8192, 6)]
  ++ [(0xC0000, 10, 8), (0xC0080, 8, 8), (0xC0100, 3, 8), (0xE0000, 5, 8), (0xE0100, 7, 0), (0xE0138, 5, 1),
   (0xE0160, 6, 4), (0xE0190, 1, 2), (0xE1000, 512, 0)]

/-- Registers of a partition block: first offset, number, domain, and scope: 0 any, 1 home, 2 intake (14 R570). -/
def blockTable : List (Nat × Nat × Nat × Nat) :=
  [(0x000, 1, 0, 0), (0x008, 1, 1, 1), (0x010, 3, 2, 1), (0x028, 1, 8, 2), (0x030, 3, 2, 1), (0x048, 1, 8, 0),
   (0x050, 1, 8, 1), (0x058, 1, 8, 0), (0x060, 1, 0, 0), (0x068, 1, 8, 0), (0x070, 4, 3, 1), (0x090, 1, 8, 1)]
  ++ [(0x100, 32, 8, 0), (0x200, 12, 2, 1), (0x260, 1, 0, 0), (0x268, 1, 3, 0), (0x270, 2, 0, 0), (0x280, 2, 8, 0),
   (0x290, 1, 3, 0), (0x298, 1, 5, 0), (0x2A0, 1, 3, 1)]

/-- The offset lies in a partition block. -/
def inBlocks (off : Nat) : Bool := decide (0x10000 ≤ off) && decide (off < 0x50000)

/-- Partition and offset in the block. -/
def blockPart (off : Nat) : Nat := (off - 0x10000) / 0x1000
def blockOff (off : Nat) : Nat := off % 0x1000

/-- The domain of the register at an offset; none where there is no register. -/
def regDomain (off : Nat) : Option Nat :=
  if inBlocks off then
    (blockTable.find? (fun e => decide (e.1 ≤ blockOff off) && decide (blockOff off < e.1 + 8 * e.2.1))).map (·.2.2.1)
  else (regTable.find? (fun e => decide (e.1 ≤ off) && decide (off < e.1 + 8 * e.2.1))).map (·.2.2)

/-- Scope of a partition-block register. -/
def blockScope (off : Nat) : Nat :=
  ((blockTable.find? (fun e => decide (e.1 ≤ blockOff off) && decide (blockOff off < e.1 + 8 * e.2.1))).map
    (·.2.2.2)).getD 0

/-- Element of an array of registers. -/
def elemOf (off first : Nat) : Nat := (off - first) / 8

/-- The offset lies in an array of `n` registers. -/
def inArray (off first n : Nat) : Bool := decide (first ≤ off) && decide (off < first + 8 * n)

/-- A serving register of a partition block (14 R561). -/
def servingReg (o : Nat) : Bool :=
  inArray o 0x10 3 || o == 0x28 || o == 0x30 || inArray o 0x200 7

/-- A PAGE_ register of a partition block. -/
def pageReg (o : Nat) : Bool := o == 0x38 || o == 0x40 || inArray o 0x238 5

/-- The register is absent from the build (14 R561). -/
def State.regAbsent (s : State) (off : Nat) : Bool :=
  let b := s.build
  if inBlocks off then
    let o := blockOff off
    decide (b.partitions ≤ blockPart off)
      || (inArray o 0x100 32 && decide (b.contexts ≤ elemOf o 0x100))
      || (servingReg o && b.streamCache == 0) || (pageReg o && b.pageLedger == 0)
  else
    (inArray off 0x81000 256 && decide (b.queues ≤ elemOf off 0x81000))
      || (inArray off 0x80200 64 && decide (ceilDiv b.channels 64 ≤ elemOf off 0x80200))
      || (inArray off 0xE1000 512 && decide (b.enginePorts ≤ elemOf off 0xE1000))
      || (inArray off 0x51000 576 && !s.hasWire (elemOf off 0x51000))
      || (inArray off 0x1100 9 && (if off == 0x1100 then b.parentPorts == 0 else s.childPorts == 0))
      || ((off == 0x50038 || off == 0x50040 || off == 0x1050) && !s.hasBed)
      || (inArray off 0xA0000 8192 && s.hasBed)

/-- The region of the offset is answered in the instance's present state (14 R559). -/
def State.regionOpen (s : State) (off : Nat) (write : Bool) : Bool :=
  let identity := decide (off < 0x1000)
  let loader := decide (0xC0000 ≤ off) && decide (off < 0xE0000)
  let faults := decide (0xE0000 ≤ off)
  if s.power.phase == 5 then !write && (identity || loader || faults)
  else if !s.hasRole then identity || loader || inArray off 0xA0000 8192
  else true

/-- The register is served at this instance (14 R562; 04 R163). -/
def State.regServed (s : State) (off : Nat) : Bool :=
  if inBlocks off then
    let p := blockPart off
    s.partConfigured p &&
      (match blockScope off with
        | 0 => true
        | 1 => s.isHome p
        | _ => s.isHome p || (s.isRoot && (s.image.recs.any (fun r =>
            r.type == tyTreeRole && fld r.scope 0 15 == s.homeCode p && r.u 16 1 == 2))))
  else true

/-- What becomes of an access (14 R560). -/
inductive Access where
  | unmapped | closed | unserved
  /-- It is carried out in a domain. -/
  | reach (d : Nat)
deriving DecidableEq, Repr

/-- Judge an access (14 R560). -/
def State.judge (s : State) (off : Nat) (write : Bool) : Access :=
  match regDomain off with
  | none => .unmapped
  | some d =>
    if s.regAbsent off then .unmapped
    else if !s.regionOpen off write then .closed
    else if !s.regServed off then .unserved
    else .reach d

/-! ### Interrupt (12 R483) -/

/-- Pending bits of IRQ_PART (12 R526). -/
def HostQ.pendingBits (h : HostQ) : Nat := flag (h.cplProduced != h.cplAcked) + 2 * flag (h.evtProduced != h.evtAcked)

/-- Bits 2:0 of IRQ_GLOBAL (12 R527). -/
def Face.irqBits (f : Face) : Nat := flag f.loadDone + 2 * flag f.reshapeDone + 4 * flag f.blockFault

/-- The level of `fp_irq` (12 R483). -/
def State.irqLine (s : State) : Bool :=
  (List.range 3).any (fun k => bit s.face.irqBits k && bit s.face.enable k) ||
    s.queues.hostqs.any (fun e =>
      (bit e.2.pendingBits 0 && e.2.cplEn) || (bit e.2.pendingBits 1 && e.2.evtEn))

/-! ### Reading (00 R17) -/

/-- TREE_POSITION (01 R35). -/
def State.treePosition (s : State) : Nat :=
  let f := s.face
  put f.role 0 2 + put f.depth 2 3 + put f.treeDepth 5 3 + put f.leafIndex 8 12 + put (f.path.getD 0 0) 20 3
    + put (f.path.getD 1 0) 23 3 + put (f.path.getD 2 0) 26 3 + put (f.path.getD 3 0) 29 3
    + put (flag f.parentLive) 32 1 + put f.childLive 33 8

/-- FP_STATUS (14 R566). -/
def Face.status (f : Face) : Nat :=
  flag f.unmapped + 2 * flag f.closed + 4 * flag f.unconfigured + put f.lastAddr 3 17 + put (flag f.lastWrite) 20 1

/-- A list of flags as bits. -/
def flags (l : List Bool) : Nat := (List.range l.length).foldl (fun acc i => acc + flag (l.getD i false) * 2 ^ i) 0

/-- LINK_STATE (12 R525). -/
def Port.stateReg (p : Port) : Nat :=
  put p.state 0 3 + put p.crcErr 8 16 + put p.replays 24 16 + put p.retrains 40 8 + put p.protocol 48 8
    + put p.refusals 56 8

/-- BED_STATUS.reads_out (12 R494, R528). While the image loader or a reshape reads an image its reads are outstanding too; how
many at a moment is open (log entry 100). -/
def State.readsOut (s : State) : Nat :=
  let n := s.bed.reads.length
  if s.hasBed && (s.image.loading || s.reshape.reading) then n + Sys2Proof.Config.freeValue (2 ^ 64 + s.clock) % (513 - n) else n

/-- The global control region (14 R568; 12 R527, R528; 13 R555 to R557). -/
def State.readGlobal (s : State) (off : Nat) : Nat :=
  let w := s.power
  if off == 0x1000 then put w.idleHold 0 16 + put w.forceOn 16 8
  else if off == 0x1008 then flags w.running + put (flag s.fastReq) 8 1 + put (flag w.fastStable) 9 1
  else if off == 0x1010 then w.ratio
  else if off == 0x1018 then put w.cap 0 16 + put w.capRatio 16 9 + put w.hyst 32 16
  else if off == 0x1020 then
    put w.width 0 3 + put s.gangWidth 3 3 + put (flag w.gap) 6 1 + put (flag w.busRange) 7 1 + put w.cappedWindows 32 32
  else if off == 0x1028 then w.sample
  else if off == 0x1038 then
    put w.phase 0 3 + put (flag w.warm) 3 1 + put (flag w.parseSkipped) 4 1 + put (flag w.discoverySkipped) 5 1
      + put (flag w.flushed) 6 1 + put (flag w.serveLost) 7 1 + put w.replay 8 2
  else if off == 0x1040 then s.image.runAddr
  else if off == 0x1048 then s.face.irqBits + put s.face.enable 8 3 + put (flag s.irqLine) 16 1
  else if off == 0x1050 then
    put s.readsOut 0 10 + put s.bed.writes.length 10 10 + put (flag s.bed.windowErr) 20 1 + put s.bed.retried 21 16
  else if off == 0x1058 then w.heart % 2 ^ 64
  else if inArray off 0x1100 9 then (s.port (elemOf off 0x1100)).stateReg
  else 0

/-- CTX_STATE (08 R369). -/
def State.ctxState (s : State) (p c : Nat) : Nat :=
  let x := s.ctx p c
  let code := match x.st with
    | .dormant => 0 | .arriving => 1 | .resident => 2 | .parting => 3 | .parted => 4
  let cls := s.ctxClass p c
  let conf := s.ctxConfigured p c
  put code 0 3 + put cls 3 3 + put (if conf then s.classPrio p cls else 0) 6 3
    + put (flag (conf && (s.slice p).running == some cls)) 9 1 + put (flag (s.holding p c)) 10 1
    + put (flag (s.ctxs.runs.any (fun r => r.part == p && r.ctx == c && (r.st == 3 || r.st == 4)))) 11 1
    + put (flag x.lineWait) 12 1 + put (flag x.demoteRefused) 13 1 + put (flag x.restoreRefused) 14 1
    + put x.fault 16 16 + put x.partings 32 32

/-- PAGE_USE (05 R243). -/
def State.pageUse (s : State) (p : Nat) : Nat :=
  let g := s.page p
  let used := (List.range 4).foldl (fun n f => n + (dedup (s.usedFrames p f 0)).length) 0
  put used 0 24 + put (g.ledger.filter (fun e => e.2.tier == 0 && e.2.state == 4)).length 24 24
    + put g.moves.length 48 7 + put (flag (!(s.placing p).isEmpty)) 55 1
    + put (g.outside.filter (fun o => o.active)).length 56 8

/-- PART_LIMITS (08 R371). The bound is the 50 µs of T and the time to spill the whole spill range at the lowest fast clock of
the image, rounded up, as the chapter's worked case has it (08 R341, R353; log entry 76). -/
def State.partLimits (s : State) (p : Nat) : Nat :=
  let mhz := ((s.image.recs.headD {}).u 40 2)
  put (s.quantumUs p) 0 24 + put (s.holdLimitUs p) 24 14
    + put (50 + (if mhz == 0 then 0 else ceilDiv (s.spillCount * s.lineCost) mhz)) 38 16

/-- A partition block (14 R570). -/
def State.readBlock (s : State) (p o : Nat) : Nat :=
  let v := s.serve p
  let h := s.hostq p
  let g := s.page p
  let x := s.slice p
  if o == 0x000 then s.threshold p
  else if o == 0x010 then flag v.enable + 2 * flag v.autoRelease + put v.holdSteps 8 8
  else if o == 0x018 then put v.fenceSeq 0 32 + put v.fenceStep 32 32
  else if o == 0x030 then
    put v.step 0 32 + put (flag v.running) 32 1 + put (flag v.releaseWait) 33 1 + put (flag (s.waitsFence p)) 34 1
      + put v.formationNs 48 16
  else if o == 0x040 then s.pageUse p
  else if o == 0x048 then s.detStatus p
  else if o == 0x060 then
    put (x.running.getD 0) 0 3 + put (flag x.running.isNone) 3 1
      + flags ((List.range 8).map (fun k => s.eligible p k)) * 16 + put (flag x.deferred) 12 1
  else if o == 0x068 then s.partLimits p
  else if o == 0x070 then put h.consumed 0 32 + put h.received 32 32
  else if o == 0x078 then put h.cplProduced 0 32 + put h.cplAcked 32 32
  else if o == 0x080 then put h.evtProduced 0 32 + put h.evtAcked 32 32
  else if o == 0x088 then flag h.cplFull
  else if o == 0x090 then h.pendingBits + put (flag h.cplEn) 8 1 + put (flag h.evtEn) 9 1
  else if inArray o 0x100 32 then s.ctxState p (elemOf o 0x100)
  else if inArray o 0x200 12 then
    [v.stepCount, v.intakeApplied, v.intakeReject, v.intakeDup, v.deadlineMiss, v.fallbackCount, v.overBudgetCount,
      g.allocs, g.ins, g.outs, g.freed, g.stalls].getD (elemOf o 0x200) 0
  else if o == 0x260 then (s.det p).nondet
  else if o == 0x268 then (s.det p).hazard
  else if inArray o 0x270 6 then
    [x.switches, x.preempts, x.gougeLines, x.restoreLines, x.taintSeen, x.remoteLost].getD (elemOf o 0x270) 0
  else if o == 0x2A0 then h.drops
  else 0

/-- The synchronisation debug window (14 R571; 06 R280 to R284). -/
def State.readSync (s : State) (off : Nat) : Nat :=
  let y := s.sync
  if off == 0x50000 then put y.dbgObject 0 16 + put (flag y.dbgKind) 16 1 + put (flag y.dbgValid) 17 1
  else if inArray off 0x50008 4 then fld y.dbgData (64 * elemOf off 0x50008) 64
  else if off == 0x50030 then
    put y.hostValue 0 32 + put y.hostResp 32 3 + put y.hostFault 35 16 + put (flag y.hostDone) 63 1
  else if off == 0x50040 then flag y.dumpBusy + 2 * flag y.dumpError + put y.dumps 32 32
  else if inArray off 0x50080 6 then
    [y.requests, y.sleeps, y.wakes, y.returned, y.remoteSent, y.remoteApplied].getD (elemOf off 0x50080) 0
  else if inArray off 0x51000 576 then (s.waiter (elemOf off 0x51000)).record
  else 0

/-- The word of CHAN_ENABLE register `j` (07 R329). -/
def State.enableWord (s : State) (j : Nat) : Nat := Tbl.at s.queues.enables j 0xFFFFFFFFFFFFFFFF

/-- The queue windows (14 R572; 07 R327 to R331; 01 R46). -/
def State.readQueues (s : State) (off : Nat) : Nat :=
  let q := s.queues
  if off == 0x80008 then q.hostWdata.toNat
  else if off == 0x80010 then q.hostData % 2 ^ 64
  else if off == 0x80018 then put q.hostFlags 0 5 + put q.hostCode 5 16 + put (flag q.hostDone) 63 1
  else if off == 0x80020 then q.underruns
  else if off == 0x80040 then q.statSel
  else if off == 0x80048 then (s.chan q.statSel).msgs
  else if off == 0x80050 then (s.chan q.statSel).nacks
  else if off == 0x80058 then (s.chan q.statSel).stalls
  else if inArray off 0x80200 64 then s.enableWord (elemOf off 0x80200)
  else if inArray off 0x81000 256 then s.queueState (elemOf off 0x81000)
  else if inArray off 0xA0000 8192 then storeRead s.store (off - 0xA0000) 8
  else 0

/-- RESHAPE_STATUS (11 R476). -/
def State.reshapeStatus (s : State) : Nat :=
  let r := s.reshape
  put r.phase 0 3 + put r.result 3 2 + put (flag r.olderWait) 5 1 + put (flag r.drainWait) 6 1
    + put (flag (r.phase == 3 && !s.image.busy.isEmpty)) 7 1 + put (flag r.doorbellDrop) 8 1 + put r.fault 16 16
    + put r.newEpoch 32 32

/-- The image loader region (14 R573; 11 R473 to R477). -/
def State.readLoader (s : State) (off : Nat) : Nat :=
  let i := s.image
  if off == 0xC0000 then i.addr
  else if off == 0xC0008 then i.reshapeAddr
  else if off == 0xC0018 then put i.state 0 2 + put (flag i.refused) 2 1 + put i.fault 16 16 + put i.failRec 32 20
  else if off == 0xC0020 then put i.knotEdge 0 50 + put (flag i.knotValid) 50 1
  else if off == 0xC0028 then i.epoch
  else if off == 0xC0030 then i.older
  else if off == 0xC0038 then s.reshapeStatus
  else if off == 0xC0040 then
    flags ((List.range 4).map (fun t => i.busy.contains t)) + flags (i.active.map (· == 1)) * 256
  else if off == 0xC0048 then i.offset
  else if inArray off 0xC0080 4 then fld i.digest (64 * elemOf off 0xC0080) 64
  else if inArray off 0xC00A0 4 then fld i.census (64 * elemOf off 0xC00A0) 64
  else if off == 0xC0100 then i.commits
  else if off == 0xC0108 then i.aborts
  else if off == 0xC0110 then i.epochMix
  else 0

/-- ENGINE_STATE (02 R117). -/
def State.engineState (s : State) (port : Nat) : Nat :=
  let e := s.engine port
  let v := s.virtOf s.mapBank port
  put (v.getD 0) 0 9 + put (flag v.isSome) 9 1 + put (flag e.busy) 10 1 + put (flag e.suspect) 11 1 + put e.lasting 12 2
    + put e.transient 14 16 + put (flag e.timedOut) 31 1 + put e.taskId 32 32

/-- The fault and telemetry region (14 R574; 13 R558; 02 R116; 03 R161; 09 R403, R404). -/
def State.readFaults (s : State) (off : Nat) : Nat :=
  let f := s.faults
  let t := s.tasks
  let j := s.jigs
  let r := s.reduce
  if off == 0xE0000 then put f.lastSeq 0 16 + put (flag f.empty) 16 1 + put f.overwritten 32 32
  else if off == 0xE0008 then put f.selSeq 0 16 + put (flag f.selValid) 16 1
  else if off == 0xE0010 then f.entry0
  else if off == 0xE0018 then f.entry1
  else if off == 0xE0020 then f.raised
  else if inArray off 0xE0100 7 then
    [t.dispSeasoned, t.dispUnseasoned, t.seasonDrop, t.cplDiscard, t.transientCount, t.lastingCount,
      t.scaleAccept].getD (elemOf off 0xE0100) 0
  else if inArray off 0xE0138 5 then
    [j.launchesCount, j.created, j.nulls, j.skips, j.coldFetches].getD (elemOf off 0xE0138) 0
  else if off == 0xE0160 then r.lostStatus.getD s.reduceStatus
  else if inArray off 0xE0168 5 then
    [r.opened, r.closed, r.absent, r.late, r.nulls].getD (elemOf off 0xE0168) 0
  else if off == 0xE0190 then s.queues.frameDrops
  else if inArray off 0xE1000 512 then s.engineState (elemOf off 0xE1000)
  else 0

/-- What the register at an offset reads, where the access is carried out. WO fields read 0 (00 R17). -/
def State.readReg (s : State) (off : Nat) : Nat :=
  if off == 0 then 0x00030001
  else if off == 8 then s.build.code + 8 * flag s.hasNodeFn
  else if off == 0x10 then s.treePosition
  else if off == 0x18 then s.face.status
  else if inArray off 0x40 8 then s.buildParam (elemOf off 0x40)
  else if decide (off < 0x10000) then s.readGlobal off
  else if inBlocks off then s.readBlock (blockPart off) (blockOff off)
  else if decide (off < 0x80000) then s.readSync off
  else if decide (off < 0xC0000) then s.readQueues off
  else if decide (off < 0xE0000) then s.readLoader off
  else s.readFaults off

/-- What a register that is not served reads: its Reset value (14 R562). The registers with one other than 0. -/
def resetOf (o : Nat) : Nat :=
  if o == 0x000 then 1
  else if o == 0x010 then 0x1002
  else if o == 0x060 then 8
  else if inArray o 0x070 3 then 0xFFFFFFFFFFFFFFFF
  else 0

/-- An access is one of a 1 MiB window, naturally aligned (00 R20, 12 R481). -/
def alignOff (off : Nat) : Nat := off % 0x100000 / 8 * 8

/-- `fp_req_id` of a request at the faceplate port, which the response echoes (12 R481). The commands that are writes of one
register have the tag 0 (log entry 98). -/
def fpId (off : Nat) : Nat := fld off 20 4

/-- `fp_req_write` of the request is 0. -/
def isRead (off : Nat) : Bool := bit off 24

/-- An access that is carried out in a sapwood domain is a request to it: its idle hold starts again (13 R531; 14 R576). -/
def rested (off : Nat) (s : State) : State :=
  match regDomain off with
  | some d => if d == domHeart then s else restHold d s
  | none => s

/-- FP_STATUS notes an access that is not carried out (14 R560, R566). -/
def noteAccess (off : Nat) (write : Bool) (unm clo unc : Bool) (s : State) : State :=
  let bits := (if unm then [0] else []) ++ (if clo then [1] else []) ++ (if unc then [2] else [])
  { bits.foldl (fun s i => noteBit 0x18 i s) s with
    face := { s.face with
      unmapped := s.face.unmapped || unm, closed := s.face.closed || clo, unconfigured := s.face.unconfigured || unc
      lastAddr := off / 8, lastWrite := write } }

/-! ### Accepted requests (12 R482) -/

/-- A faceplate request waits: it is one of the accepted requests (12 R482), which this domain number and those above it
name. -/
def domFaceplate := 10

/-- The number under which an accepted request waits: it says how the access has been judged in the hc of acceptance
(14 R578). -/
def Access.queue : Access → Nat
  | .reach _ => domFaceplate
  | .unmapped => 11
  | .closed => 12
  | .unserved => 13

/-- The number of a request that waits at the port, not accepted: the block holds 16 accepted ones (12 R482). -/
def domPort := 14

/-- What is held is an accepted faceplate request. -/
def State.isAccepted (h : Nat × Instr) : Bool := decide (domFaceplate ≤ h.1) && h.1 != domPort

/-- Faceplate requests wait. -/
def State.faceWaits (s : State) : Bool := s.held.any (fun h => decide (domFaceplate ≤ h.1))

/-- The access needs a domain that is gated (01 R39; 14 R576). -/
def State.gatedFor (s : State) (a : Access) : Option Nat :=
  match a with
  | .reach d => if d != domHeart && !s.runs d then some d else none
  | _ => none

/-- The domain that an access needs is asked to run, if it is gated (01 R39). -/
def askDomain (a : Access) (s : State) : State :=
  { s with
    power := { s.power with
      ungating := match s.gatedFor a with
        | some d => setAt s.power.ungating d true
        | none => s.power.ungating } }

/-- A request waits behind those accepted before it, or for a gated domain, which it asks to run (01 R39; 12 R482). A 17th is not
accepted: it waits at the port. -/
def queueAccess (a : Access) (i : Instr) (s : State) : State :=
  if 16 ≤ (s.held.filter State.isAccepted).length then { s with held := s.held ++ [(domPort, i)] }
  else askDomain a { s with held := s.held ++ [(a.queue, i)] }

/-- The offset of the access that a WB_FPACCESS value asks for (12 R504). -/
def accessOff (w : Nat) : Nat := 8 * fld w 0 17

/-- How a request is judged in the hc in which it is accepted (14 R560). -/
def State.judgeOf (s : State) (i : Instr) : Access :=
  match i with
  | .fpWrite off _ => s.judge (alignOff off) (!isRead off)
  | .wbFpaccess data => s.judge (accessOff data.toNat) false
  | _ => .unmapped

/-- There is room again: the first request at the port is accepted. -/
def admitAccess (s : State) : State :=
  match s.held.find? (fun h => h.1 == domPort) with
  | none => s
  | some (_, i) =>
    askDomain (s.judgeOf i) { s with held := setAt s.held (s.held.findIdx (fun h => h.1 == domPort)) ((s.judgeOf i).queue, i) }

/-- A faceplate read that was judged so as it was accepted: its data, and what it leaves in FP_STATUS (14 R560). -/
def fpRead (q off : Nat) (s : State) : Nat × State :=
  let off := alignOff off
  if q == domFaceplate then (s.readReg off, rested off s)
  else if q == 12 then (0, noteAccess off false false true false s)
  else if q == 13 then (resetOf (blockOff off), s)
  else (0, s)

/-! ### Writing (00 R17, R18; 14 R577) -/

/-- Bit `i` of the W1C register at `off` after a write of `d`: a 1 clears it (00 R17), unless an event has set it in this hc
(00 R18). -/
def State.w1c (s : State) (off : Nat) (old : Bool) (d i : Nat) : Bool := old && (!bit d i || s.noted off i)

/-- CTX_CTRL (08 R370). Each bit written as 1 acts, in bit order. -/
def ctxControl (p d : Nat) (s : State) : State :=
  let c := fld d 0 5
  let s := if bit d 5 then bringIn p c s else s
  let s := if bit d 6 && s.ctxConfigured p c then demote p c s else s
  let s := if bit d 7 then raiseCtx fltHostPart srcFaceplate p c 0 s else s
  if bit d 8 then askRestore p c s else s

/-- A write of an acked field (07 R324). -/
def ackHostq (p : Nat) (evt : Bool) (d : Nat) (s : State) : State :=
  let new := fld d 32 32
  let h := s.hostq p
  let old := if evt then h.evtAcked else h.cplAcked
  let top := if evt then h.evtProduced else h.cplProduced
  if sub32 top old < sub32 new old then s
  else
    s |> modHostq p (fun h => if evt then { h with evtAcked := new } else { h with cplAcked := new }) |> later (.hostq p)

/-- A write to a partition block (14 R570). -/
def writeBlock' (p o d : Nat) (s : State) : State :=
  let off := 0x10000 + 0x1000 * p + o
  if o == 0x000 then
    let v := fld d 0 3
    if v == 0 || 4 < v then s
    else { s with tasks := { s.tasks with thresholds := Tbl.put s.tasks.thresholds p v } }
  else if o == 0x008 then doorbell p d s
  else if o == 0x010 then
    modServe p (fun v => { v with enable := bit d 0, autoRelease := bit d 1, holdSteps := fld d 8 8 }) s
  else if o == 0x018 then
    modServe p (fun v => { v with fenceSeq := fld d 0 32, fenceStep := fld d 32 32, fenceWritten := true }) s
  else if o == 0x020 then releaseStep p (fld d 0 32) s
  else if o == 0x028 then if bit d 0 then wakeUp swServe s else s
  else if o == 0x038 then queueWarm p (fld d 0 20) s
  else if o == 0x050 then if bit d 0 then askBoundary p s else s
  else if o == 0x058 then ctxControl p d s
  else if o == 0x078 then ackHostq p false d s
  else if o == 0x080 then ackHostq p true d s
  else if o == 0x090 then modHostq p (fun h => { h with cplEn := bit d 8, evtEn := bit d 9 }) s
  else if inArray o 0x100 32 then
    modCtx p (elemOf o 0x100)
      (fun x =>
        { x with demoteRefused := s.w1c off x.demoteRefused d 13, restoreRefused := s.w1c off x.restoreRefused d 14 }) s
  else s

/-- A write of 1 to suspect (02 R117): suspect and lasting become 0. A marking of the same hc wins; that lasting stood at 2 is
noted for a third lasting fault of the same hc (02 R114). Beside an ST_ENGINE_FATAL marking of the same hc lasting stays as it was
counted, or is 0 where the write came first (DESIGN CHOICE, log entry 95). -/
def clearSuspect (port : Nat) (s : State) : State :=
  if s.noted (offEngine port) 11 then s
  else
    let s := if (s.engine port).lasting == 2 then noteBit (offEngine port) 12 s else s
    s |> modEngine port (fun e => { e with suspect := false, lasting := 0 }) |> later .sweep

/-- A write of 1 to release frees an engine whose task has timed out; a record of the same hc is then discarded (02 R117,
R118). -/
def releaseEngine (port : Nat) (s : State) : State :=
  if (s.engine port).timedOut then s |> freeEngine port |> noteBit (offEngine port) 30 |> later .sweep else s

/-- ENGINE_STATE (02 R101, R103, R117). -/
def writeEngine (port d : Nat) (s : State) : State :=
  let s := if bit d 11 then clearSuspect port s else s
  if bit d 30 then releaseEngine port s else s

/-- A request through SYNC_HOST_OP (06 R282); while a dump runs it waits (06 R276). -/
def hostSync (off d : Nat) (s : State) : State :=
  let s := { s with sync := { s.sync with hostDone := false } }
  if s.sync.dumpBusy then { s with held := s.held ++ [(8, .fpWrite off (BitVec.ofNat 64 d))] } else syncHost d s

/-- A request through QUEUE_HOST_OP (07 R328). -/
def hostQueue (d : Nat) (s : State) : State :=
  queueRequest idHost (fld d 0 23 + s.queues.hostWdata.toNat * 2 ^ 64)
    { s with queues := { s.queues with hostDone := false } }

/-- A write to the synchronisation and queue windows (14 R571, R572). -/
def writeWindows (off d : Nat) (s : State) : State :=
  if off == 0x50000 then
    latchObject { s with sync := { s.sync with dbgObject := fld d 0 16, dbgKind := bit d 16 } }
  else if off == 0x50028 then hostSync off d s
  else if off == 0x50038 then startDump (fld d 0 52) s
  else if off == 0x80000 then hostQueue d s
  else if off == 0x80008 then { s with queues := { s.queues with hostWdata := BitVec.ofNat 64 d } }
  else if off == 0x80040 then { s with queues := { s.queues with statSel := fld d 0 12 } }
  else if inArray off 0x80200 64 then
    { s with queues := { s.queues with enables := Tbl.put s.queues.enables (elemOf off 0x80200) d } }
  else if inArray off 0x81000 256 then
    modQueue (elemOf off 0x81000)
      (fun x => { x with underrun := s.w1c off x.underrun d 29, timedOut := s.w1c off x.timedOut d 30 }) s
  else if inArray off 0xA0000 8192 then { s with store := storeWrite s.store (off - 0xA0000) 8 d }
  else s

/-- A write to the loader region (11 R473, R474). Bits of IMAGE_CTRL act in bit order. -/
def writeLoader (off d : Nat) (s : State) : State :=
  if off == 0xC0000 then { s with image := { s.image with addr := fld d 0 52 } }
  else if off == 0xC0008 then { s with image := { s.image with reshapeAddr := fld d 0 52 } }
  else if off == 0xC0010 then
    let s := if bit d 0 then startLoad s else s
    let s := if bit d 1 then startReshape s else s
    if bit d 2 then requestAbort s else s
  else if off == 0xC0018 then { s with image := { s.image with refused := s.w1c off s.image.refused d 2 } }
  else if off == 0xC0038 then
    { s with reshape := { s.reshape with doorbellDrop := s.w1c off s.reshape.doorbellDrop d 8 } }
  else s

/-- A write to the global control region (12 R527, R528; 13 R555 to R557). -/
def writeGlobal (off d : Nat) (s : State) : State :=
  if off == 0x1000 then
    let s := if fld d 0 16 == 0 then s else { s with power := { s.power with idleHold := fld d 0 16 } }
    forceOn (fld d 16 8) s
  else if off == 0x1010 then
    if fld d 0 8 == 0 then s else { s with power := { s.power with ratio := fld d 0 8 } }
  else if off == 0x1018 then setCap d s
  else if off == 0x1030 then if bit d 0 then startFlush s else s
  else if off == 0x1038 then { s with power := { s.power with serveLost := s.w1c off s.power.serveLost d 7 } }
  else if off == 0x1048 then
    { s with
      face := { s.face with
        loadDone := s.w1c off s.face.loadDone d 0, reshapeDone := s.w1c off s.face.reshapeDone d 1
        blockFault := s.w1c off s.face.blockFault d 2, enable := fld d 8 3 } }
  else if off == 0x1050 then { s with bed := { s.bed with windowErr := s.w1c off s.bed.windowErr d 20 } }
  else s

/-- What a write of a register does, where the access is carried out. -/
def writeReg (off d : Nat) (s : State) : State :=
  if off == 0x18 then
    { s with
      face := { s.face with
        unmapped := s.w1c off s.face.unmapped d 0, closed := s.w1c off s.face.closed d 1
        unconfigured := s.w1c off s.face.unconfigured d 2 } }
  else if decide (off < 0x10000) then writeGlobal off d s
  else if inBlocks off then writeBlock' (blockPart off) (blockOff off) d s
  else if decide (off < 0xC0000) then writeWindows off d s
  else if decide (off < 0xE0000) then writeLoader off d s
  else if off == 0xE0008 then showFault { s with faults := { s.faults with selSeq := fld d 0 16 } }
  else if inArray off 0xE1000 512 then writeEngine (elemOf off 0xE1000) d s
  else s

/-- The write takes effect now, and is answered (12 R482). -/
def writeNow (off d : Nat) (s : State) : State :=
  s |> rested (alignOff off) |> writeReg (alignOff off) d |> emit (.faceplate (fpId off) 0 false)

/-- A write that is not carried out is answered, and leaves its trace in FP_STATUS (14 R560, R566). -/
def refuseWrite (q off : Nat) (s : State) : State :=
  s |> noteAccess (alignOff off) true (q == 11) (q == 12) (q == 13) |> emit (.faceplate (fpId off) 0 (q != 13))

/-- A write that was judged so as it was accepted takes effect (12 R482; 14 R560). -/
def writeAs (q off d : Nat) (s : State) : State := if q == domFaceplate then writeNow off d s else refuseWrite q off s

/-- A read at the port that was judged so as it was accepted is answered (12 R481, R482; 14 R560). -/
def answerRead (q off : Nat) (s : State) : State :=
  let (v, s) := fpRead q off s
  emit (.faceplate (fpId off) v (q == 11 || q == 12)) s

/-- A faceplate write (14 R560, R576; 12 R482): carried out, refused, or waiting behind a gated domain and the requests
accepted before it. -/
def fpWrite (off d : Nat) (s : State) : State :=
  let a := s.judge (alignOff off) true
  if s.faceWaits || (s.gatedFor a).isSome then queueAccess a (.fpWrite off (BitVec.ofNat 64 d)) s else writeAs a.queue off d s

end Sys2Proof.Machine
end

