-- ==== Sys2Proof/Machine/Settle.lean ====
section
/-!
DEFINITION. What follows inside a step (log entry 4): the work that units leave for each other, in the order in which it
was noted, until none is left; what waits for room is tried again; requests held for a domain are served when it runs.
-/
namespace Sys2Proof.Machine

/-! ### Requests at the ports, and held requests (01 R39, R40; 12 R482) -/

/-- The op of a request: the command's, or the reserved one that the request carries (06 R246, 07 R303). -/
def opOf (op bound field : Nat) : Nat := if bound < field then field else op

/-- A request that finds a dump running waits (06 R276), under the number 8. -/
def behindDump (i : Instr) (k : State → State) (s : State) : State :=
  if s.sync.dumpBusy then { s with held := s.held ++ [(8, i)] } else k s

/-- The synchronisation request of a command with a given op (06 R246). -/
def laneReq (op : Nat) (req : BitVec 128) : SyncReq :=
  { syncReqOf req.toNat with op := opOf op 8 (fld req.toNat 0 4) }

/-- A synchronisation request at a lane (06 R246, R247). -/
def syncPort (op src : Nat) (req : BitVec 128) (s : State) : State :=
  syncLane src (laneReq op req) (wakeUp swSync s)

/-- A remote request reaches its target (06 R274); its credit returns (08 R356), but not to a port whose link has been lost since,
which `port` less 9 is then. -/
def remoteTake (port : Nat) (flit : Granule) (s : State) : State :=
  let r := syncReqOf (fld flit.toNat 0 128)
  let child := if port % 9 == 0 then none else some (port % 9 - 1)
  (syncHandle idRemote child r (wakeUp swSync s)).2 |> creditBack port (creditKey r.part 2 false) 1

/-- Messages of a partition that came here from the sender of a remote request and are still being written (07 R300). -/
def State.unwritten (s : State) (p back : Nat) : List (Nat × Nat) :=
  s.queues.chans.flatMap (fun e =>
    if s.chPart e.1 == p then
      (e.2.ring.filter (fun m => m.back == back && m.inPort.isSome && !m.skip && !m.written && !m.landed)).map (fun m => (e.1, m.seq))
    else [])

/-- A remote request arrives: behind messages of its sender that are still being written it waits (07 R300), and while a dump
holds requests (06 R276). -/
def remoteArrive (port : Nat) (flit : Granule) (s : State) : State :=
  let r := syncReqOf (fld flit.toNat 0 128)
  match s.unwritten r.part r.src with
  | [] => behindDump (.remoteSync port flit) (remoteTake port flit) s
  | ms => { s with sync := { s.sync with remoteIn := s.sync.remoteIn ++ [{ flit := flit, port := port, behind := ms }] } }

/-- A message is still being written. -/
def State.stillWriting (s : State) (m : Nat × Nat) : Bool := (s.chan m.1).ring.any (RingMsg.inWriting m.2)

/-- Remote requests whose messages have gone ahead go on, in order: here, and on their way out (07 R300). -/
def remotesWork (s : State) : State :=
  let free := s.sync.remoteIn.filter (fun w => !w.behind.any s.stillWriting)
  let s := { s with sync := { s.sync with remoteIn := s.sync.remoteIn.filter (fun w => w.behind.any s.stillWriting) } }
  let s := free.foldl (fun s w => behindDump (.remoteSync w.port w.flit) (remoteTake w.port w.flit) s) s
  let out := s.sync.remoteOut.filter (fun w => !w.behind.any s.stillReading)
  let s := { s with sync := { s.sync with remoteOut := s.sync.remoteOut.filter (fun w => w.behind.any s.stillReading) } }
  out.foldl (fun s w =>
    let r := syncReqOf (fld w.flit.toNat 0 128)
    sendRemote r.dest r.part w.flit s) s

/-- A queue request at a lane (07 R303). -/
def queuePort (op src : Nat) (req : BitVec 128) (s : State) : State :=
  queueRequest src (req.toNat - fld req.toNat 0 4 + opOf op 7 (fld req.toNat 0 4)) s

/-- Take an intake frame: while the buffer has no room for its records it waits (07 R317). -/
def framePort (header : Option (BitVec 256)) (beats : List (BitVec 256)) (s : State) : State :=
  if s.held.any (fun h => h.1 == 9) || s.intakeRoom < frameNeeds header then
    { s with held := s.held ++ [(9, .intakeFrame header beats)] }
  else takeFrame header beats s

/-- A record that came by the link enters the buffer of its home; while the buffer is full it waits, and its credit with it
(07 R317; 08 R356). -/
def intakeArrive (port : Nat) (flit : Granule) (s : State) : State :=
  if s.held.any (fun h => h.1 == 9) || s.intakeRoom == 0 then { s with held := s.held ++ [(9, .intake port flit)] }
  else
    let p := fld flit.toNat 42 6
    receiveRecord p (BitVec.ofNat 512 (flit.toNat - put p 42 6)) (some port) s

/-- Carry out a request that has been held. Only the commands below are ever held; a faceplate write is one of SYNC_HOST_OP,
which has been answered already. -/
def runHeld (i : Instr) (s : State) : State :=
  match i with
  | .statusRecord port rec' => engineRecord port rec'.toNat s
  | .signal src req => syncPort 0 src req s
  | .wait src req => syncPort 1 src req s
  | .tryTake src req => syncPort 2 src req s
  | .take src req => syncPort 3 src req s
  | .arrive src req => syncPort 4 src req s
  | .arriveWait src req => syncPort 5 src req s
  | .bwait src req => syncPort 6 src req s
  | .switchCtx src req => syncPort 7 src req s
  | .syncRead src req => syncPort 8 src req s
  | .send src req => sendRequest src req.toNat s
  | .queueWrite src req => queuePort 0 src req s
  | .queueRead src req => queuePort 1 src req s
  | .mark src req => queuePort 2 src req s
  | .rewind src req => queuePort 3 src req s
  | .queueRelease src req => queuePort 4 src req s
  | .pktBegin src req => queuePort 5 src req s
  | .pktEnd src req => queuePort 6 src req s
  | .queueStatus src req => queuePort 7 src req s
  | .borrow src req => scratchRequest src (opOf 0 1 (fld req.toNat 0 2)) req.toNat s
  | .returnRun src req => scratchRequest src (opOf 1 1 (fld req.toNat 0 2)) req.toNat s
  | .remoteSync port flit => remoteTake port flit s
  | .intakeFrame header beats => framePort header beats s
  | .fpWrite off data => writeReg off data.toNat s
  | _ => s

/-- Requests held under a domain number are carried out in the order in which they came (01 R39). A request that
finds a dump running is held again, under 8 (12 R489). -/
def serveAll (d : Nat) (s : State) : State :=
  let mine := s.held.filter (fun h => h.1 == d)
  mine.foldl (fun s h => if d == swSync then behindDump h.2 (runHeld h.2) s else runHeld h.2 s)
    { s with held := s.held.filter (fun h => h.1 != d) }

/-- A read through the wrapper, judged so as it was accepted: its data is captured (12 R504). -/
def captureRead (q w : Nat) (s : State) : State :=
  let (v, s) := fpRead q (accessOff w) s
  { s with wrapper := { s.wrapper with fpaccess := fld w 0 64 + v * 2 ^ 64 } }
    |> emit (.wrapper (fld w 0 64 + v * 2 ^ 64))

/-- The domain that an accepted faceplate request needs; one that is refused needs none. -/
def heldDomain (h : Nat × Instr) : Nat :=
  if h.1 != domFaceplate then domHeart
  else
    match h.2 with
    | .fpWrite off _ => (regDomain (alignOff off)).getD domHeart
    | .wbFpaccess data => (regDomain (accessOff data.toNat)).getD domHeart
    | _ => domHeart

/-- A faceplate request that has waited takes effect and is answered. -/
def heldAccess (h : Nat × Instr) (s : State) : State :=
  match h.2 with
  | .fpWrite off data => if isRead off then answerRead h.1 off s else writeAs h.1 off data.toNat s
  | .wbFpaccess data => captureRead h.1 data.toNat s
  | _ => s

/-- An instance that halts still answers the faceplate requests that it has accepted (14 R578). -/
def answerHeld (s : State) : State :=
  (s.held.filter State.isAccepted).foldl (fun s h => heldAccess h s)
    { s with held := s.held.filter (fun h => !State.isAccepted h) }

/-- A request at the port that is not a write through a command of its own is carried out now, or waits (12 R482). -/
def takeAccess (i : Instr) (s : State) : State :=
  let a := s.judgeOf i
  if s.faceWaits || (s.gatedFor a).isSome then queueAccess a i s else heldAccess (a.queue, i) s

/-- The instance halts. Requests that still wait at the port are accepted by the halted instance (13 R548). -/
def haltNow (s : State) : State :=
  let port := s.held.filter (fun h => h.1 == domPort)
  port.foldl (fun s h => takeAccess h.2 s) (s |> answerHeld |> haltWork)

/-- Accepted faceplate requests are carried out in order, as long as the domain of the next one runs (12 R482). -/
def serveFaceplate : Nat → State → State
  | 0, s => s
  | k + 1, s =>
    match s.held.find? (fun h => decide (domFaceplate ≤ h.1)) with
    | none => s
    | some h =>
      let d := heldDomain h
      if d == domHeart || s.runs d then
        serveFaceplate k (admitAccess (heldAccess h { s with held := s.held.eraseP (fun h => decide (domFaceplate ≤ h.1)) }))
      else { s with power := { s.power with ungating := setAt s.power.ungating d true } }

/-- A dump ends: it has been written, or a write of it has failed (06 R276, R283). What waited behind it goes on. -/
def dumpEnd (err : Bool) (s : State) : State :=
  let s := if err then raiseNone fltBedWrite srcSync 0 s else s
  let waits := s.sync.notifies
  let s := { s with
    sync := { s.sync with
      dumpBusy := false, dumpError := err, dumps := if err then s.sync.dumps else wrapAdd s.sync.dumps 1 32
      snapSems := [], snapBars := [], notifies := [] } }
  serveAll 8 (waits.foldl (fun s ch => notifySend ch s) s)

/-- A domain runs again: what was held for it is carried out (01 R39, R40; 12 R482). -/
def serveHeld (d : Nat) (s : State) : State :=
  let s := serveAll d s
  serveFaceplate s.held.length s

/-- Ungating ends: the domain runs, and what was held for it is served (01 R39, R40). -/
def ungated (d : Nat) (s : State) : State := s |> ungate d |> serveHeld d

/-- The sapwood domains can run again: requests that wait go out on bed_, and pending ungates complete, each with what was held
for the domain (12 R501; 13 R532). -/
def sapwoodRises (s : State) : State :=
  if s.power.stopped then s
  else (List.range 8).foldl (fun s d => if s.power.ungating.getD d false then ungated d s else s) (s |> moreWrites |> moreReads)

/-! ### Reads and writes of bed memory that have come to an end -/

/-- An edge granule could not be read (02 R65). -/
def edgeFailed (i : Nat) (s : State) : State :=
  let s := modSlot i (fun x => { x with edgeErr := true }) s
  if (s.slot i).st == .retiring then edgesDone i s else s

/-- A descriptor, predicate word or edge granule could not be read: FLT_BED_READ against the task's context (02 R65, R76). -/
def taskReadFailed (i gen : Nat) (s : State) : State :=
  let x := s.slot i
  if x.st == .free || x.gen != gen then s
  else raiseCtx fltBedRead srcDependency x.part x.ctx (s.taskId i) s

/-- A part of a jig could not be read: every launch that waits for the body fails (03, under R131). -/
def jigReadFailed (slot : Nat) (s : State) : State :=
  let ls := s.waitJig slot
  let s := endFill slot none s
  ls.foldl (fun s id => if (Tbl.find s.jigs.launches id).isSome then failLaunch id fltBedRead s else s) s

/-- A read that a launch waits for has failed (03, under R131). -/
def launchReadFailed (id : Nat) (s : State) : State :=
  if (Tbl.find s.jigs.launches id).isSome then failLaunch id fltBedRead s else s

/-- A read could not be made, or failed twice (13 R549): its owner raises FLT_BED_READ. A record of the serving tables that
cannot be read holds free values from then on (log entry 52). -/
def readFailed (why : ReadFor) (p c : Nat) (s : State) : State :=
  match why with
  | .season i g => taskReadFailed i g s
  | .desc i g => taskReadFailed i g s
  | .pred i g => taskReadFailed i g s
  | .edge i g =>
    let live := (s.slot i).st != .free && (s.slot i).gen == g
    let s := taskReadFailed i g s
    if live then edgeFailed i s else s
  | .launch id => launchReadFailed id s
  | .params id _ => launchReadFailed id s
  | .cmdlist id => launchReadFailed id s
  | .jigDir j => jigReadFailed j s
  | .jigHead j => jigReadFailed j s
  | .jigBody j => jigReadFailed j s
  | .payload ch _ => raiseCtx fltBedRead srcChannel p c ch s
  | .refill q pos => refilled q pos none s
  | .contribute i g =>
    let x := s.slot i
    if x.st == .free || x.gen != g then s
    else s |> raiseCtx fltBedRead srcCombine x.part x.ctx 0 |> retire i stParted true
  | .stream p i =>
    let s := raiseCtx fltBedRead srcBatch p c 0 s
    let (w, s) := takeFree 512 s
    s |> streamFilled p i w |> resumeFills p
  | .ledger p i =>
    let s := raiseCtx fltBedRead srcLedger p c i s
    let (w, s) := takeFree 128 s
    s |> pageFilled p i w |> resumeFills p
  | .bank _ _ _ => s

/-- The creation buffer has room again (03 R133): launches that create tasks go on. -/
def drainBuffer (s : State) : State :=
  let s := { s with jigs := { s.jigs with buffer := s.jigs.buffer - 1 } }
  laters ((s.jigs.launches.filter (fun e => e.2.phase == .creating)).map (fun e => Job.create e.1)) s

/-- A write has been accepted. The writes whose acceptance is a command of its own (07 R295, R321; 06 R276; 09 R396;
11 R466) have no effect here (log entry 53). -/
def writeAccepted (why : WriteFor) (s : State) : State :=
  match why with
  | .desc _ => drainBuffer s
  | .ledger p _ => later (.place p) s
  | .outcome ch seq => outcomeWritten ch seq s
  | .segment e g pos => segmentLanded e g pos true s
  | _ => s

/-- The unit that creates the tasks of a launch (01, Path of one task). -/
def State.creatorOf (s : State) (id : Nat) : Nat := if recKind (s.launch id).record == 1 then srcDependency else srcJig

/-- A write failed twice, or lies outside the bed window (13 R549, 12 R495): its owner raises FLT_BED_WRITE. -/
def writeFailed (why : WriteFor) (p c : Nat) (s : State) : State :=
  match why with
  | .desc id => s |> drainBuffer |> raiseCtx fltBedWrite (s.creatorOf id) p c (s.launchDetail (s.launch id))
  | .edge id => raiseCtx fltBedWrite (s.creatorOf id) p c (s.launchDetail (s.launch id)) s
  | .task id => raiseCtx fltBedWrite srcDependency p c id s
  | .stepBlock _ => raiseCtx fltBedWrite srcBatch p c 0 s
  | .stream _ _ => raiseCtx fltBedWrite srcBatch p c 0 s
  | .provenance _ => raiseCtx fltBedWrite srcBatch p c 0 s
  | .ledger _ i => s |> raiseCtx fltBedWrite srcLedger p c i |> later (.place p)
  | .moveArea _ i => raiseCtx fltBedWrite srcLedger p c i s
  | .gougeArea _ => raiseCtx fltBedWrite srcSupervisor p c 0 s
  | .combineArea _ => raiseCtx fltBedWrite srcCombine p c 0 s
  | .partials _ => raiseCtx fltBedWrite srcCombine p c 0 s
  | .params _ => raiseCtx fltBedWrite srcCombine p c 0 s
  | .delivery _ => raiseCtx fltBedWrite srcCombine p c 0 s
  | .outcome ch _ => raiseCtx fltBedWrite srcChannel p c ch s
  | .ring ch seq => messageFailed ch seq s
  | .segment e g pos => segmentLanded e g pos false s
  | .spill q => raiseCtx fltBedWrite srcQueue p c q s
  | .hostq p evt seq => failedRecord p evt seq s
  | .journal => raiseNone fltBedWrite srcLoader 0 s
  | .dump => dumpEnd true s
  | .data => raiseNone fltBedWrite srcLoader 0 s

/-! ### Tasks that leave the ready set, and tasks that retire -/

/-- A task that its unit has taken over is ISSUED until the unit completes it (02 R88; 03 R124; 09 R379). -/
def issueTo (i : Nat) (s : State) : State :=
  modSlot i (fun x => { x with st := .issued, tries := x.tries + 1, pred := none, skipAt := none }) s

/-- A launch task, or a RECV instance, has its launch record read (03 R124, R148). -/
def launchTask (i param : Nat) (s : State) : State :=
  let x := s.slot i
  let d := x.desc.getD {}
  s |> issueTo i |> startLaunch (.task i) x.part x.ctx x.epoch (d.cmdPtr * 256) param

/-- A contribute task has its record read (09 R377). -/
def contributeTask (i : Nat) (s : State) : State :=
  let x := s.slot i
  let d := x.desc.getD {}
  s |> issueTo i |> wakeUp swCombine |> issueRead (.contribute i x.gen) (d.cmdPtr * 256) 64 x.part x.ctx false

/-- A RECV instance launches with the base of its bank as param_ptr (03 R148). -/
def recvTask (i : Nat) (s : State) : State :=
  match (s.slot i).role with
  | .recv e g => launchTask i (s.exchRing e + (g % 2) * (64 * s.exchMembers e)) s
  | _ => launchTask i 0 s

/-- A true predicate: null, counted (03 R141). -/
def skipTask (i : Nat) (s : State) : State :=
  { s with jigs := { s.jigs with skips := wrapAdd s.jigs.skips 1 64 } } |> retire i stNull false

/-- Hand a READY task on (02 R73, R79, R81, R87, R88). A poisoned contribute task has its record read, since its bucket must
learn of it (09 R402). -/
def handOn (i : Nat) (h : Handed) (s : State) : State :=
  let x := s.slot i
  match h with
  | .stays => s
  | .buffer => enterBuffer i s
  | .poison =>
    if (x.desc.map (·.vgroup)) == some 0xFFFD then (if s.ctxAllows x then contributeTask i s else s) else poisonIn i s
  | .null => skipTask i s
  | .badSkip => skipOp i s
  | .join => retire i stOk false s
  | .launch => launchTask i 0 s
  | .contribute => contributeTask i s
  | .recv => recvTask i s
  | .empty => vgroupEmpty i s

/-- A gang acts once every member is READY (02 R90): poison completes it as a unit; a bad predicate parts its context; a true
predicate of one member completes it as a unit as null (log entry 54); a member without pickable engines is handled by
R87, as it is before the others are READY. Otherwise the gang waits for selection. `i` is the member looked at. -/
def gangReady (i : Nat) (ids : List Nat) (s : State) : State :=
  let there (j : Nat) : Bool :=
    let x := s.slot j
    x.st == .ready && x.desc.any (fun d => !d.ordered || x.released)
  let preds := ids.filterMap (fun j => ((s.slot j).pred).map evalPredicate)
  let empty (j : Nat) : Bool := (s.pickable (s.slot j) (((s.slot j).desc).getD {})).isEmpty
  if !ids.all there then if !(s.slot i).poisonIn && empty i then vgroupEmpty i s else s
  else if ids.any (fun j => (s.slot j).poisonIn) then ids.foldl (fun s j => poisonIn j s) s
  else
    match ids.find? (fun j => ((s.slot j).pred).map evalPredicate == some none) with
    | some j => skipOp j s
    | none =>
      if preds.contains (some true) then ids.foldl (fun s j => skipTask j s) s
      else
        match ids.find? empty with
        | some j => vgroupEmpty j s
        | none => s

/-- A task has become READY, or is looked at again (02 R73, R87; 08 R335: it brings a DORMANT context in). An ordered one whose
count is 0 goes to the buffer first, whether it has been seasoned or not (02 R79). -/
def onReady (i : Nat) (s : State) : State :=
  let x := s.slot i
  if x.waitsBuffer then enterBuffer i s
  else
    match x.desc with
    | none => s
    | some d =>
      if x.st != .ready || x.inBuffer then s
      else
        let s := bringIn x.part x.ctx s
        match x.gangAt with
        | some _ => if neverPlaced d.vgroup then handOn i (s.detect x d) s else gangReady i (s.gangOf i) s
        | none => handOn i (s.detect x d) s

/-- Tell the creator of a task of its final status. -/
def tellCreator (i status : Nat) (poison : Bool) (s : State) : State :=
  let x := s.slot i
  match x.role with
  | .plain => s
  | .serveSect k => sectionDone x.part k status poison s
  | .move k => moveFinal x.part k status poison s
  | .gouge core first restore => gougeDone core first restore status poison x.part x.ctx s
  | .combine b j => combineDone b j status poison s
  | .coldFetch k => fetchDone x.part k poison s
  | .mover packet sub => later (.completion packet status poison sub) s
  | .segment e pos g counts => newHeader e pos g (segmentHeader counts g (s.exchSelf e) e poison false) s
  | .recv e g => recvDone e g s

/-- A task has its final status (02 R57; 01 R24): its creator and its launch learn of it, and its edges are walked. A sink task
(03 R137) is one whose edge_ptr is 0: also one whose successors are all null, and a fetch task for which nothing waits
(DESIGN CHOICE, log entry 96). -/
def onRetire (i : Nat) (s : State) : State :=
  let x := s.slot i
  match x.fin with
  | none => s
  | some (status, poison) =>
    if x.st != .retiring then s
    else
      let id := s.taskId i
      let s := tellCreator i status poison s
      let s := match x.launch with
        | some l => noteStatus l status id (x.edgePtr == 0) poison s
        | none => s
      startWalk i s

/-- The work of a delegated task is complete: COMPLETION goes to the parent (01 R24; 12 R519). -/
def sendCompletion (packet status : Nat) (poison subnormal : Bool) (s : State) : State :=
  let rec' := statusRecord (fld packet 0 32) status poison subnormal (fld packet 43 8) (bit packet 57) (bit packet 56)
  sendOn 0 { cls := 0, pool := poolNone, kind := 0x02, content := BitVec.ofNat 512 rec' } s

/-- A page move that a node home has delegated runs here as one mover task (05 R231), once there is a slot (02 R58). The packet
carries neither its costs nor its prio, and the image gives its mover's vgroup to instances that keep the PAGE_FORMAT record:
elsewhere any mover engine takes it (log entry 15). -/
def moverWork (packet : Nat) (s : State) : State :=
  let p := fld packet 32 6
  let c := fld packet 38 5
  let f := s.ctxFormat p c
  let (cycles, s) := takeFree 32 s
  let (bytes, s) := takeFree 24 s
  let (prio, s) := takeFree 4 s
  let d : Desc :=
    { partition := p, context := c, epoch := fld packet 43 8, engineClass := 2, prio := prio, formatClass := fld packet 54 2
      vgroup := if (s.recAt tyPageFormat p f).isSome then s.pfU p f 26 2 else 0xFFFF
      costCycles := cycles, costBytes := bytes, cmdPtr := fld packet 64 52 / 256 }
  match createSingle d (.mover packet false) none s with
  | some (_, s) => { s with tasks := { s.tasks with movesIn := s.tasks.movesIn.erase packet } }
  | none =>
    if s.tasks.movesIn.contains packet then s else { s with tasks := { s.tasks with movesIn := s.tasks.movesIn ++ [packet] } }

/-- Every READY task is looked at again (02 R87). -/
def sweepReady (s : State) : State :=
  laters ((s.tasks.slots.filter (fun e => e.2.st == .ready && !e.2.inBuffer)).map (fun e => Job.ready e.1)) s

/-! ### The work -/

/-- Do one piece of work. -/
def runJob (j : Job) (s : State) : State :=
  match j with
  | .part p c fault tell => partWork p c fault tell s
  | .halt => haltNow s
  | .retire i => onRetire i s
  | .decrement i g poison p c id => decrement i g poison p c id s
  | .zero i => countZero i s
  | .ready i => onReady i s
  | .sweep => sweepReady s
  | .launchPlan id => if (Tbl.find s.jigs.launches id).isSome then launchPlan id s else s
  | .create id => createWork id s
  | .launchCheck id => checkLaunch id s
  | .slice p => judgeSlice p s
  | .order g => orderWork g s
  | .place p => placeWork p s
  | .bucket i => bucketWork i s
  | .buckets => bucketsWork s
  | .arrive p c => arriveWork p c s
  | .gouge core => gougeWork core s
  | .readFailed why p c => readFailed why p c s
  | .writeDone why p c ok => if ok then writeAccepted why s else writeFailed why p c s
  | .deliver flit data port => deliverMessage flit data port s
  | .answered flit => answerArrive flit s
  | .segment flit port => segmentReach flit port s
  | .remotes => remotesWork s
  | .reshape => reshapeWork s
  | .lost x => lostWork x s
  | .transmit x => transmit x s
  | .hostq p => pumpHostq p s
  | .start => startWork s
  | .linkMoved x before now => portMoved x before now s
  | .outside id => askOutside id s
  | .outsideDone id =>
    match s.pages.find? (fun e => e.2.outside.any (fun o => o.launch == id)) with
    | some (p, _) => dropOutside p id s
    | none => s
  | .header e pos g content => newHeader e pos g content s
  | .ringFree ch start => forgetMessage ch start s
  | .broughtIn p c status poison => broughtIn p c status poison s
  | .optimized b status poison => optimizerDone b status poison s
  | .mover packet => moverWork packet s
  | .wake id => pulse id s
  | .completion packet status poison sub => sendCompletion packet status poison sub s

/-- What a halted instance still does: its FAULT events and records reach their rings (13 R548). -/
def haltedJob (j : Job) (s : State) : State :=
  match j with
  | .writeDone (.hostq p evt seq) _ _ false => failedRecord p evt seq s
  | .hostq p => pumpHostq p s
  | _ => s

/-- The domain whose request a piece of work is (01 R38); none for work that only looks again at what may go on. -/
def Job.wants : Job → Option Nat
  | .part _ _ _ _ => some swDispatch
  | .halt => none
  | .retire _ => some swDispatch
  | .decrement _ _ _ _ _ _ => some swDispatch
  | .zero _ => some swDispatch
  | .ready _ => some swDispatch
  | .sweep => none
  | .launchPlan _ => some swJig
  | .create _ => some swJig
  | .launchCheck _ => some swJig
  | .slice _ => none
  | .order _ => some swCombine
  | .place _ => some swServe
  | .bucket _ => some swCombine
  | .buckets => none
  | .arrive _ _ => some swJig
  | .gouge _ => some swDispatch
  | .readFailed _ _ _ => some swBed
  | .writeDone _ _ _ _ => some swBed
  | .deliver _ _ _ => some swSync
  | .answered _ => some swSync
  | .segment _ _ => some swSync
  | .remotes => none
  | .reshape => none
  | .lost _ => some swLink
  | .linkMoved _ _ _ => some swLink
  | .transmit _ => some swLink
  | .hostq _ => some swSync
  | .start => none
  | .outside _ => some swServe
  | .outsideDone _ => some swServe
  | .header _ _ _ _ => some swSync
  | .ringFree _ _ => some swSync
  | .broughtIn _ _ _ _ => some swJig
  | .optimized _ _ _ => some swCombine
  | .mover _ => some swDispatch
  | .wake _ => some swSync
  | .completion _ _ _ _ => some swLink

/-- While no sapwood domain can run, work waits, and asks its domain to run (12 R501; 13 R532; log entry 75). Only the halt does
not wait (13 R548). -/
def waitWork (s : State) : State :=
  if s.work.contains .halt then haltNow s
  else s.work.foldl (fun s j => match j.wants with
    | some d => wakeUp d s
    | none => s) s

/-- Work is done in the order in which it was noted, until none is left. -/
def settle : Nat → State → State
  | 0, s => s
  | k + 1, s =>
    match s.work with
    | [] => s
    | j :: rest =>
      if s.power.phase == 5 then settle k (haltedJob j { s with work := rest })
      else if s.power.stopped then waitWork s
      else settle k (runJob j { s with work := rest })

/-- How much work one step does at most; what is left goes on in the next. -/
def settleBound : Nat := 65536

/-- What waits is tried again: gouges that wait for slots or for tasks of their contexts (08 R350, R351), and combine tasks
(09 R384). Placements wait for slots and move areas as well (05 R231). -/
def retryWaiting (s : State) : State :=
  let cores := dedup ((s.ctxs.runs.filter (fun r => r.st == 1 || r.st == 3)).map (·.core))
  let places := (s.pages.filter (fun e => !e.2.warm.isEmpty || !e.2.outside.isEmpty || (s.serve e.1).running)).map (·.1)
  let remotes := if s.sync.remoteIn.isEmpty && s.sync.remoteOut.isEmpty then [] else [Job.remotes]
  s |> laters (cores.map Job.gouge) |> laters remotes |> laters (s.tasks.movesIn.map Job.mover)
    |> laters ((s.reduce.buckets.filter (fun e => e.2.isOpen && e.2.stuck)).map (fun e => Job.bucket e.1))
    |> laters (places.map Job.place)

/-- The oldest frame, or record from the link, that waits for room in the intake buffer is taken (07 R317). -/
def retryFrame (s : State) : State :=
  let s' := { s with held := s.held.eraseP (fun h => h.1 == 9) }
  match s.held.find? (fun h => h.1 == 9) with
  | some (_, .intakeFrame header beats) => if frameNeeds header ≤ s.intakeRoom then takeFrame header beats s' else s
  | some (_, .intake port flit) =>
    if 1 ≤ s.intakeRoom then
      let p := fld flit.toNat 42 6
      receiveRecord p (BitVec.ofNat 512 (flit.toNat - put p 42 6)) (some port) s'
    else s
  | _ => s

/-- All of them that now fit are taken, in order. -/
def retryFrames : Nat → State → State
  | 0, s => s
  | k + 1, s => retryFrames k (retryFrame s)

/-- A domain that a request from inside the block has ungated carries out what was held for it, before any later request
(01 R39). -/
def serveWoken (s : State) : State :=
  let s := (List.range 8).foldl (fun s d => if s.runs d && s.held.any (fun h => h.1 == d) then serveAll d s else s) s
  serveFaceplate s.held.length s

/-- The state once the follow-on work of a command has been done: the work itself, what waited and can go on, and the
slices. A halted instance does only what it still does. -/
def finished (s : State) : State :=
  let s := settle settleBound s
  if s.power.phase == 5 then s
  else if s.power.stopped then s |> judgeSlices |> settle settleBound
  else s |> serveWoken |> retryWaiting |> (fun s => retryFrames s.held.length s) |> settle settleBound
    |> writeThrough |> countWritten |> judgeSlices |> settle settleBound

/-- The end of a command. -/
def finish (s : State) : Result := .next (finished s)

/-- The end of a command that changes nothing that other work waits for: only work that is left over is done. -/
def endQuiet (s : State) : Result := .next (if s.work.isEmpty then s else finished s)

/-- Registers whose writes change nothing that other work waits for: identity, the global region but for POWER_CAP and
START_CTRL, SERVE_CTRL, SERVE_FENCE and IRQ_PART of a partition, the snapshot and selection registers, the enables, the
queue states, the block store, and FAULT_SEL. -/
def quietOff (off : Nat) : Bool :=
  if decide (off < 0x10000) then off != 0x1018 && off != 0x1030
  else if inBlocks off then
    blockOff off == 0x000 || blockOff off == 0x010 || blockOff off == 0x018 || blockOff off == 0x090
  else
    off == 0x50000 || off == 0x80008 || off == 0x80040 || inArray off 0x80200 64 || inArray off 0x81000 256
      || inArray off 0xA0000 8192 || off == 0xE0008

/-- The end of a faceplate write. -/
def endWrite (off : Nat) (s : State) : Result := if quietOff (alignOff off) then endQuiet s else finish s

/-- A command of the faceplate: it is answered in the halted instance too (13 R548, 14 R559), and not in reset (12 R502). -/
def atFace (s : State) (k : State → Result) : Result :=
  if s.wrapper.undefined then .fault .stateUndefined
  else if s.power.inReset then .next { s with outs := [] }
  else k { s with outs := [], clock := s.clock + 1 }

/-- A command that is a write of a register (14 R560, R576; 12 R482). -/
def writeCommand (off d : Nat) (s : State) : Result := atFace s fun s => endWrite off (fpWrite off d s)

end Sys2Proof.Machine
end

