-- ==== Sys2Proof/Machine/LinkCmds.lean ====
section
/-!
DEFINITION. The commands of the link (12 R507 to R523), of the bed's write responses (12 R493), and the receipt of the
messages that are not bound to one unit (12 R521): EVENT, ADMIT, credits, acknowledgement and replay, timers.
-/
namespace Sys2Proof.Machine

/-- A message of one flit that this instance takes or forwards (12 R521). Taking it returns its credit on virtual channel
`cls` of pool `pool` (08 R356). -/
def relay (port dest : Nat) (m : TxMsg) (take : State → State) (s : State) : State :=
  if dest == s.selfCode then s |> take |> creditBack port (creditKey m.pool m.cls false) m.flits
  else forward port dest m s

/-- EVENT (12 R519): an event record reaches the home of its partition, which gives it its number. -/
def execEvent (port : Nat) (flit : Granule) (s : State) : Result :=
  sapwood s fun s =>
    let p := fld flit.toNat 40 6
    onFlit port 1 1 s fun s =>
      finish (relay port (s.homeCode p) { cls := 1, pool := p, kind := 0x21, content := flit } (putEvent p (flit.toNat / 2 ^ 32 * 2 ^ 32)) s)

/-! ### Acknowledgement and replay -/

/-- Flits of a class that an acknowledged number covers leave the replay buffer (12 R511, R512). -/
def freeAcked (flit : Granule) (l : List TxFlit) : List TxFlit :=
  l.filter (fun f =>
    let last := fld flit.toNat (16 * classIdx f.cls) 16
    !decide ((last + 0x10000 - f.seq) % 0x10000 < 0x8000))

/-- The acknowledged flits leave the replay buffer; an advance starts the count of NAKs anew. -/
def takeAcks (x : Nat) (flit : Granule) (s : State) : State :=
  let before := (s.port x).replay
  let after := freeAcked flit before
  modPort x (fun p => { p with replay := after, naks := if after.length < before.length then 0 else p.naks }) s

/-- The port is physically active, so that class 4 and class 5 flits pass. -/
def State.portActive (s : State) (x : Nat) : Bool := s.hasPort x && (s.port x).isl == 1

/-- ACK (12 R511). -/
def execAck (port : Nat) (flit : Granule) (s : State) : Result :=
  sapwood s fun s =>
    if !s.portActive port then noEvent "a flit on a port that is not active" s
    else finish (s |> touched port |> takeAcks port flit |> later (.transmit port))

/-- NAK (12 R512): the fourth without an advance retrains the port. -/
def execNak (port : Nat) (flit : Granule) (s : State) : Result :=
  sapwood s fun s =>
    if !s.portActive port then noEvent "a flit on a port that is not active" s
    else
      let s := s |> busied port |> takeAcks port flit |> modPort port (fun p => { p with naks := p.naks + 1 })
      finish (if 4 ≤ (s.port port).naks then retrainPort port s else replayBuffer port s)

/-- REPLAY_BEGIN (12 R511). -/
def execReplayBegin (port : Nat) (s : State) : Result :=
  sapwood s fun s =>
    if !s.portActive port then noEvent "a flit on a port that is not active" s
    else finish (s |> busied port |> modPort port (fun p => { p with waiting := false }))

/-- One entry of a CREDIT flit (12 R513). -/
def takeCredit (x e : Nat) (s : State) : State :=
  let key := creditKey (fld e 3 7) (fld e 0 2) (bit e 2)
  modPort x (fun p => { p with credits := Tbl.put p.credits key (Tbl.at p.credits key 0 + fld e 10 6) }) s

/-- CREDIT (12 R513): a sequenced flit of class 5. -/
def execCredit (port : Nat) (flit : Granule) (s : State) : Result :=
  sapwood s fun s =>
    if !s.portActive port || (s.port port).state < 2 then noEvent "a flit on a port that is not active" s
    else if (s.port port).waiting then .next (discarded port 1 s)
    else
      let n := min 31 (fld flit.toNat 0 8)
      let s := accepted port 5 1 s
      finish ((List.range n).foldl (fun s e => takeCredit port (fld flit.toNat (16 + 16 * e) 16) s) s
        |> later (.transmit port))

/-- FLIT_ERROR (12 R510, R511), of a port, an envelope and a flit: a flit whose CRC or number is wrong is discarded, and a NAK is sent; a receiver that waits repeats
its NAK by its timer only. -/
def execFlitError (rx : Nat × BitVec 32 × Granule) (s : State) : Result :=
  sapwood s fun s =>
    let port := rx.1
    if !s.portActive port then noEvent "a flit on a port that is not active" s
    else if s.flitRight port rx.2.1 rx.2.2 then noEvent "the flit is right" s
    else
      let waiting := (s.port port).waiting
      let s := discarded port 1 s
      finish (if waiting then s else s |> sendNak port |> modPort port (fun p => { p with waiting := true }))

/-- LINK_PROTOCOL (12 R523). -/
def execLinkProtocol (port : Nat) (s : State) : Result :=
  sapwood s fun s =>
    if !s.portActive port then noEvent "a flit on a port that is not active" s
    else
      finish (s |> busied port |> modPort port (fun p => { p with protocol := satInc p.protocol 0xFF })
        |> raiseNone fltLinkProtocol srcLink port |> retrainPort port)

/-- ACK_TIMER (12 R511): the heartbeat of an active port, and the ACK of flits not yet acknowledged; not in L1. -/
def execAckTimer (port : Nat) (s : State) : Result :=
  sapwood s fun s =>
    if !s.portActive port then noEvent "the heartbeat of a port that is not active" s else endQuiet (sendAck port s)

/-- NAK_REPEAT (12 R511). -/
def execNakRepeat (port : Nat) (s : State) : Result :=
  sapwood s fun s =>
    if !s.portActive port || !(s.port port).waiting then noEvent "no receiver waits for REPLAY_BEGIN" s
    else endQuiet (sendNak port s)

/-! ### Link states and admission -/

/-- The port has nothing to send and has been idle for 4 µs (12 R515). -/
def State.l1Due (s : State) (x : Nat) : Bool :=
  s.portActive x && (s.port x).replay.isEmpty && (s.port x).queue.isEmpty
    && decide ((s.port x).lastBusy + 400 ≤ s.power.heart)

/-- L1_IDLE (12 R515). -/
def execL1Idle (port : Nat) (s : State) : Result :=
  sapwood s fun s =>
    if !s.l1Due port then noEvent "the port is not idle" s else endQuiet (modPort port (fun p => { p with pmReq := true }) s)

/-- The link timeout of a port is due (12 R514). -/
def State.timeoutDue (s : State) (x : Nat) : Bool :=
  s.hasPort x && (s.port x).state == 3 && (s.port x).isl != 2 && decide ((s.port x).lastRx + 6400 ≤ s.power.heart)

/-- LINK_TIMEOUT (12 R514; 08 R366, R367). -/
def execLinkTimeout (port : Nat) (s : State) : Result :=
  functional s fun s =>
    if !s.timeoutDue port then noEvent "the link timeout is not due" s
    else timerDue swLink s fun s => finish (s |> lostWork port |> later .start)

/-- A connected port has not become active 10 ms after LOADED (13 R540 step 5). -/
def State.discoveryDue (s : State) (x : Nat) : Bool :=
  s.hasPort x && s.hasRole && s.connected x && (s.port x).state == 1 && (s.port x).isl != 1
    && decide ((s.port x).since + 1000000 ≤ s.power.heart)

/-- DISCOVERY_TIMEOUT (13 R540 step 5; 01 R32: a missing partner is a link-census mismatch). -/
def execDiscoveryTimeout (port : Nat) (s : State) : Result :=
  functional s fun s =>
    if !s.discoveryDue port then noEvent "discovery of the port has not timed out" s
    else timerDue swLink s fun s => finish (s |> lostWork port |> raiseNone fltTreeMismatch srcLink port |> later .start)

/-- LINK_STATE_CHANGE (12 R507). The level is followed at once, also in reset and in a halted block; what the link controller does
about it is a request to its domain (01 R38; 12 R502). -/
def execLinkStateChange (port st : Nat) (s : State) : Result :=
  if s.wrapper.undefined then .fault .stateUndefined
  else if !s.hasPort port || 4 ≤ st || (s.port port).isl == st then noEvent "no change of a link state" s
  else
    let before := (s.port port).isl
    let moved := modPort port (fun p => { p with isl := st }) { s with outs := [], clock := s.clock + 1 }
    if s.power.inReset || s.power.phase == 5 then .next moved
    else finish (moved |> wakeUp swLink |> later (.linkMoved port before st))

/-- ADMIT (12 R517; 13 R540 step 4). -/
def execAdmitMsg (port : Nat) (flit : Granule) (s : State) : Result :=
  sapwood s fun s =>
    if !s.portActive port || s.isBridge port || (s.hasRole && !s.connected port) then noEvent "an ADMIT on a port that is not being admitted" s
    else if (s.port port).waiting then .next (discarded port 1 s)
    else finish (admitArrives port flit s)

/-! ### Write responses -/

/-- The write's acceptance is a command of its own (log entry 53). -/
def WriteFor.apart (w : WriteFor) : Bool :=
  match w with
  | .hostq _ _ _ => true
  | .ring _ _ => true
  | .journal => true
  | .dump => true
  | .delivery _ => true
  | _ => false

/-- The write of a tag has come to an end: the tag is free again, and its transfer is a granule further (12 R494). -/
def endWrite' (tag : Nat) (w : BedWrite) (u : Transfer) (s : State) : State :=
  moreReads (moreWrites { s with bed := { s.bed with
    writes := Tbl.del s.bed.writes tag
    writeXfers := if u.left == 0 then Tbl.del s.bed.writeXfers w.xfer else Tbl.put s.bed.writeXfers w.xfer u } })

/-- A write response (12 R493, R494; 13 R549): the first failure is issued again, the second is its owner's. A write is accepted
when each of its granules is. -/
def takeWrite (tag : Nat) (err : Bool) (w : BedWrite) (s : State) : State :=
  if err && !w.retried then
    showWrite tag w { s with bed := { s.bed with writes := Tbl.put s.bed.writes tag { w with retried := true } } }
  else
    let t := Tbl.at s.bed.writeXfers w.xfer {}
    let u : Transfer := { t with left := t.left - 1, bad := t.bad || err }
    let s := endWrite' tag w u s
    let s := if w.retried && !err then bedRetried fltBedWrite w.part w.ctx w.sys s else s
    if err && !t.bad then later (.writeDone w.why w.part w.ctx false) s
    else if u.left != 0 || u.bad || w.why.apart then s
    else later (.writeDone w.why w.part w.ctx true) s

/-- BED_WRITE_ACCEPT (12 R493). A halted instance still takes the responses of its FAULT events (13 R548). -/
def execBedWriteAccept (tag : Nat) (err : Bool) (s : State) : Result :=
  if s.wrapper.undefined then .fault .stateUndefined
  else if s.power.inReset then .next { s with outs := [] }
  else
    match Tbl.find s.bed.writes tag with
    | none => noEvent "no write is outstanding under the tag" s
    | some w => finish (takeWrite tag err w { s with outs := [], clock := s.clock + 1 })

end Sys2Proof.Machine
end

