-- ==== Sys2Proof/Machine/SyncCmds.lean ====
section
/-!
DEFINITION. The commands of the synchronisation fabric (06): the nine requests of R246 at the lanes, remote requests, the
debug snapshot and the dump. What each operation does is in SyncFabric.
-/
namespace Sys2Proof.Machine

/-- A requester of the build's lanes (06 R245): an engine port, or a core. -/
def State.hasLane (s : State) (src : Nat) : Bool :=
  decide (src < s.build.enginePorts) || (decide (0 < s.build.enginePorts) && decide (512 ≤ src) && decide (src < 576))

/-- A request arrives on a lane of requester `src` (12 R488, R489): held at the lane while SW_SYNC is gated (06 R267; 01
R39), and while a dump holds requests (06 R276; 12 R489). -/
def atLane (src : Nat) (i : Instr) (k : State → State) (s : State) : Result :=
  functional s fun s =>
    if !s.hasLane src then noEvent "the build has no such requester" s
    else if !s.runs swSync then finish (hold swSync i s)
    else finish (behindDump i k s)

/-- A synchronisation request: its requester has a wake wire (06 R245). -/
def atSyncLane (src : Nat) (i : Instr) (k : State → State) (s : State) : Result :=
  if s.hasWire src then atLane src i k s
  else functional s fun s => noEvent "the requester cannot make synchronisation requests" s

/-- SIGNAL (06 R252, R253). -/
def execSignal (src : Nat) (req : BitVec 128) (s : State) : Result :=
  atSyncLane src (.signal src req) (syncPort 0 src req) s

/-- WAIT (06 R252, R254, R255, R262). -/
def execWait (src : Nat) (req : BitVec 128) (s : State) : Result :=
  atSyncLane src (.wait src req) (syncPort 1 src req) s

/-- TRY (06 R252). -/
def execTryTake (src : Nat) (req : BitVec 128) (s : State) : Result :=
  atSyncLane src (.tryTake src req) (syncPort 2 src req) s

/-- TAKE (06 R252, R253). -/
def execTake (src : Nat) (req : BitVec 128) (s : State) : Result :=
  atSyncLane src (.take src req) (syncPort 3 src req) s

/-- ARRIVE (06 R258 to R261). -/
def execArrive (src : Nat) (req : BitVec 128) (s : State) : Result :=
  atSyncLane src (.arrive src req) (syncPort 4 src req) s

/-- ARRIVE_WAIT (06 R258 to R262). -/
def execArriveWait (src : Nat) (req : BitVec 128) (s : State) : Result :=
  atSyncLane src (.arriveWait src req) (syncPort 5 src req) s

/-- BWAIT (06 R261, R262). -/
def execBwait (src : Nat) (req : BitVec 128) (s : State) : Result :=
  atSyncLane src (.bwait src req) (syncPort 6 src req) s

/-- SWITCH (06 R268; 08 R351, R368). -/
def execSwitchCtx (src : Nat) (req : BitVec 128) (s : State) : Result :=
  atSyncLane src (.switchCtx src req) (syncPort 7 src req) s

/-- READ (06 R247, R252). -/
def execSyncRead (src : Nat) (req : BitVec 128) (s : State) : Result :=
  atSyncLane src (.syncRead src req) (syncPort 8 src req) s

/-- REMOTE_SYNC (06 R271, R274; 12 R519): applied at its target, or forwarded. -/
def execRemoteSync (port : Nat) (flit : Granule) (s : State) : Result :=
  sapwood s fun s =>
    onFlit port 2 1 s fun s =>
      let r := syncReqOf (fld flit.toNat 0 128)
      if r.dest == s.selfCode then finish (remoteArrive port flit s)
      else finish (forward port r.dest { cls := 2, pool := r.part, kind := 0x10, content := flit } s)

/-- SYNC_DBG_SEL (06 R275, R280): a write of the register. -/
def execSyncDbgSel (data : Word) (s : State) : Result := writeCommand 0x50000 data.toNat s

/-- SYNC_DUMP (06 R276, R283): a write of the register. -/
def execSyncDump (data : Word) (s : State) : Result := writeCommand 0x50038 data.toNat s

/-- SYNC_DUMP_DONE (06 R276, R283): the dump has been written, or a write of it has failed; then requests go on. -/
def execSyncDumpDone (err : Bool) (s : State) : Result :=
  sapwood s fun s =>
    if !s.sync.dumpBusy then noEvent "no dump runs" s else finish (s |> acceptWrites .dump |> dumpEnd err)

end Sys2Proof.Machine
end

