-- ==== Sys2Proof/Machine/TaskCmds.lean ====
section
/-!
DEFINITION. The commands of the dependency engine, the seasoning unit and the issue unit (02), and of delegated tasks
(01 R24 to R27).
-/
namespace Sys2Proof.Machine

/-- A granule arrives under a tag: the read must be one that `wants` names. A first failure is issued again; a second is handled
as failed; the last granule of a transfer brings its data to the unit (12 R494; 13 R549). -/
def onRead (tag : Nat) (err : Bool) (wants : ReadFor → Bool) (g : Granule) (take : BedRead → Nat → State → State) (s : State) :
    Result :=
  match Tbl.find s.bed.reads tag with
  | none => noEvent "no read is outstanding under the tag" s
  | some r =>
    if !wants r.why then noEvent "the read of the tag is for something else" s
    else
      match takeRead tag r g err s with
      | .more s => finish s
      | .got r w s => finish (take r w s)
      | .failed r s => finish (later (.readFailed r.why r.part r.ctx) s)

/-- The slot still holds the task that a read was made for. -/
def State.holdsTask (s : State) (i gen : Nat) : Bool := (s.slot i).st != .free && (s.slot i).gen == gen

/-- STATUS_RECORD (02 R97): held at the port while SW_DISPATCH is gated (01 R40). -/
def execStatusRecord (port : Nat) (rec' : Word) (s : State) : Result :=
  functional s fun s =>
    if s.build.enginePorts ≤ port then noEvent "the build has no such engine port" s
    else if !s.runs swDispatch then finish (hold swDispatch (.statusRecord port rec') s)
    else finish (engineRecord port rec'.toNat (wakeUp swDispatch s))

/-- An edge granule has come: held until the task's final status, or walked (02 R65). -/
def edgeArrives (i gen : Nat) (g : Granule) (s : State) : State :=
  let x := s.slot i
  if !s.holdsTask i gen then s
  else if x.st == .retiring then walkGranule i g s
  else modSlot i (fun x => { x with held := some g }) s

/-- EDGE_GRANULE_ARRIVE (02 R65). -/
def execEdgeGranuleArrive (tag : Nat) (data : Granule) (err : Bool) (s : State) : Result :=
  sapwood s fun s =>
    onRead tag err (fun w => match w with | .edge _ _ => true | _ => false) data
      (fun r w s => match r.why with
        | .edge i gen => edgeArrives i gen (BitVec.ofNat 512 w) s
        | _ => s) s

/-- A seasoning descriptor has come (02 R57): SEASONED, or READY when the count has reached 0 meanwhile. -/
def seasonArrives (i gen d : Nat) (s : State) : State :=
  let x := s.slot i
  if !s.holdsTask i gen then s
  else if x.st == .seasoning then modSlot i (fun x => { x with st := .seasoned, desc := some (descOf d) }) s
  else if x.st == .fetching then s |> modSlot i (fun x => { x with desc := some (descOf d) }) |> maybeReady i
  else s

/-- SEASON_FETCH_ARRIVE (02 R57). -/
def execSeasonFetchArrive (tag : Nat) (data : Granule) (err : Bool) (s : State) : Result :=
  sapwood s fun s =>
    onRead tag err (fun w => match w with | .season _ _ => true | _ => false) data
      (fun r w s => match r.why with
        | .season i gen => seasonArrives i gen w s
        | _ => s) s

/-- An unseasoned descriptor has come (02 R74). -/
def descArrives (i gen d : Nat) (s : State) : State :=
  if s.holdsTask i gen && (s.slot i).st == .fetching then
    s |> modSlot i (fun x => { x with desc := some (descOf d) }) |> maybeReady i
  else s

/-- DESC_FETCH_ARRIVE (02 R74). -/
def execDescFetchArrive (tag : Nat) (data : Granule) (err : Bool) (s : State) : Result :=
  sapwood s fun s =>
    onRead tag err (fun w => match w with | .desc _ _ => true | _ => false) data
      (fun r w s => match r.why with
        | .desc i gen => descArrives i gen w s
        | _ => s) s

/-- FETCH_GRANT (02 R75): the FETCHING task that has waited longest takes an entry, and its reads are made. -/
def execFetchGrant (s : State) : Result :=
  sapwood s fun s =>
    match s.waitsEntry with
    | none => noEvent "no task waits for a cache entry" s
    | some i =>
      match cacheRoom s with
      | none => noEvent "every cache entry is pinned" s
      | some s => finish (s |> modSlot i (fun x => { x with entry := true }) |> readDesc i |> readPredicate i)

/-- A predicate word has come (02 R76). -/
def predicateArrives (i gen w : Nat) (s : State) : State :=
  if s.holdsTask i gen && (s.slot i).st == .fetching then
    s |> modSlot i (fun x => { x with pred := some (BitVec.ofNat 64 w) }) |> maybeReady i
  else s

/-- PREDICATE_ARRIVE (02 R76; 03 R141). -/
def execPredicateArrive (tag : Nat) (data : Granule) (err : Bool) (s : State) : Result :=
  sapwood s fun s =>
    onRead tag err (fun w => match w with | .pred _ _ => true | _ => false) data
      (fun r w s => match r.why with
        | .pred i gen => predicateArrives i gen w s
        | _ => s) s

/-- TASK_DISPATCH (02 R73, R77, R78): one fc of the issue unit, while SW_DISPATCH runs (01 R38). -/
def execTaskDispatch (s : State) : Result :=
  sapwood s fun s => if s.runs swDispatch then finish (issueFc s) else noEvent "SW_DISPATCH is gated" s

/-- The timeout of the task in flight on an engine (02 R103). -/
def engineTimeout (port : Nat) (s : State) : State :=
  let e := s.engine port
  s |> modEngine port (fun e => { e with timedOut := true })
    |> raiseCtx fltTaskTimeout srcIssue e.part e.ctx e.taskId
    |> chargeLasting port e.part e.ctx e.taskId

/-- The timeout of a delegated task (01 R25). -/
def childTimeout (i : Nat) (s : State) : State :=
  let x := s.slot i
  s |> modSlot i (fun x => { x with timedOut := true })
    |> raiseCtx fltChildTimeout srcIssue x.part x.ctx (s.taskId i)

/-- TASK_TIMEOUT (02 R102, R103; 01 R25): when it comes is the sweep's choice (log entry 3). -/
def execTaskTimeout (delegated : Bool) (idx : Nat) (s : State) : Result :=
  sapwood s fun s =>
    if delegated then
      let x := s.slot idx
      if x.st == .issued && x.child.isSome && !x.timedOut then finish (childTimeout idx s)
      else noEvent "no delegated task is in flight from the slot" s
    else
      let e := s.engine idx
      if e.busy && !e.timedOut then finish (engineTimeout idx s) else noEvent "no task is in flight on the engine" s

/-- ENGINE_RELEASE: a write of 1 to ENGINE_STATE.release (02 R103, R117). -/
def execEngineRelease (port : Nat) (s : State) : Result :=
  writeCommand (0xE1000 + 8 * port) (2 ^ 30) s

/-- ENGINE_SUSPECT_CLEAR: a write of 1 to ENGINE_STATE.suspect (02 R101, R117). -/
def execEngineSuspectClear (port : Nat) (s : State) : Result :=
  writeCommand (0xE1000 + 8 * port) (2 ^ 11) s

/-- A dispatch packet names a partition and a context that this instance's image maps (01 R27). -/
def State.mapped (s : State) (p c : Nat) : Bool := (s.recAt tyAlloc p 0).isSome && s.ctxConfigured p c

/-- A delegated task reaches the child (01 R24, R27; 03 R126): its work is launched. One whose context is parted here
completes with ST_PARTED. A page move runs as one mover task (05 R231); how the child tells it from a launch of the same
engine class is not said: a free value (log entry 15). -/
def takeDispatch (packet : Nat) (s : State) : State :=
  let p := fld packet 32 6
  let c := fld packet 38 5
  if !s.mapped p c then
    s |> raisePart fltPartitionUnmapped srcDependency p (fld packet 0 32) |> sendCompletion packet stUnmapped true false
  else if s.gone p c then sendCompletion packet stParted true false s
  else
    let (r, s) := takeFree 1 (wakeUp swDispatch s)
    if fld packet 51 3 == 2 && r == 1 then later (.mover packet) s
    else startLaunch (.delegated packet) p c (fld packet 43 8) (fld packet 64 52) 0 s

/-- DISPATCH (01 R27; 12 R519): from the parent only. -/
def execDispatch (port : Nat) (flit : Granule) (s : State) : Result :=
  sapwood s fun s =>
    if port != 0 then noEvent "a DISPATCH comes from the parent" s
    else onFlit port 0 1 s fun s => finish (takeDispatch (fld flit.toNat 0 128) s)

/-- COMPLETION (01 R25; 12 R519): from a child only. -/
def execCompletion (port : Nat) (flit : Granule) (s : State) : Result :=
  sapwood s fun s =>
    if port == 0 then noEvent "a COMPLETION comes from a child" s
    else onFlit port 0 1 s fun s => finish (childRecord port (fld flit.toNat 0 64) s)

end Sys2Proof.Machine
end

