-- ==== Sys2Proof/Machine/ChanCmds.lean ====
section
/-!
DEFINITION. The commands of the channel unit, the queue unit and the host queues (07).
-/
namespace Sys2Proof.Machine

/-! ### Channels (07 R285 to R299) -/

/-- SEND (07 R287 to R289). -/
def execSend (src : Nat) (req : BitVec 128) (s : State) : Result :=
  atLane src (.send src req) (sendRequest src req.toNat) s

/-- The payload of a send has been read; it leaves in its turn (07 R290, R299). -/
def payloadArrives (ch seq : Nat) (b : Blob) (s : State) : State :=
  s |> modChan ch (fun c =>
        { c with sends := c.sends.map (fun m => if m.seq == seq then { m with payload := some b } else m) })
    |> pumpChan ch

/-- SEND_PAYLOAD_READY (07 R290). -/
def execSendPayloadReady (tag : Nat) (data : Granule) (err : Bool) (s : State) : Result :=
  sapwood s fun s =>
    onRead tag err (fun w => match w with | .payload _ _ => true | _ => false) data
      (fun r w s => match r.why with
        | .payload ch seq => payloadArrives ch seq ⟨r.len, w⟩ s
        | _ => s) s

/-- MESSAGE (07 R291, R295; 12 R519): a header flit and the payload's flits; delivered, or forwarded. -/
def execMessage (port : Nat) (flit : Granule) (payload : Blob) (s : State) : Result :=
  sapwood s fun s =>
    let n := footprint payload.len
    if payload.len != fld flit.toNat 20 13 then noEvent "a payload of another length than the header gives" s
    else
      onFlit port 2 n s fun s =>
        if routeDest flit == s.selfCode then finish (deliverMessage flit payload (some port) s)
        else
          finish (forward port (routeDest flit)
            { cls := 2, pool := routePart flit, kind := 0x11, content := flit, flits := n, payload := payload } s)

/-- MESSAGE_RING_WRITTEN (07 R295): the last granule of a message has been accepted (log entry 53). It is accepted in its turn
(07 R299). -/
def execMessageRingWritten (chan seq : Nat) (s : State) : Result :=
  sapwood s fun s =>
    if (s.chan chan).ring.any (RingMsg.inWriting seq) then
      finish (s |> acceptWrites (.ring chan seq) |> messageWritten chan seq)
    else noEvent "no such message is being written" s

/-- ANSWER (07 R295, R297; 12 R519). -/
def execAnswer (port : Nat) (flit : Granule) (s : State) : Result :=
  sapwood s fun s =>
    onFlit port 0 1 s fun s =>
      finish (relay port (routeDest flit) { cls := 0, pool := routePart flit, kind := 0x03, content := flit }
        (answerArrive flit) s)

/-- The answer of a send has not come within the link timeout (07 R295). -/
def State.answerLate (s : State) (ch seq : Nat) : Bool :=
  (s.chan ch).sends.any (fun m => m.seq == seq && m.sent && !m.writing && decide (m.sentAt + 6400 ≤ s.power.heart))

/-- A segment header of a generation has been on its way for the link timeout, or longer (03 R144; 07 R295). -/
def lateHeader (gen now : Nat) (o : HeaderOut) : Bool :=
  o.gen == gen && o.sent && o.since.any (fun t => decide (t + 6400 ≤ now))

/-- The exchanges of a channel with such a header. -/
def State.lateExchanges (s : State) (ch gen : Nat) : List Nat :=
  (s.jigs.exchanges.filter (fun e => s.exchChannel e.1 == ch && e.2.outs.any (lateHeader gen s.power.heart))).map (·.1)

/-- ANSWER_TIMEOUT (07 R295): NACK with LINK. A segment header goes by its generation. -/
def execAnswerTimeout (chan seq : Nat) (s : State) : Result :=
  sapwood s fun s =>
    if s.answerLate chan seq then finish (s |> wakeUp swSync |> sendOutcome chan seq 2 7)
    else if !(s.lateExchanges chan seq).isEmpty then
      finish ((s.lateExchanges chan seq).foldl (fun t e => nackHeaders e (lateHeader seq s.power.heart) t) (wakeUp swSync s))
    else noEvent "no answer of the send is late" s

/-- A NACKed send of a resend channel is due (07 R297). -/
def State.resendDue (s : State) (ch seq : Nat) : Bool :=
  (s.chan ch).sends.any (fun m => m.seq == seq &&
    (match m.resendAt with
      | some t => decide (t + 64 ≤ s.power.heart)
      | none => false))

/-- MESSAGE_RESEND (07 R297). -/
def execMessageResend (chan seq : Nat) (s : State) : Result :=
  sapwood s fun s =>
    if !s.resendDue chan seq then noEvent "no NACKed send is due" s
    else
      finish (s |> wakeUp swSync
        |> modChan chan (fun c =>
            { c with sends := c.sends.map (fun m => if m.seq == seq then { m with resendAt := none } else m) })
        |> pumpChan chan)

/-! ### Queues (07 R300 to R312) -/

/-- WRITE (07 R303, R306, R307). -/
def execQueueWrite (src : Nat) (req : BitVec 128) (s : State) : Result :=
  atLane src (.queueWrite src req) (queuePort 0 src req) s

/-- READ (07 R303, R306, R308). -/
def execQueueRead (src : Nat) (req : BitVec 128) (s : State) : Result :=
  atLane src (.queueRead src req) (queuePort 1 src req) s

/-- MARK (07 R306). -/
def execMark (src : Nat) (req : BitVec 128) (s : State) : Result :=
  atLane src (.mark src req) (queuePort 2 src req) s

/-- REWIND (07 R306). -/
def execRewind (src : Nat) (req : BitVec 128) (s : State) : Result :=
  atLane src (.rewind src req) (queuePort 3 src req) s

/-- RELEASE (07 R306, R307). -/
def execQueueRelease (src : Nat) (req : BitVec 128) (s : State) : Result :=
  atLane src (.queueRelease src req) (queuePort 4 src req) s

/-- PKT_BEGIN (07 R312). -/
def execPktBegin (src : Nat) (req : BitVec 128) (s : State) : Result :=
  atLane src (.pktBegin src req) (queuePort 5 src req) s

/-- PKT_END (07 R312). -/
def execPktEnd (src : Nat) (req : BitVec 128) (s : State) : Result :=
  atLane src (.pktEnd src req) (queuePort 6 src req) s

/-- STATUS (07 R303, R327). -/
def execQueueStatus (src : Nat) (req : BitVec 128) (s : State) : Result :=
  atLane src (.queueStatus src req) (queuePort 7 src req) s

/-- QUEUE_REFILL_ARRIVE (07 R308, R311). -/
def execQueueRefillArrive (tag : Nat) (low high : BitVec 256) (err : Bool) (s : State) : Result :=
  sapwood s fun s =>
    onRead tag err (fun w => match w with | .refill _ _ => true | _ => false) (high ++ low)
      (fun r w s => match r.why with
        | .refill q pos => refilled q pos (some (BitVec.ofNat 64 (fld w 0 64), bit w (64 + pos % 8))) s
        | _ => s) s

/-- The read timer of a queue is due (07 R310). -/
def State.queueLate (s : State) (q : Nat) : Bool :=
  match (s.queue q).timer with
  | some t => decide (t + 100 * s.qTimeoutUs q ≤ s.power.heart)
  | none => false

/-- QUEUE_TIMEOUT (07 R310). -/
def execQueueTimeout (q : Nat) (s : State) : Result :=
  functional s fun s =>
    if s.queueLate q then timerDue swSync s fun s => finish (queueTimedOut q s)
    else noEvent "the queue's read timer is not due" s

/-! ### Host queues (07 R318 to R324) -/

/-- HOSTQ_ACK (07 R324, R330): a write of HOSTQ_EVT or HOSTQ_CPL. -/
def execHostqAck (p : Nat) (evt : Bool) (data : Word) (s : State) : Result :=
  writeCommand (0x10000 + 0x1000 * p + (if evt then 0x080 else 0x078)) data.toNat s

/-- The record of a ring that is being written, oldest first: its seq, and the content of a completion record. -/
def State.recordWriting (s : State) (p : Nat) (evt : Bool) : Option (Nat × Nat) :=
  let h := s.hostq p
  if evt then h.evtWriting.head?.map (fun n => (n, 0))
  else if h.retryAt.isNone then h.writing
  else none

/-- A record's granule is accepted (07 R321; 04 R195). -/
def takeRecord (p : Nat) (evt : Bool) (seq bits : Nat) (s : State) : State :=
  let s := s |> acceptWrites (.hostq p evt seq) |> producedRecord p evt seq
  if evt then s else stepDoneWritten p bits s

/-- HOSTQ_RECORD_ACCEPTED (07 R321): a halted instance's FAULT events are still accepted (13 R548; log entry 53). -/
def execHostqRecordAccepted (p : Nat) (evt : Bool) (s : State) : Result :=
  if s.wrapper.undefined then .fault .stateUndefined
  else if s.power.inReset then .next { s with outs := [] }
  else
    match s.recordWriting p evt with
    | none => noEvent "no record of the ring is being written" s
    | some (seq, bits) => finish (takeRecord p evt seq bits { s with outs := [], clock := s.clock + 1 })

/-- Write the failed completion record again (07 R321). -/
def rewriteRecord (p seq bits : Nat) (s : State) : State :=
  s |> modHostq p (fun h => { h with retryAt := none })
    |> issueWrite (.hostq p false seq) (s.ringAddr p false seq) ⟨64, bits⟩ p (fld bits 46 5) false
    |> judgeCpl p

/-- HOSTQ_RECORD_RETRY (07 R321): 64 hc after the failure. -/
def execHostqRecordRetry (p : Nat) (s : State) : Result :=
  functional s fun s =>
    match (s.hostq p).retryAt, (s.hostq p).writing with
    | some t, some (seq, bits) =>
      if s.power.heart < t + 64 then noEvent "the record's next write is not due" s
      else timerDue swSync s fun s => finish (rewriteRecord p seq bits s)
    | _, _ => noEvent "no completion record has failed" s

end Sys2Proof.Machine
end

