-- ==== Sys2Proof/Machine/CtxCmds.lean ====
section
/-!
DEFINITION. The commands of partitions, contexts and the scratchpad (08): slices, residency, parting and restore, lending,
the hold limit.
-/
namespace Sys2Proof.Machine

/-! ### Time slices (08 R338, R339) -/

/-- The running class has had its quantum (08 R339). -/
def State.quantumDue (s : State) (p : Nat) : Bool :=
  (s.slice p).running.isSome && !(s.slice p).deferred
    && decide ((s.slice p).since + 100 * s.quantumUs p ≤ s.power.heart)

/-- QUANTUM_EXPIRE (08 R338, R339). -/
def execQuantumExpire (p : Nat) (s : State) : Result :=
  functional s fun s =>
    if s.quantumDue p then finish (quantumExpired p s) else noEvent "the quantum has not expired" s

/-! ### Residency, parting and restore (08 R335, R343, R361 to R365, R370) -/

/-- A write of CTX_CTRL that names a context and sets one bit (08 R370). -/
def ctxWrite (p c b : Nat) (s : State) : Result := writeCommand (0x10058 + 0x1000 * p) (put c 0 5 + 2 ^ b) s

/-- CTX_BRING_IN (08 R335, R370). -/
def execCtxBringIn (p c : Nat) (s : State) : Result := ctxWrite p c 5 s

/-- CTX_DEMOTE (08 R343, R370). -/
def execCtxDemote (p c : Nat) (s : State) : Result := ctxWrite p c 6 s

/-- CTX_PART (08 R361, R370): FLT_HOST_PART. -/
def execCtxPart (p c : Nat) (s : State) : Result := ctxWrite p c 7 s

/-- CTX_RESTORE (08 R365, R370). -/
def execCtxRestore (p c : Nat) (s : State) : Result := ctxWrite p c 8 s

/-- PART (08 R362; 12 R519). -/
def execPart (port : Nat) (flit : Granule) (s : State) : Result :=
  sapwood s fun s =>
    let w := flit.toNat
    onFlit port 0 1 s fun s =>
      finish (relay port (routeDest flit) { cls := 0, pool := poolSystem, kind := 0x05, content := flit }
        (partReceived (fld w 0 8) (fld w 8 8) (fld w 16 16)) s)

/-- RESTORE (08 R365; 12 R519). -/
def execRestore (port : Nat) (flit : Granule) (s : State) : Result :=
  sapwood s fun s =>
    let w := flit.toNat
    onFlit port 0 1 s fun s =>
      finish (relay port (routeDest flit) { cls := 0, pool := poolSystem, kind := 0x06, content := flit }
        (restoreReceived (fld w 0 8) (fld w 8 8)) s)

/-! ### Scratchpad lines and the hold limit (08 R345 to R353, R359) -/

/-- BORROW (08 R346, R347). -/
def execBorrow (src : Nat) (req : Word) (s : State) : Result :=
  atLane src (.borrow src req) (scratchRequest src (opOf 0 1 (fld req.toNat 0 2)) req.toNat) s

/-- RETURN (08 R346, R347). -/
def execReturnRun (src : Nat) (req : Word) (s : State) : Result :=
  atLane src (.returnRun src req) (scratchRequest src (opOf 1 1 (fld req.toNat 0 2)) req.toNat) s

/-- The hold count of a context on a semaphore has stayed above 0 for the hold limit (08 R359). -/
def State.holdDue (s : State) (i c : Nat) : Bool :=
  let x := s.sem i
  let (h, t) := Tbl.at x.holds c (0, 0)
  decide (0 < h) && decide (t + 100 * s.holdLimitUs x.part ≤ s.power.heart) && !s.gone x.part c

/-- HOLD_LIMIT (08 R359). -/
def execHoldLimit (sem c : Nat) (s : State) : Result :=
  functional s fun s =>
    if s.holdDue sem c then finish (holdLimit sem c s) else noEvent "the hold limit has not been reached" s

end Sys2Proof.Machine
end

