-- ==== Sys2Proof/Machine/ImageCmds.lean ====
section
/-!
DEFINITION. The commands of the image loader and of the reshape (11 R445 to R468).
-/
namespace Sys2Proof.Machine

/-- IMAGE_LOAD (11 R445, R446, R473): a write of IMAGE_CTRL. -/
def execImageLoad (data : Word) (s : State) : Result := writeCommand 0xC0010 data.toNat s

/-- IMAGE_LOAD_DONE (11 R447, R451): the loader has read the image. -/
def execImageLoadDone (img : Blob) (s : State) : Result :=
  sapwood s fun s => if s.image.loading then finish (loadDone img s) else noEvent "no image is being loaded" s

/-- RESHAPE_START (11 R459, R473): a write of IMAGE_CTRL. -/
def execReshapeStart (data : Word) (s : State) : Result := writeCommand 0xC0010 data.toNat s

/-- RESHAPE_ABORT (11 R463, R473): a write of IMAGE_CTRL. -/
def execReshapeAbort (data : Word) (s : State) : Result := writeCommand 0xC0010 data.toNat s

/-- RESHAPE_VALIDATE_DONE (11 R459 step 3, R467): the new image has been read. -/
def execReshapeValidateDone (img : Blob) (s : State) : Result :=
  sapwood s fun s =>
    if s.reshape.reading then finish (reshapeRead img s) else noEvent "no new image is being read" s

/-! ### Reshape flits (11 R458; 12 R519) -/

/-- A reshape flit of an op arrives on a port. -/
def onReshape (op port : Nat) (flit : Granule) (s : State) : Result :=
  sapwood s fun s =>
    let w := flit.toNat
    if fld w 0 8 != op then noEvent "the flit carries another op" s
    else
      onFlit port 0 1 s fun s =>
        finish (relay port (routeDest flit) { cls := 0, pool := poolSystem, kind := 0x07, content := flit }
          (takeReshape port op (fld w 8 8) (fld w 16 16) (fld w 32 32) (fld w 64 64) (routeSrc flit)) s)

/-- PREPARE (11 R459 steps 2 and 3). -/
def execPrepare (port : Nat) (flit : Granule) (s : State) : Result := onReshape 1 port flit s

/-- VOTE (11 R458, R459 step 4). -/
def execVote (port : Nat) (flit : Granule) (s : State) : Result := onReshape 2 port flit s

/-- DRAIN (11 R459 step 4, R460). -/
def execDrain (port : Nat) (flit : Granule) (s : State) : Result := onReshape 3 port flit s

/-- DRAINED (11 R458, R459 step 5). -/
def execDrained (port : Nat) (flit : Granule) (s : State) : Result := onReshape 4 port flit s

/-- SWAP (11 R459 step 5, R461). -/
def execSwap (port : Nat) (flit : Granule) (s : State) : Result := onReshape 5 port flit s

/-- SWAPPED (11 R458, R459 step 6). -/
def execSwapped (port : Nat) (flit : Granule) (s : State) : Result := onReshape 6 port flit s

/-- COMMIT (11 R459 step 6, R462). -/
def execCommit (port : Nat) (flit : Granule) (s : State) : Result := onReshape 7 port flit s

/-- DONE (11 R458, R459 step 7). -/
def execDoneMsg (port : Nat) (flit : Granule) (s : State) : Result := onReshape 8 port flit s

/-- ABORT (11 R463). -/
def execAbortMsg (port : Nat) (flit : Granule) (s : State) : Result := onReshape 9 port flit s

/-- QUERY (11 R467, R468). -/
def execQuery (port : Nat) (flit : Granule) (s : State) : Result := onReshape 10 port flit s

/-- OUTCOME (11 R467, R468). -/
def execOutcome (port : Nat) (flit : Granule) (s : State) : Result := onReshape 11 port flit s

/-! ### Ends of phases -/

/-- Every affected partition is drained at the instance (11 R460). -/
def State.drainOver (s : State) : Bool :=
  s.reshape.phase == 2 && s.reshape.drainWait && s.reshape.parts.all (fun p => s.drained p)

/-- DRAIN_COMPLETE (11 R459 step 4, R460). -/
def execDrainComplete (s : State) : Result :=
  functional s fun s =>
    if s.drainOver then
      finish ({ s with reshape := { s.reshape with drainWait := false } } |> writeJournal 2)
    else noEvent "an affected partition is not drained" s

/-- The write of a bank that lookups have held up; the last one ends the phase (11 R461, R470). -/
def writeHeld (table : Nat) (s : State) : State :=
  let s := writeBank table s
  if s.image.busy.isEmpty then writeJournal 3 s else s

/-- BANK_WRITE (11 R461, R470, R471): no lookup of the inactive bank is in flight any more. -/
def execBankWrite (table : Nat) (s : State) : Result :=
  functional s fun s =>
    if s.reshape.phase == 3 && s.image.busy.contains table && s.lookups table (1 - s.activeBank table) == 0 then
      finish (writeHeld table s)
    else noEvent "the bank does not wait, or lookups of it are in flight" s

/-- QUERY_REPEAT (11 R467): every 10 µs. -/
def execQueryRepeat (s : State) : Result :=
  functional s fun s =>
    if s.reshape.querying && decide (s.reshape.askedAt + 1000 ≤ s.power.heart) then
      finish ({ s with reshape := { s.reshape with askedAt := s.power.heart } } |> sendQuery)
    else noEvent "no QUERY is to be repeated" s

/-- JOURNAL_WRITTEN (11 R465, R466): the oldest entry has been accepted (log entry 53). -/
def execJournalWritten (s : State) : Result :=
  sapwood s fun s =>
    match s.reshape.jOut with
    | [] => noEvent "no journal entry is being written" s
    | _ :: rest => finish (journalWritten (if rest.isEmpty then acceptWrites .journal s else s))

end Sys2Proof.Machine
end

