-- ==== Sys2Proof/Machine/JigCmds.lean ====
section
/-!
DEFINITION. The commands of the jig unit (03): launch records, the jig cache, parameter words, reservation, doorbells,
command lists and segment headers.
-/
namespace Sys2Proof.Machine

/-- LAUNCH_RECORD_ARRIVE (03 R125). -/
def execLaunchRecordArrive (tag : Nat) (data : Granule) (err : Bool) (s : State) : Result :=
  sapwood s fun s =>
    onRead tag err (fun w => match w with | .launch _ => true | _ => false) data
      (fun r w s => match r.why with
        | .launch id => if (Tbl.find s.jigs.launches id).isSome then launchRecord id w s else s
        | _ => s) s

/-! ### The jig cache (03 R119, R123, R580) -/

/-- The fill of a jig slot starts: its directory entry is read. -/
def readJigDir (slot : Nat) (r : BedRead) (s : State) : State :=
  { s with jigs := { s.jigs with filling := Tbl.put s.jigs.filling slot (0, none) } }
    |> issueRead (.jigDir slot) (s.jigTable + 16 * slot) 16 r.part r.ctx false

/-- A directory entry has come (03 R119, R125). -/
def jigDirArrives (slot w : Nat) (r : BedRead) (s : State) : State :=
  if bit w 52 then
    { s with jigs := { s.jigs with filling := Tbl.put s.jigs.filling slot (fld w 0 52, none) } }
      |> issueRead (.jigHead slot) (fld w 0 52) 64 r.part r.ctx false
  else
    let ls := s.waitJig slot
    ls.foldl (fun s id => failLaunch id fltJigNode s) (endFill slot none s)

/-- A jig header has come (03 R120): the node records and edge specs are next. -/
def jigHeadArrives (slot w : Nat) (r : BedRead) (s : State) : State :=
  let addr := (Tbl.at s.jigs.filling slot (0, none)).1
  let n := 32 * fld w 0 13 + 8 * fld w 16 14
  { s with jigs := { s.jigs with filling := Tbl.put s.jigs.filling slot (addr, some w) } }
    |> issueRead (.jigBody slot) (addr + 64) n r.part r.ctx false

/-- The rest of a jig body has come: the launches that wait for it go on. -/
def jigBodyArrives (slot w : Nat) (r : BedRead) (s : State) : State :=
  let head := ((Tbl.at s.jigs.filling slot (0, none)).2).getD 0
  let ls := s.waitJig slot
  endFill slot (some ⟨64 + r.len, head + w * 2 ^ 512⟩) s |> laters (ls.map Job.launchPlan)

/-- A part of a jig has come. A fill that has become stale starts again (R580). -/
def jigArrives (r : BedRead) (w : Nat) (s : State) : State :=
  let go (slot : Nat) (k : State → State) : State :=
    if s.jigs.stale.contains slot then
      readJigDir slot r { s with jigs := { s.jigs with stale := s.jigs.stale.filter (· != slot) } }
    else if (Tbl.find s.jigs.filling slot).isNone then s
    else k s
  match r.why with
  | .jigDir slot => go slot (jigDirArrives slot w r)
  | .jigHead slot => go slot (jigHeadArrives slot w r)
  | .jigBody slot => go slot (jigBodyArrives slot w r)
  | _ => s

/-- JIG_CACHE_FILL (03 R123). -/
def execJigCacheFill (tag : Nat) (data : Granule) (err : Bool) (s : State) : Result :=
  sapwood s fun s =>
    onRead tag err (fun w => match w with | .jigDir _ => true | .jigHead _ => true | .jigBody _ => true | _ => false) data
      jigArrives s

/-! ### Parameter words, reservation, lists -/

/-- The parameter words in the granules that were read for them (03 R129). -/
def paramWords (ptr : Nat) (ws : List Nat) (data : Nat) : List (Nat × BitVec 32) :=
  let gs := wordGranules ptr ws
  ws.map (fun w =>
    let a := ptr + 4 * w
    (w, BitVec.ofNat 32 (fld data (512 * gs.idxOf (a / 64) + 8 * (a % 64)) 32)))

/-- The parameter words of a launch have come (03 R129 to R131). -/
def paramsArrive (id : Nat) (ws : List Nat) (data : Nat) (s : State) : State :=
  match Tbl.find s.jigs.launches id with
  | none => s
  | some l => s |> modLaunch id (fun l' => { l' with words := paramWords l.paramPtr ws data }) |> launchCounted id

/-- PARAM_WORDS_ARRIVE (03 R129, R130). -/
def execParamWordsArrive (tag : Nat) (data : Granule) (err : Bool) (s : State) : Result :=
  sapwood s fun s =>
    onRead tag err (fun w => match w with | .params _ _ => true | _ => false) data
      (fun r w s => match r.why with
        | .params id ws => paramsArrive id ws w s
        | _ => s) s

/-- LAUNCH_RESERVE (03 R132): the partition's next waiter reserves everything it needs, when it is free. -/
def execLaunchReserve (p : Nat) (s : State) : Result :=
  sapwood s fun s =>
    if !s.started p then noEvent "the partition's work has not started" s
    else
      match s.nextWaiter p with
      | none => noEvent "no launch waits at reservation" s
      | some id =>
        match tryReserve id s with
        | none => noEvent "what the launch needs is not free" s
        | some s => finish s

/-- LAUNCH_DOORBELL (03 R126, R160): a write of the register. -/
def execLaunchDoorbell (p : Nat) (data : Word) (s : State) : Result :=
  writeCommand (0x10008 + 0x1000 * p) data.toNat s

/-- A part of a command list has come (03 R157, R158): the header first, then the whole list. -/
def listArrives (id : Nat) (r : BedRead) (w : Nat) (s : State) : State :=
  match Tbl.find s.jigs.launches id with
  | none => s
  | some l =>
    if r.len == 64 then
      let n := fld w 0 13
      if n == 0 || 4096 < n then launchList id ⟨64, w⟩ s
      else issueRead (.cmdlist id) (recCmd l.record) (listBytes w) l.part l.ctx false s
    else launchList id ⟨r.len, w⟩ s

/-- CMDLIST_READ_ARRIVE (03 R158). -/
def execCmdlistReadArrive (tag : Nat) (data : Granule) (err : Bool) (s : State) : Result :=
  sapwood s fun s =>
    onRead tag err (fun w => match w with | .cmdlist _ => true | _ => false) data
      (fun r w s => match r.why with
        | .cmdlist id => listArrives id r w s
        | _ => s) s

/-! ### Segment headers (03 R144, R146) -/

/-- SEGMENT (03 R144, R146; 12 R519): taken by the leaf that it names, or forwarded. -/
def execSegment (port : Nat) (flit : Granule) (s : State) : Result :=
  sapwood s fun s =>
    onFlit port 2 1 s fun s =>
      if routeDest flit == s.selfCode then finish (segmentReach flit (some port) s)
      else finish (forward port (routeDest flit) { cls := 2, pool := routePart flit, kind := 0x12, content := flit } s)

/-- The header to a member has been NACKed 64 hc ago (03 R144). -/
def State.headerDue (s : State) (e pos g : Nat) : Bool :=
  (s.exchange e).outs.any (fun o => o.pos == pos && o.gen == g && !o.sent && o.since.any (fun t => decide (t + 64 ≤ s.power.heart)))

/-- SEGMENT_RESEND (03 R144): a NACKed header, which has kept its in-flight place (07 R298), goes again. -/
def execSegmentResend (exch pos gen : Nat) (s : State) : Result :=
  sapwood s fun s =>
    if !s.headerDue exch pos gen then noEvent "no NACKed header is due" s
    else
      match (s.exchange exch).outs.find? (fun o => o.pos == pos && o.gen == gen) with
      | none => noEvent "no NACKed header is due" s
      | some o => finish (sendHeader exch pos gen o.content (wakeUp swSync s))

end Sys2Proof.Machine
end

