-- ==== Sys2Proof/Machine/PowerCmds.lean ====
section
/-!
DEFINITION. The commands of the faceplate, the resets, the clocks and gating, the power governor, the flush, and the
wrapper (12 R481, R498 to R505; 13 R529 to R543; 14).
-/
namespace Sys2Proof.Machine

/-- FP_WRITE (00 R17; 12 R481; 14 R560 to R577): a request at the faceplate port, a write or a read. -/
def execFpWrite (off : Nat) (data : Word) (s : State) : Result :=
  if isRead off then atFace s fun s => endQuiet (takeAccess (.fpWrite off data) s) else writeCommand off data.toNat s

/-! ### Resets (12 R502; 13 R540, R543) -/

/-- RESET_ASSERT (12 R502): nothing moves until the release. -/
def execResetAssert (cold warm : Bool) (s : State) : Result :=
  if !cold && !warm then noEvent "neither reset is asserted" s
  else
    let c := s.power.coldReset || cold
    let w := s.power.warmReset || warm
    .next { s with
      outs := []
      power := { s.power with inReset := true, coldReset := c, warmReset := w, bothResets := s.power.bothResets || (c && w) } }

/-- RST_COLD (13 R540): the release of `rst_cold_n`. While `rst_warm_n` is still low the block stays in reset (12 R502). -/
def execRstCold (s : State) : Result :=
  let t := coldStart s
  .next (if s.power.warmReset then
      { t with power := { t.power with inReset := true, warmReset := true, bothResets := s.power.bothResets } }
    else t)

/-- RST_WARM (13 R543): the release of `rst_warm_n`. With the cold reset asserted together with it the block performs a cold
reset (12 R502), which begins when both are released. -/
def execRstWarm (journal img : Blob) (s : State) : Result :=
  if s.power.coldReset then .next { s with outs := [], power := { s.power with warmReset := false } }
  else if s.power.bothResets then .next (coldStart s)
  else if s.wrapper.undefined then .fault .stateUndefined
  else finish (warmReset journal img s)

/-! ### Clocks and gating (01 R38 to R42; 12 R500, R501; 13 R529 to R533) -/

/-- An event of the clocks. The levels are followed at once, also in reset (12 R502); a halted block follows them too. -/
def atClock (s : State) (inReset : State → Result) (k : State → Result) : Result :=
  if s.wrapper.undefined then .fault .stateUndefined
  else if s.power.inReset then inReset { s with outs := [] }
  else k { s with outs := [], clock := s.clock + 1 }

/-- `clk_fast_stable` takes a level. -/
def fastLevel (b : Bool) (s : State) : State := { s with power := { s.power with fastStable := b } }

/-- DOMAIN_UNGATE (01 R39; 12 R501): a pending ungate completes while sapwood domains can run. -/
def execDomainUngate (d : Nat) (s : State) : Result :=
  atClock s (noEvent "no domain runs in reset") fun s =>
    if s.power.ungating.getD d false && !s.power.stopped then finish (ungated d s)
    else noEvent "no ungate of the domain can complete" s

/-- DOMAIN_GATE (13 R530, R531): the domain has been idle without a break for the idle hold. -/
def execDomainGate (d : Nat) (s : State) : Result :=
  functional s fun s =>
    if s.runs d && s.idle d && !bit s.power.forceOn d && decide (s.power.idleHold ≤ s.power.idleFor.getD d 0) then
      finish (gate d s)
    else noEvent "the domain does not gate now" s

/-- CLOCK_LOSS (13 R533). A halted block has no domain state left to halt for; it is undefined all the same. -/
def execClockLoss (s : State) : Result :=
  atClock s (fun s => .next (fastLevel false s)) fun s =>
    if s.power.fastStable && s.power.running.any id then
      if s.power.phase == 5 then .next (clockLost s)
      else finish (s |> clockLost |> raise fltClockLoss srcSupervisor 0 0 3 0)
    else noEvent "clk_fast_stable does not fall while a domain runs" s

/-- CLK_FAST_STOP (13 R533): not a fault. In reset `clk_fast` may be stopped throughout (12 R502). -/
def execClkFastStop (s : State) : Result :=
  atClock s (fun s => .next (fastLevel false s)) fun s =>
    if s.power.fastStable && !s.fastReq then .next (fastLevel false s)
    else noEvent "clk_fast does not stop while it is asked for" s

/-- FAST_STABLE_RISE (12 R501): requests that wait and pending ungates go on. -/
def execFastStableRise (s : State) : Result :=
  atClock s (fun s => .next (fastLevel true s)) fun s =>
    if s.power.fastStable then noEvent "clk_fast_stable is high already" s
    else finish (sapwoodRises (fastLevel true s))

/-- SUPERVISOR_PARITY (01 R36; 13 R548). -/
def execSupervisorParity (s : State) : Result :=
  functional s fun s => finish (raise fltSupervisorParity srcSupervisor 0 0 3 0 s)

/-! ### Power governor (12 R498, R499; 13 R536 to R538) -/

/-- PG_SAMPLE (12 R499; 13 R538). -/
def execPgSample (sample : Word) (s : State) : Result := functional s fun s => finish (takeSample sample.toNat s)

/-- TELEMETRY_GAP (12 R499; 13 R538): no sample for 2 µs. Without a cap nothing follows. -/
def execTelemetryGap (s : State) : Result :=
  functional s fun s =>
    if s.power.heart < s.power.sampleAt + 200 then noEvent "a sample has come within 2 µs" s
    else if s.power.cap == 0 || !s.runs swGov then .next s
    else finish (governGap s)

/-- POWER_CAP (13 R536, R556): a write of the register. -/
def execPowerCap (data : Word) (s : State) : Result := writeCommand 0x1018 data.toNat s

/-! ### Flush and the ledger window (13 R541, R558) -/

/-- FLUSH (13 R541): a write of START_CTRL. -/
def execFlush (data : Word) (s : State) : Result := writeCommand 0x1030 data.toNat s

/-- FLUSH_DONE (13 R541): the write-back is complete. -/
def execFlushDone (s : State) : Result :=
  functional s fun s =>
    if s.flushOver then .next { s with power := { s.power with flushed := true, flushing := false } }
    else noEvent "no flush has just been completed" s

/-- FAULT_SEL (13 R558): a write of the register. -/
def execFaultSel (data : Word) (s : State) : Result := writeCommand 0xE0008 data.toNat s

/-! ### The wrapper (12 R503 to R505) -/

/-- The instruction register takes a test instruction: the functional state is undefined from then on (12 R505). -/
def testInstr (code : Nat) (s : State) : State :=
  { s with outs := [], wrapper := { s.wrapper with instr := code, undefined := true } }

/-- The instruction register takes an instruction that leaves the functional state untouched. -/
def quietInstr (code : Nat) (s : State) : State :=
  { s with outs := [], wrapper := { s.wrapper with instr := code } }

/-- What the wrapper drives on the port signals in place of the block (12 R504): the boundary register under WS_EXTEST and
WS_CLAMP, 0 on the outputs that it names under WS_SAFE. -/
def State.drives (s : State) : Option Nat :=
  if s.wrapper.instr == 0x01 || s.wrapper.instr == 0x03 then some s.wrapper.boundary
  else if s.wrapper.instr == 0x04 then some 0
  else none

/-- The pin `fp_irq`. -/
def State.irqPin (s : State) : Bool :=
  match s.drives with
  | some w => bit w (Sys2Proof.Config.irqCell % s.boundaryWidth)
  | none => s.irqLine

/-- The pin `clk_fast_req`: it has no boundary cell, and WS_SAFE drives it to 0 (12 R503, R504). -/
def State.fastReqPin (s : State) : Bool := s.fastReq && s.wrapper.instr != 0x04

/-- WS_BYPASS (12 R504, R505), and every opcode that is not listed. -/
def execWsBypass (s : State) : Result := .next (quietInstr 0x00 s)

/-- WS_EXTEST (12 R504): the boundary register drives the port signals and captures them. -/
def execWsExtest (cells : Nat) (s : State) : Result :=
  let s := testInstr 0x01 s
  .next { s with wrapper := { s.wrapper with boundary := cells % 2 ^ s.boundaryWidth } }

/-- WS_INTEST_SCAN (12 R504). -/
def execWsIntestScan (s : State) : Result := .next (testInstr 0x02 s)

/-- WS_CLAMP (12 R504): the outputs are held at the boundary register's values. -/
def execWsClamp (s : State) : Result := .next (testInstr 0x03 s)

/-- WS_SAFE (12 R504): the outputs that it names are 0. -/
def execWsSafe (s : State) : Result := .next (testInstr 0x04 s)

/-- WB_IDCODE (12 R504). -/
def execWbIdcode (s : State) : Result :=
  let code := 0x00030001 + s.build.code * 2 ^ 32
  .next (quietInstr 0x10 { s with wrapper := { s.wrapper with idcode := code } } |> emit (.wrapper code))

/-- WB_MBIST (12 R504): bit 0 starts the self-test, which clears the result before. -/
def execWbMbist (data : Word) (s : State) : Result :=
  let s := testInstr 0x11 s
  .next (if bit data.toNat 0 then { s with wrapper := { s.wrapper with mbist := 1 } } else s)

/-- The result of a self-test: done, fail and the first failing memory (12 R504). -/
def mbistResult (fail : Option Nat) : Nat :=
  match fail with
  | none => 3
  | some k => 7 + put k 3 13

/-- MBIST_DONE (12 R504). -/
def execMbistDone (fail : Option Nat) (s : State) : Result :=
  if s.wrapper.mbist != 1 then noEvent "no self-test runs" s
  else .next { s with outs := [], wrapper := { s.wrapper with mbist := mbistResult fail } }

/-- WB_FPACCESS (12 R504): one faceplate access. -/
def execWbFpaccess (data : BitVec 128) (s : State) : Result :=
  atFace (quietInstr 0x12 { s with wrapper := { s.wrapper with fpaccess := data.toNat } }) fun s =>
    if bit data.toNat 17 then endWrite (accessOff data.toNat) (fpWrite (accessOff data.toNat) (fld data.toNat 64 64) s)
    else endQuiet (takeAccess (.wbFpaccess data) s)

end Sys2Proof.Machine
end

