-- ==== Sys2Proof/Machine/ReduceCmds.lean ====
section
/-!
DEFINITION. The commands of collectives and of deterministic boundaries (09; 10 R409, R410).
-/
namespace Sys2Proof.Machine

/-- The contribute record of a task has come (09 R378, R379). -/
def recordArrives (i gen r : Nat) (s : State) : State :=
  if s.holdsTask i gen then contributeArrive i r s else s

/-- CONTRIBUTE_RECORD_ARRIVE (09 R377 to R379). -/
def execContributeRecordArrive (tag : Nat) (data : Granule) (err : Bool) (s : State) : Result :=
  sapwood s fun s =>
    onRead tag err (fun w => match w with | .contribute _ _ => true | _ => false) data
      (fun r w s => match r.why with
        | .contribute i gen => recordArrives i gen w s
        | _ => s) s

/-! ### Reduce messages (09 R388, R389; 12 R520, R521) -/

/-- The flits behind the header are those that the header announces (09 R389). -/
def RMsg.fits (m : RMsg) (mask data : Blob) : Bool :=
  data.len == 64 * dataFlits m.stats m.length && mask.len % 64 == 0 && (m.masked == (mask.len != 0))

/-- The flit of a message from the bridge as the root hands it on: to the leaf of member 0 (12 R521). The route word names
that leaf from then on (log entry 56). -/
def fromBridge (flit : Granule) (code : Nat) : Granule :=
  let r := routeOf flit
  BitVec.ofNat 512 (fld flit.toNat 0 448 + (r - fld r 0 16 + code) * 2 ^ 448)

/-- A reduce message of `n` flits is taken here, passed through the bridge, or forwarded. -/
def passReduce (port n : Nat) (flit : Granule) (m : RMsg) (payload : Blob) (take : State → State) (s : State) : State :=
  let key := creditKey m.part 3 false
  let msg : TxMsg := { cls := 3, pool := m.part, kind := 0x30, content := flit, flits := n, payload := payload }
  if routeBridge flit then
    if port == 0 && s.isRoot then
      match s.rdCode m.group 0 with
      | none => creditBack port key n s
      | some code =>
        if code == s.selfCode then s |> take |> creditBack port key n
        else forward port code { msg with content := fromBridge flit code } s
    else sendOn 0 { msg with back := some (port, key) } s
  else if routeDest flit == s.selfCode then s |> take |> creditBack port key n
  else forward port (routeDest flit) msg s

/-- A reduce message of a type arrives on a port (09 R389). -/
def onReduce (type port : Nat) (flit : Granule) (mask data : Blob) (take : RMsg → State → State) (s : State) : Result :=
  sapwood s fun s =>
    let m := rmsgOf flit.toNat
    let n := 1 + mask.len / 64 + data.len / 64
    if m.type != type || !m.fits mask data then noEvent "flits that are no such reduce message" s
    else onFlit port 3 n s fun s => finish (passReduce port n flit m (blobCat mask data) (take m) s)

/-- PARTIAL (09 R386, R392). -/
def execPartialMsg (port : Nat) (flit : Granule) (mask : Blob) (data : Blob) (s : State) : Result :=
  onReduce 1 port flit mask data (fun m => partialArrive m mask data) s

/-- READY (09 R386). -/
def execReady (port : Nat) (flit : Granule) (s : State) : Result :=
  onReduce 5 port flit ⟨0, 0⟩ ⟨0, 0⟩ readyArrive s

/-- RESULT (09 R396). -/
def execResult (port : Nat) (flit : Granule) (mask : Blob) (data : Blob) (s : State) : Result :=
  onReduce 2 port flit mask data (fun m => endArrive m mask data) s

/-- SHARD (09 R398). -/
def execShard (port : Nat) (flit : Granule) (mask : Blob) (data : Blob) (s : State) : Result :=
  onReduce 3 port flit mask data (fun m => endArrive m mask data) s

/-- UPDATE (09 R398). -/
def execUpdate (port : Nat) (flit : Granule) (data : Blob) (s : State) : Result :=
  onReduce 4 port flit ⟨0, 0⟩ data (fun m => endArrive m ⟨0, 0⟩ data) s

/-! ### Deadlines and delivery (09 R390, R391, R396) -/

/-- REDUCE_DEADLINE (09 R390, R391). -/
def execReduceDeadline (slot : Nat) (s : State) : Result :=
  functional s fun s =>
    if s.deadlineDue slot then timerDue swCombine s fun s => finish (deadlineFires slot s)
    else noEvent "no deadline of the slot is due" s

/-- DELIVERY_DONE (09 R396, R398): the result and the completion record have been accepted (log entry 53). -/
def execDeliveryDone (slot : Nat) (s : State) : Result :=
  sapwood s fun s =>
    if (s.bucket slot).isOpen && (s.bucket slot).delivering then
      finish (s |> acceptWrites (.delivery slot) |> deliveryDone slot)
    else noEvent "the bucket delivers nothing" s

/-! ### Boundaries (10 R409, R410) -/

/-- DET_BOUNDARY (10 R409, R424): a write of the register. -/
def execDetBoundary (p : Nat) (data : Word) (s : State) : Result :=
  writeCommand (0x10050 + 0x1000 * p) data.toNat s

/-- BOUNDARY_TAKEN (10 R409, R410, R414): the boundary that waits is taken, with the membership banks as read. -/
def execBoundaryTaken (p : Nat) (banks : List (Nat × Blob × Blob)) (s : State) : Result :=
  sapwood s fun s =>
    if s.isHome p && s.detOf p && s.boundaryDue p then finish (takeBoundary p banks s)
    else noEvent "no boundary of the partition can be taken" s

/-- MEMBER (10 R410; 12 R519): a membership record and its bank, in ten flits. -/
def execMember (port : Nat) (flit : Granule) (bank : Blob) (s : State) : Result :=
  sapwood s fun s =>
    onFlit port 0 10 s fun s =>
      finish (relay port (routeDest flit)
        { cls := 0, pool := poolSystem, kind := 0x08, content := flit, flits := 10, payload := bank }
        (installMember flit bank) s)

/-- MEMBER_ACK (10 R410; 12 R519). -/
def execMemberAck (port : Nat) (flit : Granule) (s : State) : Result :=
  sapwood s fun s =>
    onFlit port 0 1 s fun s =>
      finish (relay port (routeDest flit) { cls := 0, pool := poolSystem, kind := 0x09, content := flit }
        (memberAcked flit) s)

end Sys2Proof.Machine
end

