-- ==== Sys2Proof/Machine/ServeCmds.lean ====
section
/-!
DEFINITION. The commands of serving: intake frames and records, steps, the fence, the digest lanes, page moves and the two
caches (04; 05; 07 R315 to R317).
-/
namespace Sys2Proof.Machine

/-! ### Intake (04 R163, R169 to R176; 07 R315 to R317) -/

/-- INTAKE_FRAME (07 R315 to R317): held at the port while SW_SERVE is gated (01 R39). -/
def execIntakeFrame (header : Option (BitVec 256)) (beats : List (BitVec 256)) (s : State) : Result :=
  functional s fun s =>
    if !s.runs swServe then finish (hold swServe (.intakeFrame header beats) s)
    else finish (framePort header beats (wakeUp swServe s))

/-- INTAKE (04 R163; 12 R519): a record on its way to the home of its partition, which bits 47:42 name. -/
def execIntake (port : Nat) (flit : Granule) (s : State) : Result :=
  sapwood s fun s =>
    let p := fld flit.toNat 42 6
    onFlit port 0 1 s fun s =>
      if s.isHome p then
        finish (s |> wakeUp swServe |> intakeArrive port flit)
      else finish (forward port (s.homeCode p) { cls := 0, pool := p, kind := 0x04, content := flit } s)

/-- The oldest buffered record of a partition has a type, and may be applied now (04 R171, R172, R196). A record of a
reserved type, which R173 rejects, may come under any row. -/
def applyTyped (type p : Nat) (s : State) : Result :=
  sapwood s fun s =>
    match s.headRecord p with
    | none => noEvent "no record waits in the intake buffer" s
    | some (r, _) =>
      let t := fld r.toNat 32 8
      if t != type && decide (1 ≤ t) && decide (t ≤ 5) then noEvent "the oldest record is of another type" s
      else if !s.intakeMay p then noEvent "records of the partition wait" s
      else finish (s |> wakeUp swServe |> applyRecord p)

/-- NEW_STREAM (04 R169, R174). -/
def execNewStream (p : Nat) (s : State) : Result := applyTyped 1 p s

/-- APPEND_TOKENS (04 R170, R174). -/
def execAppendTokens (p : Nat) (s : State) : Result := applyTyped 2 p s

/-- END_STREAM (04 R170, R174). -/
def execEndStream (p : Nat) (s : State) : Result := applyTyped 3 p s

/-- CANCEL (04 R170, R174). -/
def execCancel (p : Nat) (s : State) : Result := applyTyped 4 p s

/-- SET_DEADLINE (04 R170, R174). -/
def execSetDeadline (p : Nat) (s : State) : Result := applyTyped 5 p s

/-- INTAKE_DOORBELL (07 R325): a write of the register. -/
def execIntakeDoorbell (p : Nat) (data : Word) (s : State) : Result :=
  writeCommand (0x10028 + 0x1000 * p) data.toNat s

/-! ### Steps (04 R177 to R206) -/

/-- STEP_COMPLETE (04 R178 steps 1 to 3): every launch task of the running step has retired; there is a result word for each
entry. -/
def execStepComplete (p : Nat) (results : List (BitVec 32)) (s : State) : Result :=
  sapwood s fun s =>
    if s.stepOver p && results.length == (s.serve p).entries.length && !(s.serve p).misses.contains 2 then
      finish (s |> wakeUp swServe |> completeStep p results)
    else noEvent "the partition's step is not complete" s

/-- STEP_FLOOR_EXPIRE (04 R177): 400 µs after the formation. -/
def execStepFloorExpire (p : Nat) (s : State) : Result :=
  functional s fun s =>
    if (s.serve p).floorDone || s.power.heart < (s.serve p).formedAt + 40000 then
      noEvent "the step-rate floor has not expired" s
    else timerDue swServe s fun s => finish (modServe p (fun v => { v with floorDone := true }) s)

/-- STEP_FORM (04 R178 steps 6 and 7): where a step may not be formed now the batch former sleeps. -/
def execStepForm (p : Nat) (s : State) : Result :=
  sapwood s fun s => if s.formMay p then finish (s |> wakeUp swServe |> formStep p) else .next s

/-- DIGEST_DONE (04 R204, R205). -/
def execDigestDone (p : Nat) (s : State) : Result :=
  sapwood s fun s =>
    if (s.serve p).done.isEmpty then noEvent "no step waits for its digests" s
    else if s.power.writeThrough && s.writingBack p then noEvent "the updates of the step are still being written" s
    else finish (s |> wakeUp swServe |> digestsDone p)

/-- SERVE_FENCE (04 R196, R206): a write of the register. -/
def execServeFence (p : Nat) (data : Word) (s : State) : Result :=
  writeCommand (0x10018 + 0x1000 * p) data.toNat s

/-- STEP_RELEASE (04 R195, R206): a write of the register. -/
def execStepRelease (p : Nat) (data : Word) (s : State) : Result :=
  writeCommand (0x10020 + 0x1000 * p) data.toNat s

/-! ### Pages and caches (04 R168; 05 R231 to R239) -/

/-- MOVE_COMPLETE (05 R233, R234): the move's task has its final status. -/
def execMoveComplete (p ledger : Nat) (s : State) : Result :=
  sapwood s fun s =>
    match Tbl.find (s.page p).moves ledger with
    | none => noEvent "no move of the page is in flight" s
    | some m =>
      match m.fin with
      | none => noEvent "the move has no final status" s
      | some (status, poison) => finish (s |> wakeUp swServe |> moveComplete p ledger m status poison)

/-- PAGE_WARM (05 R235): a write of the register. -/
def execPageWarm (p : Nat) (data : Word) (s : State) : Result :=
  writeCommand (0x10038 + 0x1000 * p) data.toNat s

/-- STREAM_CACHE_FILL (04 R168). -/
def execStreamCacheFill (tag : Nat) (data : Granule) (err : Bool) (s : State) : Result :=
  sapwood s fun s =>
    onRead tag err (fun w => match w with | .stream _ _ => true | _ => false) data
      (fun r w s => match r.why with
        | .stream p i => s |> streamFilled p i w |> resumeFills p
        | _ => s) s

/-- LEDGER_CACHE_FILL (05 R239). -/
def execLedgerCacheFill (tag : Nat) (data : Granule) (err : Bool) (s : State) : Result :=
  sapwood s fun s =>
    onRead tag err (fun w => match w with | .ledger _ _ => true | _ => false) data
      (fun r w s => match r.why with
        | .ledger p i => s |> pageFilled p i w |> resumeFills p
        | _ => s) s

end Sys2Proof.Machine
end

