-- ==== Sys2Proof/Machine/Dispatch.lean ====
section
/-!
DEFINITION. The meaning of each command: one arm for each constructor of Instr.
-/
namespace Sys2Proof.Machine

def exec (i : Instr) (s : State) : Host.Outcome State Fault Refusal :=
  match i with
  | .fpWrite off data => Sys2Proof.Machine.execFpWrite off data s
  | .rstCold => Sys2Proof.Machine.execRstCold s
  | .rstWarm journal image => Sys2Proof.Machine.execRstWarm journal image s
  | .domainUngate d => Sys2Proof.Machine.execDomainUngate d s
  | .domainGate d => Sys2Proof.Machine.execDomainGate d s
  | .clockLoss => Sys2Proof.Machine.execClockLoss s
  | .fastStableRise => Sys2Proof.Machine.execFastStableRise s
  | .supervisorParity => Sys2Proof.Machine.execSupervisorParity s
  | .statusRecord port rec => Sys2Proof.Machine.execStatusRecord port rec s
  | .edgeGranuleArrive tag data err => Sys2Proof.Machine.execEdgeGranuleArrive tag data err s
  | .seasonFetchArrive tag data err => Sys2Proof.Machine.execSeasonFetchArrive tag data err s
  | .descFetchArrive tag data err => Sys2Proof.Machine.execDescFetchArrive tag data err s
  | .fetchGrant => Sys2Proof.Machine.execFetchGrant s
  | .predicateArrive tag data err => Sys2Proof.Machine.execPredicateArrive tag data err s
  | .taskDispatch => Sys2Proof.Machine.execTaskDispatch s
  | .taskTimeout delegated idx => Sys2Proof.Machine.execTaskTimeout delegated idx s
  | .engineRelease port => Sys2Proof.Machine.execEngineRelease port s
  | .engineSuspectClear port => Sys2Proof.Machine.execEngineSuspectClear port s
  | .dispatch port flit => Sys2Proof.Machine.execDispatch port flit s
  | .completion port flit => Sys2Proof.Machine.execCompletion port flit s
  | .launchRecordArrive tag data err => Sys2Proof.Machine.execLaunchRecordArrive tag data err s
  | .jigCacheFill tag data err => Sys2Proof.Machine.execJigCacheFill tag data err s
  | .paramWordsArrive tag data err => Sys2Proof.Machine.execParamWordsArrive tag data err s
  | .launchReserve p => Sys2Proof.Machine.execLaunchReserve p s
  | .launchDoorbell p data => Sys2Proof.Machine.execLaunchDoorbell p data s
  | .cmdlistReadArrive tag data err => Sys2Proof.Machine.execCmdlistReadArrive tag data err s
  | .segment port flit => Sys2Proof.Machine.execSegment port flit s
  | .segmentResend exch pos gen => Sys2Proof.Machine.execSegmentResend exch pos gen s
  | .intakeFrame header beats => Sys2Proof.Machine.execIntakeFrame header beats s
  | .newStream p => Sys2Proof.Machine.execNewStream p s
  | .appendTokens p => Sys2Proof.Machine.execAppendTokens p s
  | .endStream p => Sys2Proof.Machine.execEndStream p s
  | .cancel p => Sys2Proof.Machine.execCancel p s
  | .setDeadline p => Sys2Proof.Machine.execSetDeadline p s
  | .intake port flit => Sys2Proof.Machine.execIntake port flit s
  | .intakeDoorbell p data => Sys2Proof.Machine.execIntakeDoorbell p data s
  | .stepComplete p results => Sys2Proof.Machine.execStepComplete p results s
  | .stepFloorExpire p => Sys2Proof.Machine.execStepFloorExpire p s
  | .stepForm p => Sys2Proof.Machine.execStepForm p s
  | .digestDone p => Sys2Proof.Machine.execDigestDone p s
  | .serveFence p data => Sys2Proof.Machine.execServeFence p data s
  | .stepRelease p data => Sys2Proof.Machine.execStepRelease p data s
  | .moveComplete p ledger => Sys2Proof.Machine.execMoveComplete p ledger s
  | .pageWarm p data => Sys2Proof.Machine.execPageWarm p data s
  | .signal src req => Sys2Proof.Machine.execSignal src req s
  | .wait src req => Sys2Proof.Machine.execWait src req s
  | .tryTake src req => Sys2Proof.Machine.execTryTake src req s
  | .take src req => Sys2Proof.Machine.execTake src req s
  | .syncRead src req => Sys2Proof.Machine.execSyncRead src req s
  | .arrive src req => Sys2Proof.Machine.execArrive src req s
  | .arriveWait src req => Sys2Proof.Machine.execArriveWait src req s
  | .bwait src req => Sys2Proof.Machine.execBwait src req s
  | .switchCtx src req => Sys2Proof.Machine.execSwitchCtx src req s
  | .remoteSync port flit => Sys2Proof.Machine.execRemoteSync port flit s
  | .syncDbgSel data => Sys2Proof.Machine.execSyncDbgSel data s
  | .syncDump data => Sys2Proof.Machine.execSyncDump data s
  | .syncDumpDone err => Sys2Proof.Machine.execSyncDumpDone err s
  | .send src req => Sys2Proof.Machine.execSend src req s
  | .sendPayloadReady tag data err => Sys2Proof.Machine.execSendPayloadReady tag data err s
  | .message port flit payload => Sys2Proof.Machine.execMessage port flit payload s
  | .messageRingWritten chan seq => Sys2Proof.Machine.execMessageRingWritten chan seq s
  | .answer port flit => Sys2Proof.Machine.execAnswer port flit s
  | .answerTimeout chan seq => Sys2Proof.Machine.execAnswerTimeout chan seq s
  | .messageResend chan seq => Sys2Proof.Machine.execMessageResend chan seq s
  | .queueWrite src req => Sys2Proof.Machine.execQueueWrite src req s
  | .queueRead src req => Sys2Proof.Machine.execQueueRead src req s
  | .mark src req => Sys2Proof.Machine.execMark src req s
  | .rewind src req => Sys2Proof.Machine.execRewind src req s
  | .queueRelease src req => Sys2Proof.Machine.execQueueRelease src req s
  | .pktBegin src req => Sys2Proof.Machine.execPktBegin src req s
  | .pktEnd src req => Sys2Proof.Machine.execPktEnd src req s
  | .queueStatus src req => Sys2Proof.Machine.execQueueStatus src req s
  | .queueRefillArrive tag low high err => Sys2Proof.Machine.execQueueRefillArrive tag low high err s
  | .queueTimeout q => Sys2Proof.Machine.execQueueTimeout q s
  | .hostqAck p evt data => Sys2Proof.Machine.execHostqAck p evt data s
  | .hostqRecordAccepted p evt => Sys2Proof.Machine.execHostqRecordAccepted p evt s
  | .hostqRecordRetry p => Sys2Proof.Machine.execHostqRecordRetry p s
  | .quantumExpire p => Sys2Proof.Machine.execQuantumExpire p s
  | .ctxBringIn p c => Sys2Proof.Machine.execCtxBringIn p c s
  | .ctxDemote p c => Sys2Proof.Machine.execCtxDemote p c s
  | .ctxPart p c => Sys2Proof.Machine.execCtxPart p c s
  | .ctxRestore p c => Sys2Proof.Machine.execCtxRestore p c s
  | .part port flit => Sys2Proof.Machine.execPart port flit s
  | .restore port flit => Sys2Proof.Machine.execRestore port flit s
  | .borrow src req => Sys2Proof.Machine.execBorrow src req s
  | .returnRun src req => Sys2Proof.Machine.execReturnRun src req s
  | .holdLimit sem c => Sys2Proof.Machine.execHoldLimit sem c s
  | .contributeRecordArrive tag data err => Sys2Proof.Machine.execContributeRecordArrive tag data err s
  | .partialMsg port flit mask data => Sys2Proof.Machine.execPartialMsg port flit mask data s
  | .ready port flit => Sys2Proof.Machine.execReady port flit s
  | .result port flit mask data => Sys2Proof.Machine.execResult port flit mask data s
  | .shard port flit mask data => Sys2Proof.Machine.execShard port flit mask data s
  | .update port flit data => Sys2Proof.Machine.execUpdate port flit data s
  | .reduceDeadline slot => Sys2Proof.Machine.execReduceDeadline slot s
  | .deliveryDone slot => Sys2Proof.Machine.execDeliveryDone slot s
  | .detBoundary p data => Sys2Proof.Machine.execDetBoundary p data s
  | .boundaryTaken p banks => Sys2Proof.Machine.execBoundaryTaken p banks s
  | .member port flit bank => Sys2Proof.Machine.execMember port flit bank s
  | .memberAck port flit => Sys2Proof.Machine.execMemberAck port flit s
  | .imageLoad data => Sys2Proof.Machine.execImageLoad data s
  | .imageLoadDone img => Sys2Proof.Machine.execImageLoadDone img s
  | .reshapeStart data => Sys2Proof.Machine.execReshapeStart data s
  | .reshapeAbort data => Sys2Proof.Machine.execReshapeAbort data s
  | .prepare port flit => Sys2Proof.Machine.execPrepare port flit s
  | .reshapeValidateDone img => Sys2Proof.Machine.execReshapeValidateDone img s
  | .vote port flit => Sys2Proof.Machine.execVote port flit s
  | .drain port flit => Sys2Proof.Machine.execDrain port flit s
  | .drainComplete => Sys2Proof.Machine.execDrainComplete s
  | .drained port flit => Sys2Proof.Machine.execDrained port flit s
  | .swap port flit => Sys2Proof.Machine.execSwap port flit s
  | .bankWrite table => Sys2Proof.Machine.execBankWrite table s
  | .swapped port flit => Sys2Proof.Machine.execSwapped port flit s
  | .commit port flit => Sys2Proof.Machine.execCommit port flit s
  | .doneMsg port flit => Sys2Proof.Machine.execDoneMsg port flit s
  | .abortMsg port flit => Sys2Proof.Machine.execAbortMsg port flit s
  | .query port flit => Sys2Proof.Machine.execQuery port flit s
  | .outcome port flit => Sys2Proof.Machine.execOutcome port flit s
  | .queryRepeat => Sys2Proof.Machine.execQueryRepeat s
  | .journalWritten => Sys2Proof.Machine.execJournalWritten s
  | .bedWriteAccept tag err => Sys2Proof.Machine.execBedWriteAccept tag err s
  | .linkStateChange port st => Sys2Proof.Machine.execLinkStateChange port st s
  | .admitMsg port flit => Sys2Proof.Machine.execAdmitMsg port flit s
  | .ack port flit => Sys2Proof.Machine.execAck port flit s
  | .nak port flit => Sys2Proof.Machine.execNak port flit s
  | .replayBegin port => Sys2Proof.Machine.execReplayBegin port s
  | .credit port flit => Sys2Proof.Machine.execCredit port flit s
  | .flitError rx => Sys2Proof.Machine.execFlitError rx s
  | .linkProtocol port => Sys2Proof.Machine.execLinkProtocol port s
  | .event port flit => Sys2Proof.Machine.execEvent port flit s
  | .ackTimer port => Sys2Proof.Machine.execAckTimer port s
  | .nakRepeat port => Sys2Proof.Machine.execNakRepeat port s
  | .l1Idle port => Sys2Proof.Machine.execL1Idle port s
  | .linkTimeout port => Sys2Proof.Machine.execLinkTimeout port s
  | .discoveryTimeout port => Sys2Proof.Machine.execDiscoveryTimeout port s
  | .pgSample sample => Sys2Proof.Machine.execPgSample sample s
  | .telemetryGap => Sys2Proof.Machine.execTelemetryGap s
  | .powerCap data => Sys2Proof.Machine.execPowerCap data s
  | .flush data => Sys2Proof.Machine.execFlush data s
  | .flushDone => Sys2Proof.Machine.execFlushDone s
  | .faultSel data => Sys2Proof.Machine.execFaultSel data s
  | .wsBypass => Sys2Proof.Machine.execWsBypass s
  | .wsExtest cells => Sys2Proof.Machine.execWsExtest cells s
  | .wsIntestScan => Sys2Proof.Machine.execWsIntestScan s
  | .wsClamp => Sys2Proof.Machine.execWsClamp s
  | .wsSafe => Sys2Proof.Machine.execWsSafe s
  | .wbIdcode => Sys2Proof.Machine.execWbIdcode s
  | .wbMbist data => Sys2Proof.Machine.execWbMbist data s
  | .wbFpaccess data => Sys2Proof.Machine.execWbFpaccess data s
  | .clkFastStop => Sys2Proof.Machine.execClkFastStop s
  | .resetAssert cold warm => Sys2Proof.Machine.execResetAssert cold warm s
  | .mbistDone fail => Sys2Proof.Machine.execMbistDone fail s
  | .streamCacheFill tag data err => Sys2Proof.Machine.execStreamCacheFill tag data err s
  | .ledgerCacheFill tag data err => Sys2Proof.Machine.execLedgerCacheFill tag data err s

end Sys2Proof.Machine
end

