-- ==== Sys2Proof/Machine/Tick.lean ====
section
/-!
DEFINITION. What the block does when no command waits: one heartwood cycle passes (log entry 3).
-/
namespace Sys2Proof.Machine

/-- The sapwood storage has been cleared, which needs `clk_fast`: EMPTY follows, or after a warm reset the replay of the journal
(13 R540 steps 2 and 3, R543). Domains can run from then on. -/
def cleared (s : State) : State :=
  sapwoodRises (match s.power.replayIn with
    | some (journal, img) => warmCleared journal img s
    | none => { s with power := { s.power with phase := 2 } })

/-- The start sequence (13 R540 steps 1 to 3; R543): RESET, then CLEAR. -/
def startSequence (s : State) : State :=
  if s.power.phase == 0 then { s with power := { s.power with phase := 1 } }
  else if s.power.phase == 1 && s.power.fastStable then cleared s
  else s

/-- A heartwood cycle ends: its faults are numbered (13 R550), what it noted is past (00 R18), idle times go on (13 R530), and the
heartwood timer counts (13 R540 step 1). -/
def endCycle (s : State) : State :=
  let s := idleTimes (numberFaults s)
  startSequence { s with fresh := [], power := { s.power with heart := wrapAdd s.power.heart 1 64 } }

/-- No command waits: a cycle passes. In reset nothing moves (12 R502), nor does an undefined functional state (12 R505). -/
def tick (s : State) : State :=
  if s.wrapper.undefined || s.power.inReset then { s with outs := [] }
  else settle settleBound (endCycle (settle settleBound { s with outs := [] }))

end Sys2Proof.Machine
end

