-- ==== Sys2Proof/Safety.lean ====
section
/-!
DEFINITION. The terms in which statements speak of the block: when it takes functional commands, what a command finds when
it begins, and what a safe step is.
-/
namespace Sys2Proof.Machine

/-- The block is at work: its state is defined (12 R505), no reset is asserted (12 R502), and it has not halted (13 R548). Its
heartwood takes commands. -/
abbrev State.awake (s : State) : Prop :=
  s.wrapper.undefined = false ∧ s.power.inReset = false ∧ s.power.phase ≠ 5

/-- The block takes functional commands: it is at work, and its sapwood domains can run: `clk_fast` is stable, and the storage
has been cleared (12 R501; 13 R532, R540). -/
abbrev State.live (s : State) : Prop := s.awake ∧ s.power.stopped = false

/-- What the effect of a functional command starts from: nothing has left the ports yet, and the order counter has
advanced (log entry 5). -/
def State.begun (s : State) : State := { s with outs := [], clock := s.clock + 1 }

/-- A message of the other classes than the bridge's can come in on the port: it is UP and active, does not lead to the
bridge, and its receiver does not wait for a replay (12 R507 to R518). -/
abbrev State.receives (s : State) (x : Nat) : Prop :=
  s.hasPort x = true ∧ (s.port x).isl = 1 ∧ (s.port x).state = 3 ∧ s.isBridge x = false ∧ (s.port x).waiting = false

/-- The functional part of the block, which a test instruction may not be seen to change: everything but the wrapper, the
ports' outputs and the model's own counters. -/
def State.functionalPart (s : State) : State :=
  { s with wrapper := {}, outs := [], clock := 0, free := 0, pending := [] }

/-- Commands of the wrapper and the resets: they act in every state of the block (12 R502 to R505). -/
def inEveryState (c : Instr) : Bool :=
  match c with
  | .rstCold => true
  | .resetAssert _ _ => true
  | .wsBypass => true
  | .wsExtest _ => true
  | .wsIntestScan => true
  | .wsClamp => true
  | .wsSafe => true
  | .wbIdcode => true
  | .wbMbist _ => true
  | .mbistDone _ => true
  | _ => false

/-- The commands that are writes of a register: the offset and the data. -/
def regWriteOf (c : Instr) : Option (Nat × Nat) :=
  match c with
  | .fpWrite off data => if isRead off then none else some (off, data.toNat)
  | .engineRelease port => some (0xE1000 + 8 * port, 2 ^ 30)
  | .engineSuspectClear port => some (0xE1000 + 8 * port, 2 ^ 11)
  | .launchDoorbell p data => some (0x10008 + 0x1000 * p, data.toNat)
  | .intakeDoorbell p data => some (0x10028 + 0x1000 * p, data.toNat)
  | .serveFence p data => some (0x10018 + 0x1000 * p, data.toNat)
  | .stepRelease p data => some (0x10020 + 0x1000 * p, data.toNat)
  | .pageWarm p data => some (0x10038 + 0x1000 * p, data.toNat)
  | .syncDbgSel data => some (0x50000, data.toNat)
  | .syncDump data => some (0x50038, data.toNat)
  | .hostqAck p evt data => some (0x10000 + 0x1000 * p + (if evt then 0x080 else 0x078), data.toNat)
  | .ctxBringIn p c => some (0x10058 + 0x1000 * p, put c 0 5 + 2 ^ 5)
  | .ctxDemote p c => some (0x10058 + 0x1000 * p, put c 0 5 + 2 ^ 6)
  | .ctxPart p c => some (0x10058 + 0x1000 * p, put c 0 5 + 2 ^ 7)
  | .ctxRestore p c => some (0x10058 + 0x1000 * p, put c 0 5 + 2 ^ 8)
  | .detBoundary p data => some (0x10050 + 0x1000 * p, data.toNat)
  | .imageLoad data => some (0xC0010, data.toNat)
  | .reshapeStart data => some (0xC0010, data.toNat)
  | .reshapeAbort data => some (0xC0010, data.toNat)
  | .powerCap data => some (0x1018, data.toNat)
  | .flush data => some (0x1030, data.toNat)
  | .faultSel data => some (0xE0008, data.toNat)
  | _ => none

/-- Commands that are a level at a pin, or that follow one: they are taken in a halted block too, and in reset the level is
followed (12 R502). -/
def atPins (c : Instr) : Bool :=
  match c with
  | .domainUngate _ => true
  | .clockLoss => true
  | .clkFastStop => true
  | .fastStableRise => true
  | .linkStateChange _ _ => true
  | _ => false

/-- Commands that act in a halted block besides those: the faceplate, which answers every access (13 R548; 14 R560), the bed's
write responses, and what brings its FAULT events to their rings; the pins of the clocks and the links; and a warm reset. -/
def inHaltToo (c : Instr) : Bool :=
  match c with
  | .rstWarm _ _ => true
  | .fpWrite _ _ => true
  | .wbFpaccess _ => true
  | .bedWriteAccept _ _ => true
  | .hostqRecordAccepted _ _ => true
  | _ => (regWriteOf c).isSome || inEveryState c || atPins c

/-- An accepted faceplate request that a halted block may hold: one that it refuses, or a read (13 R548). -/
def heldInHalt (h : Nat × Instr) : Bool :=
  decide (domFaceplate ≤ h.1) &&
    (h.1 != domFaceplate ||
      (match h.2 with
        | .fpWrite off _ => isRead off
        | _ => true))

/-- The commands that bring data of an outstanding bed read: tag, error, and whether a read is one of theirs. -/
def readOf (c : Instr) : Option (Nat × Granule × Bool × (ReadFor → Bool)) :=
  match c with
  | .edgeGranuleArrive tag g err => some (tag, g, err, fun w => match w with | .edge _ _ => true | _ => false)
  | .seasonFetchArrive tag g err => some (tag, g, err, fun w => match w with | .season _ _ => true | _ => false)
  | .descFetchArrive tag g err => some (tag, g, err, fun w => match w with | .desc _ _ => true | _ => false)
  | .predicateArrive tag g err => some (tag, g, err, fun w => match w with | .pred _ _ => true | _ => false)
  | .launchRecordArrive tag g err => some (tag, g, err, fun w => match w with | .launch _ => true | _ => false)
  | .jigCacheFill tag g err => some (tag, g, err, fun w => match w with
      | .jigDir _ => true
      | .jigHead _ => true
      | .jigBody _ => true
      | _ => false)
  | .paramWordsArrive tag g err => some (tag, g, err, fun w => match w with | .params _ _ => true | _ => false)
  | .cmdlistReadArrive tag g err => some (tag, g, err, fun w => match w with | .cmdlist _ => true | _ => false)
  | .sendPayloadReady tag g err => some (tag, g, err, fun w => match w with | .payload _ _ => true | _ => false)
  | .queueRefillArrive tag low high err => some (tag, high ++ low, err, fun w => match w with | .refill _ _ => true | _ => false)
  | .contributeRecordArrive tag g err => some (tag, g, err, fun w => match w with | .contribute _ _ => true | _ => false)
  | .streamCacheFill tag g err => some (tag, g, err, fun w => match w with | .stream _ _ => true | _ => false)
  | .ledgerCacheFill tag g err => some (tag, g, err, fun w => match w with | .ledger _ _ => true | _ => false)
  | _ => none

/-- A register access would be carried out now: the register is there, and its domain runs; no accepted request waits before
it (12 R482, 14 R560). -/
def State.reaches (s : State) (off : Nat) : Prop :=
  ∃ d, s.judge (alignOff off) true = .reach d ∧ (d = domHeart ∨ s.runs d = true)
    ∧ s.faceWaits = false

/-- The state after a register write has taken effect and has been answered. -/
def State.written (s : State) (off data : Nat) : State :=
  emit (.faceplate (fpId off) 0 false) (writeReg (alignOff off) data (rested (alignOff off) s.begun))

/-- The read is of the last granule of its transfer, and no other granule of it has failed (12 R492, R494). -/
abbrev State.lastGranule (s : State) (r : BedRead) : Prop :=
  (Tbl.find s.bed.readXfers r.xfer).map (fun x => (x.left, x.bad)) = some (1, false)

/-- The bytes of a transfer whose last granule is `g`. -/
def State.gathered (s : State) (r : BedRead) (g : Granule) : Nat := (s.xferThen r g false).data

/-- How many bytes the transfer of a read is. -/
def State.wholeLen (s : State) (r : BedRead) : Nat := (Tbl.at s.bed.readXfers r.xfer {}).len

/-- The state in which the data of a read are taken: the tag is free again, reads that waited have gone out, and a request that
succeeded on its second issue has been counted (12 R494; 13 R549). -/
def State.answered (s : State) (tag : Nat) (r : BedRead) (g : Granule) : State :=
  let u := endRead tag r (s.xferThen r g false) s.begun
  if r.retried then bedRetried fltBedRead r.part r.ctx r.sys u else u

/-- The messages that come in on a port: port, class and number of flits; the flits are those that the command's row names. -/
def flitsOf (c : Instr) : Option (Nat × Nat × Nat) :=
  let reduce (type port : Nat) (flit : Granule) (mask data : Blob) : Option (Nat × Nat × Nat) :=
    if (rmsgOf flit.toNat).type == type && (rmsgOf flit.toNat).fits mask data then
      some (port, 3, 1 + mask.len / 64 + data.len / 64)
    else none
  let reshape (op port : Nat) (flit : Granule) : Option (Nat × Nat × Nat) :=
    if fld flit.toNat 0 8 == op then some (port, 0, 1) else none
  match c with
  | .event port _ => some (port, 1, 1)
  | .dispatch port _ => if port == 0 then some (port, 0, 1) else none
  | .completion port _ => if port == 0 then none else some (port, 0, 1)
  | .intake port _ => some (port, 0, 1)
  | .answer port _ => some (port, 0, 1)
  | .part port _ => some (port, 0, 1)
  | .restore port _ => some (port, 0, 1)
  | .member port _ _ => some (port, 0, 10)
  | .memberAck port _ => some (port, 0, 1)
  | .remoteSync port _ => some (port, 2, 1)
  | .segment port _ => some (port, 2, 1)
  | .message port flit payload =>
    if payload.len == fld flit.toNat 20 13 then some (port, 2, footprint payload.len) else none
  | .partialMsg port flit mask data => reduce 1 port flit mask data
  | .result port flit mask data => reduce 2 port flit mask data
  | .shard port flit mask data => reduce 3 port flit mask data
  | .update port flit data => reduce 4 port flit ⟨0, 0⟩ data
  | .ready port flit => reduce 5 port flit ⟨0, 0⟩ ⟨0, 0⟩
  | .prepare port flit => reshape 1 port flit
  | .vote port flit => reshape 2 port flit
  | .drain port flit => reshape 3 port flit
  | .drained port flit => reshape 4 port flit
  | .swap port flit => reshape 5 port flit
  | .swapped port flit => reshape 6 port flit
  | .commit port flit => reshape 7 port flit
  | .doneMsg port flit => reshape 8 port flit
  | .abortMsg port flit => reshape 9 port flit
  | .query port flit => reshape 10 port flit
  | .outcome port flit => reshape 11 port flit
  | _ => none

/-- A reshape flit, as it is passed on: destination, message, and what taking it does. -/
def reshapeFlit (port op : Nat) (flit : Granule) : Nat × TxMsg × (State → State) :=
  (routeDest flit, { cls := 0, pool := poolSystem, kind := 0x07, content := flit },
    takeReshape port op (fld flit.toNat 8 8) (fld flit.toNat 16 16) (fld flit.toNat 32 32) (fld flit.toNat 64 64) (routeSrc flit))

/-- The messages that an instance takes or passes on by their destination alone: destination, the message as it is passed on,
and what taking it does. -/
def relayed (s : State) (c : Instr) : Option (Nat × TxMsg × (State → State)) :=
  match c with
  | .event _ flit =>
    let p := fld flit.toNat 40 6
    some (s.homeCode p, { cls := 1, pool := p, kind := 0x21, content := flit }, putEvent p (flit.toNat / 2 ^ 32 * 2 ^ 32))
  | .answer _ flit =>
    some (routeDest flit, { cls := 0, pool := routePart flit, kind := 0x03, content := flit }, answerArrive flit)
  | .part _ flit =>
    some (routeDest flit, { cls := 0, pool := poolSystem, kind := 0x05, content := flit },
      partReceived (fld flit.toNat 0 8) (fld flit.toNat 8 8) (fld flit.toNat 16 16))
  | .restore _ flit =>
    some (routeDest flit, { cls := 0, pool := poolSystem, kind := 0x06, content := flit },
      restoreReceived (fld flit.toNat 0 8) (fld flit.toNat 8 8))
  | .member _ flit bank =>
    some (routeDest flit, { cls := 0, pool := poolSystem, kind := 0x08, content := flit, flits := 10, payload := bank },
      installMember flit bank)
  | .memberAck _ flit =>
    some (routeDest flit, { cls := 0, pool := poolSystem, kind := 0x09, content := flit }, memberAcked flit)
  | .prepare port flit => some (reshapeFlit port 1 flit)
  | .vote port flit => some (reshapeFlit port 2 flit)
  | .drain port flit => some (reshapeFlit port 3 flit)
  | .drained port flit => some (reshapeFlit port 4 flit)
  | .swap port flit => some (reshapeFlit port 5 flit)
  | .swapped port flit => some (reshapeFlit port 6 flit)
  | .commit port flit => some (reshapeFlit port 7 flit)
  | .doneMsg port flit => some (reshapeFlit port 8 flit)
  | .abortMsg port flit => some (reshapeFlit port 9 flit)
  | .query port flit => some (reshapeFlit port 10 flit)
  | .outcome port flit => some (reshapeFlit port 11 flit)
  | _ => none

/-- The reduce messages: what taking one does. -/
def reduceTake (c : Instr) : Option (Granule × (State → State)) :=
  match c with
  | .partialMsg _ flit mask data => some (flit, partialArrive (rmsgOf flit.toNat) mask data)
  | .result _ flit mask data => some (flit, endArrive (rmsgOf flit.toNat) mask data)
  | .shard _ flit mask data => some (flit, endArrive (rmsgOf flit.toNat) mask data)
  | .update _ flit data => some (flit, endArrive (rmsgOf flit.toNat) ⟨0, 0⟩ data)
  | .ready _ flit => some (flit, readyArrive (rmsgOf flit.toNat))
  | _ => none

/-! ### Requests on the lanes -/

/-- The synchronisation command of an op (06 R246). -/
def syncCmd (op src : Nat) (req : BitVec 128) : Instr :=
  match op with
  | 0 => .signal src req
  | 1 => .wait src req
  | 2 => .tryTake src req
  | 3 => .take src req
  | 4 => .arrive src req
  | 5 => .arriveWait src req
  | 6 => .bwait src req
  | 7 => .switchCtx src req
  | _ => .syncRead src req

/-- The queue command of an op (07 R303). -/
def queueCmd (op src : Nat) (req : BitVec 128) : Instr :=
  match op with
  | 0 => .queueWrite src req
  | 1 => .queueRead src req
  | 2 => .mark src req
  | 3 => .rewind src req
  | 4 => .queueRelease src req
  | 5 => .pktBegin src req
  | 6 => .pktEnd src req
  | _ => .queueStatus src req

/-- The commands on the lanes of a requester: requester, whether it needs a wake wire, and the effect (06 R245; 07 R287, R303;
08 R346). -/
def laneOf (c : Instr) : Option (Nat × Bool × (State → State)) :=
  match c with
  | .signal src req => some (src, true, syncPort 0 src req)
  | .wait src req => some (src, true, syncPort 1 src req)
  | .tryTake src req => some (src, true, syncPort 2 src req)
  | .take src req => some (src, true, syncPort 3 src req)
  | .arrive src req => some (src, true, syncPort 4 src req)
  | .arriveWait src req => some (src, true, syncPort 5 src req)
  | .bwait src req => some (src, true, syncPort 6 src req)
  | .switchCtx src req => some (src, true, syncPort 7 src req)
  | .syncRead src req => some (src, true, syncPort 8 src req)
  | .send src req => some (src, false, sendRequest src req.toNat)
  | .queueWrite src req => some (src, false, queuePort 0 src req)
  | .queueRead src req => some (src, false, queuePort 1 src req)
  | .mark src req => some (src, false, queuePort 2 src req)
  | .rewind src req => some (src, false, queuePort 3 src req)
  | .queueRelease src req => some (src, false, queuePort 4 src req)
  | .pktBegin src req => some (src, false, queuePort 5 src req)
  | .pktEnd src req => some (src, false, queuePort 6 src req)
  | .queueStatus src req => some (src, false, queuePort 7 src req)
  | .borrow src req => some (src, false, scratchRequest src (opOf 0 1 (fld req.toNat 0 2)) req.toNat)
  | .returnRun src req => some (src, false, scratchRequest src (opOf 1 1 (fld req.toNat 0 2)) req.toNat)
  | _ => none

/-- A request on the lanes of the requester takes effect at once: SW_SYNC runs, and no dump holds requests (06 R267, R276). -/
abbrev State.laneOpen (s : State) (src : Nat) : Prop :=
  s.live ∧ s.hasLane src = true ∧ s.runs swSync = true ∧ s.sync.dumpBusy = false

/-- A synchronisation request is applied at this instance: it carries the op of its command, its target is here, it passes
every check, and its object is not frozen (06 R246, R251, R270; 08 R363). -/
abbrev State.syncReady (s : State) (op src : Nat) (r : SyncReq) : Prop :=
  s.laneOpen src ∧ s.hasWire src = true ∧ r.op = op ∧ s.remoteReq r = false ∧ s.syncCheck src r = none ∧ s.frozen r = false

/-- Nothing but the synchronisation fabric, the time-slice counters and the ports' outputs differs. -/
def syncFrame (s t : State) : Prop :=
  t.ctxs.ctxs = s.ctxs.ctxs ∧ t.ctxs.runs = s.ctxs.runs ∧ t.ctxs.windows = s.ctxs.windows ∧
    { t with sync := s.sync, ctxs := s.ctxs, power := s.power, outs := s.outs, clock := s.clock } = s

/-- A queue request is applied: it carries the op of its command, passes every check, and waits for no earlier request of
its requester (07 R303 to R305). -/
abbrev State.queueReady (s : State) (op src : Nat) (req : BitVec 128) : Prop :=
  s.laneOpen src ∧ fld req.toNat 0 4 = op ∧ s.queueCheck src req.toNat = none ∧ s.waitsBehind src req.toNat = false

/-- Nothing but the queue `q` of the queue unit, and the ports' outputs, differs. -/
def queueFrame (s t : State) (q : Nat) : Prop :=
  (∀ k, k ≠ q → t.queue k = s.queue k) ∧ t.queues.chans = s.queues.chans ∧ t.queues.hostqs = s.queues.hostqs ∧
    t.queues.intake = s.queues.intake ∧ t.faults = s.faults ∧ t.tasks = s.tasks ∧ t.sync = s.sync ∧ t.ctxs = s.ctxs ∧
    t.image = s.image ∧ t.serves = s.serves ∧ t.jigs = s.jigs

/-- The commands that apply the oldest buffered intake record of a partition: partition and record type (04 R169). -/
def intakeType (c : Instr) : Option (Nat × Nat) :=
  match c with
  | .newStream p => some (p, 1)
  | .appendTokens p => some (p, 2)
  | .endStream p => some (p, 3)
  | .cancel p => some (p, 4)
  | .setDeadline p => some (p, 5)
  | _ => none

/-- The record `w` is the oldest of the partition, of the type, may be applied now, and no cache lacks what it needs
(04 R168, R171, R172; 05 R239). -/
abbrev State.recordReady (s : State) (p type : Nat) (r : BitVec 512) : Prop :=
  let w := r.toNat
  let ps := if fld w 32 8 == 1 && bit w 115 then [fld w 216 20] else []
  (s.headRecord p).map (·.1) = some r ∧ fld w 32 8 = type ∧ s.intakeMay p = true ∧
    fillFor p 0 (fld w 64 20 :: ps) (s.pagesOfAll p (fld w 64 20 :: ps)) s = none

/-- A step is safe when it does not stop. -/
def safeStep (s : State) : Prop := ∃ s', step s = .next s'

/-- A run of `n` steps that does not stop. -/
def safeRun : Nat → State → Prop
  | 0, _ => True
  | n + 1, s => ∃ s', step s = .next s' ∧ safeRun n s'

end Sys2Proof.Machine
end

