-- ==== Sys2Proof/Certificates/Slice0/Obligations.lean ====
section
/-!
DEFINITION. The statements for the provers. A statement that speaks of a state t with exec c s = next (finished t) says what
the command's own effect leaves (t); `finished` then does the follow-on work that the effect has noted (log entry 4). The
premise `live` is that the block takes functional commands.
-/
section

open Sys2Proof
open Sys2Proof.Machine

/-! ### The whole block -/

/-- A step carries out the command at the front of the queue with the queue's rest; with no command waiting a heartwood
cycle passes (the model's choice, log entry 3). -/
def Obligations.StepRunsFrontCommand : Prop :=
  (∀ (s : State) (c : Instr) (rest : List Instr), s.pending = c :: rest → step s = exec c { s with pending := rest }) ∧
  (∀ s : State, s.pending = [] → step s = .next (tick s))

/-- An idle cycle: the heartwood timer counts one hc, modulo 2^64, each domain's idle time goes on or starts again (13 R530,
R531), the ledger's window shows the entry that FAULT_SEL names, and nothing else of the block changes. R540 steps 1 to 3: the
start sequence RESET, CLEAR, EMPTY; CLEAR ends only while clk_fast is stable. -/
def Obligations.IdleCycles : Prop :=
  (∀ s : State, s.pending = [] → s.wrapper.undefined = false → s.power.inReset = false → s.work = [] →
    s.faults.unnumbered = [] → 2 ≤ s.power.phase →
    ∃ t, step s = .next t ∧
      t.power = { s.power with heart := (s.power.heart + 1) % 2 ^ 64, idleFor := t.power.idleFor } ∧
      (∀ d, d < 8 → t.power.idleFor.getD d 0 = if s.idle d then min (s.power.idleFor.getD d 0 + 1) 0xFFFF else 0) ∧
      t.faults = (showFault s).faults ∧ t.outs = [] ∧ t.fresh = [] ∧
      { t with power := s.power, outs := s.outs, faults := s.faults, fresh := s.fresh } = s) ∧
  (∀ s : State, s.pending = [] → s.wrapper.undefined = false → s.power.inReset = false → s.work = [] →
    s.faults.unnumbered = [] → s.power.replayIn = none → s.held = [] → s.bed.readWait = [] → s.bed.writeWait = [] →
    ∃ t, step s = .next t ∧
      (s.power.phase = 0 → t.power.phase = 1 ∧ t.fastReq = true) ∧
      (s.power.phase = 1 → t.power.phase = if s.power.fastStable then 2 else 1) ∧
      (2 ≤ s.power.phase → t.power.phase = s.power.phase))

/-- What RST_COLD leaves: every field at its reset value. The build, the place in the tree, the levels of clk_fast_stable and
of the link states, the wrapper's registers and the model's own counters and queue are no fields of it. While the warm reset is
still asserted the block stays in reset. RESET_ASSERT: the reset is noted, and everything else stays. RST_WARM of a block that was
reset by both: a cold reset, once both are released (12 R502). -/
def Obligations.ColdResetFromAnyState : Prop :=
  (∀ s : State, ∃ t, exec .rstCold s = .next t ∧
    t.power = { State.reset.power with
      fastStable := s.power.fastStable, inReset := s.power.warmReset, warmReset := s.power.warmReset
      bothResets := s.power.warmReset && s.power.bothResets } ∧
    t.face = State.reset.face ∧
    t.faults = State.reset.faults ∧ t.tasks = State.reset.tasks ∧ t.jigs = State.reset.jigs ∧
    t.serves = [] ∧ t.pages = [] ∧ t.sync = State.reset.sync ∧ t.queues = State.reset.queues ∧
    t.ctxs = State.reset.ctxs ∧ t.reduce = State.reset.reduce ∧ t.dets = [] ∧ t.image = State.reset.image ∧
    t.reshape = State.reset.reshape ∧ t.bed = State.reset.bed ∧ t.store = [] ∧ t.held = [] ∧ t.work = [] ∧ t.outs = [] ∧
    t.fresh = [] ∧ (∀ x, t.port x = { isl := (s.port x).isl }) ∧
    t.wrapper = { s.wrapper with undefined := false } ∧ t.pending = s.pending ∧ t.build = s.build ∧ t.nodeFn = s.nodeFn ∧
    t.place = s.place) ∧
  (∀ (s : State) (cold warm : Bool), (cold || warm) = true →
    exec (.resetAssert cold warm) s =
      .next { s with
        outs := []
        power := { s.power with
          inReset := true, coldReset := s.power.coldReset || cold, warmReset := s.power.warmReset || warm
          bothResets := s.power.bothResets || ((s.power.coldReset || cold) && (s.power.warmReset || warm)) } }) ∧
  (∀ (s : State) (journal image : Blob),
    (s.power.coldReset = true →
      exec (.rstWarm journal image) s = .next { s with outs := [], power := { s.power with warmReset := false } }) ∧
    (s.power.coldReset = false → s.power.bothResets = true →
      exec (.rstWarm journal image) s = exec .rstCold { s with power := { s.power with warmReset := false } }))

/-- The reset state: no role, an empty ledger, the timer at 0, nothing loaded, no memory listed. -/
def Obligations.ResetStateValues : Prop :=
  State.reset.hasRole = false ∧ State.reset.image.state = 0 ∧ State.reset.power.phase = 0 ∧
  State.reset.power.heart = 0 ∧ State.reset.faults.empty = true ∧ State.reset.faults.lastSeq = 0xFFFF ∧
  State.reset.power.idleHold = 100 ∧ State.reset.store = [] ∧ State.reset.pending = [] ∧
  (∀ p, (State.reset.hostq p).cplProduced = 0xFFFFFFFF ∧ (State.reset.hostq p).evtAcked = 0xFFFFFFFF) ∧
  (∀ i, (State.reset.slot i).st = .free) ∧ Memory.wf State.reset.store = true

/-- While a reset is asserted no command but those of the wrapper and the resets changes anything, and those of the clocks' and
the links' pins, whose levels are followed (12 R502). A halted block takes no functional command: of the commands only those of
the faceplate, which answers every access, the bed's write responses, the records of the host rings, the pins, the wrapper and
the resets act (13 R548; 14 R560). After a test instruction every functional command stops until the next cold reset (12 R505;
log entry 8). RST_COLD acts in each of these states, and leaves the block in RESET, taking commands once no reset is asserted.
-/
def Obligations.ClosedStatesTakeNoCommand : Prop :=
  (∀ (s : State) (c : Instr), s.wrapper.undefined = false → s.power.inReset = true → inEveryState c = false →
    (∀ j i, c ≠ .rstWarm j i) → (∀ d, c ≠ .wbFpaccess d) → atPins c = false → exec c s = .next { s with outs := [] }) ∧
  (∀ s : State, s.wrapper.undefined = false → s.power.inReset = true →
    (∀ d, exec (.domainUngate d) s = .next { s with outs := [] }) ∧
    exec .clockLoss s = .next { s with outs := [], power := { s.power with fastStable := false } } ∧
    exec .clkFastStop s = .next { s with outs := [], power := { s.power with fastStable := false } } ∧
    exec .fastStableRise s = .next { s with outs := [], power := { s.power with fastStable := true } } ∧
    (∀ x st, s.hasPort x = true → st < 4 → (s.port x).isl ≠ st →
      exec (.linkStateChange x st) s =
        .next { s with outs := [], clock := s.clock + 1, ports := setAt s.ports x { s.port x with isl := st } })) ∧
  (∀ (s : State) (c : Instr), s.wrapper.undefined = false → s.power.phase = 5 → s.power.inReset = false →
    inHaltToo c = false → exec c s = .next { s with outs := [] }) ∧
  (∀ (s : State) (c : Instr), s.wrapper.undefined = true → inEveryState c = false →
    ((∃ j i, c = .rstWarm j i) → s.power.coldReset = false ∧ s.power.bothResets = false) →
    exec c s = .fault .stateUndefined) ∧
  (∀ s : State, s.wrapper.undefined = true ∨ s.power.inReset = true ∨ s.power.phase = 5 →
    ∃ t, exec .rstCold s = .next t ∧ t.wrapper.undefined = false ∧ t.power.inReset = s.power.warmReset ∧
      (s.power.warmReset = false → t.awake) ∧ t.power.phase = 0 ∧ t.hasRole = false ∧ t.pending = s.pending)

/-- An invariant of every step: a halted block stays halted until a reset, it holds no request but reads of the faceplate and
accesses that it refuses, and its tasks, jigs, pages, synchronisation objects, contexts, collectives, boundaries, image and
reshape stand still (13 R548). A loss of the clock is not among its steps: that leaves the state of the domains that ran
undefined (13 R533). -/
def Obligations.HaltedBlockStandsStill : Prop :=
  ∀ (s s' : State), s.power.phase = 5 → s.held.all heldInHalt = true →
    (∀ c ∈ s.pending, c ≠ .rstCold ∧ c ≠ .clockLoss ∧ ∀ j i, c ≠ .rstWarm j i) →
    step s = .next s' →
    s'.power.phase = 5 ∧ s'.held.all heldInHalt = true ∧
      (∀ c ∈ s'.pending, c ≠ .rstCold ∧ c ≠ .clockLoss ∧ ∀ j i, c ≠ .rstWarm j i) ∧
      s'.tasks = s.tasks ∧ s'.jigs = s.jigs ∧ s'.pages = s.pages ∧ s'.sync = s.sync ∧ s'.ctxs = s.ctxs ∧
      s'.reduce = s.reduce ∧ s'.dets = s.dets ∧ s'.image = s.image ∧ s'.reshape = s.reshape

/-- An invariant of every step: the functional state stays undefined until a cold reset (12 R505), which RST_COLD is, and RST_WARM
where both resets were asserted (12 R502). Only what is noted of the resets changes. -/
def Obligations.UndefinedUntilColdReset : Prop :=
  ∀ (s s' : State), s.wrapper.undefined = true → (∀ c ∈ s.pending, c ≠ .rstCold) →
    (s.power.bothResets = true → s.power.coldReset = false → ∀ j i rest, s.pending ≠ .rstWarm j i :: rest) →
    step s = .next s' →
    s'.wrapper.undefined = true ∧ (∀ c ∈ s'.pending, c ≠ .rstCold) ∧
      s'.functionalPart = { s.functionalPart with
        power := { s.power with
          inReset := s'.power.inReset, coldReset := s'.power.coldReset, warmReset := s'.power.warmReset
          bothResets := s'.power.bothResets } }

/-! ### The wrapper -/

/-- WS_EXTEST, WS_INTEST_SCAN, WS_CLAMP, WS_SAFE, WB_MBIST: the functional state is undefined from then on; nothing but the
wrapper changes. WS_EXTEST drives and captures the port signals through the boundary register, WS_CLAMP holds the outputs at its
values, and WS_SAFE drives fp_irq and clk_fast_req to 0. WS_BYPASS and WB_IDCODE leave the functional state untouched; WB_IDCODE
captures BLOCK_VERSION and the build. -/
def Obligations.WrapperInstructions : Prop :=
  (∀ s : State,
    (∀ cells, exec (.wsExtest cells) s =
      .next { s with
        outs := [], wrapper := { s.wrapper with instr := 0x01, undefined := true, boundary := cells % 2 ^ s.boundaryWidth } }) ∧
    (s.wrapper.instr = 0x01 ∨ s.wrapper.instr = 0x03 → s.drives = some s.wrapper.boundary) ∧
    (s.wrapper.instr = 0x04 → s.drives = some 0 ∧ s.irqPin = false ∧ s.fastReqPin = false) ∧
    (s.wrapper.instr = 0x00 ∨ s.wrapper.instr = 0x10 ∨ s.wrapper.instr = 0x12 →
      s.drives = none ∧ s.irqPin = s.irqLine ∧ s.fastReqPin = s.fastReq) ∧
    exec .wsIntestScan s = .next { s with outs := [], wrapper := { s.wrapper with instr := 0x02, undefined := true } } ∧
    exec .wsClamp s = .next { s with outs := [], wrapper := { s.wrapper with instr := 0x03, undefined := true } } ∧
    exec .wsSafe s = .next { s with outs := [], wrapper := { s.wrapper with instr := 0x04, undefined := true } } ∧
    (∀ data : Word, ∃ t, exec (.wbMbist data) s = .next t ∧ t.functionalPart = s.functionalPart ∧
      t.wrapper.undefined = true ∧ t.wrapper.instr = 0x11 ∧
      (data.toNat % 2 = 1 → t.wrapper.mbist = 1) ∧ (data.toNat % 2 = 0 → t.wrapper.mbist = s.wrapper.mbist)) ∧
    (∀ fail : Option Nat, s.wrapper.mbist = 1 →
      ∃ t, exec (.mbistDone fail) s = .next t ∧ t.functionalPart = s.functionalPart ∧
        bit t.wrapper.mbist 1 = true ∧ bit t.wrapper.mbist 2 = fail.isSome ∧
        (∀ k, fail = some k → fld t.wrapper.mbist 3 13 = k % 2 ^ 13) ∧
        t.wrapper = { s.wrapper with mbist := t.wrapper.mbist })) ∧
  (∀ s : State,
    (∃ t, exec .wsBypass s = .next t ∧ t.functionalPart = s.functionalPart ∧
      t.wrapper = { s.wrapper with instr := 0x00 }) ∧
    (∃ t, exec .wbIdcode s = .next t ∧ t.functionalPart = s.functionalPart ∧
      t.wrapper.undefined = s.wrapper.undefined ∧ t.wrapper.idcode % 2 ^ 32 = 0x00030001 ∧
      t.wrapper.idcode / 2 ^ 32 = (match s.build with
        | .b8 => 0
        | .b64 => 1
        | .b256 => 2
        | .b512 => 3
        | .node => 4)))

/-- WB_FPACCESS: a write is the faceplate write of its address and data; a read of a register whose domain runs captures
what the register reads, and changes nothing of the functional state but the domain's idle time (13 R531; 14 R576). A read at the
faceplate port answers with the same data under the tag of its request (12 R481). -/
def Obligations.WrapperAccessIsFaceplateAccess : Prop :=
  ∀ (s : State) (data : BitVec 128), s.wrapper.undefined = false → s.power.inReset = false → s.work = [] →
    (data.toNat / 2 ^ 17 % 2 = 1 →
      exec (.wbFpaccess data) s =
        exec (.fpWrite (8 * fld data.toNat 0 17) (BitVec.ofNat 64 (fld data.toNat 64 64)))
          { s with outs := [], wrapper := { s.wrapper with instr := 0x12, fpaccess := data.toNat } }) ∧
    (data.toNat / 2 ^ 17 % 2 = 0 → ∀ d,
      s.judge (alignOff (8 * fld data.toNat 0 17)) false = .reach d → (d = domHeart ∨ s.runs d = true) →
      s.faceWaits = false →
      ∃ t, exec (.wbFpaccess data) s = .next t ∧
        t.functionalPart = (rested (alignOff (8 * fld data.toNat 0 17)) s).functionalPart ∧
        t.wrapper.undefined = false ∧
        t.wrapper.fpaccess / 2 ^ 64 = s.begun.readReg (alignOff (8 * fld data.toNat 0 17))) ∧
    (∀ (off d : Nat), isRead off = true → s.judge (alignOff off) false = .reach d → (d = domHeart ∨ s.runs d = true) →
      s.faceWaits = false →
      ∃ t, exec (.fpWrite off (BitVec.ofNat 64 (fld data.toNat 64 64))) s = .next t ∧
        t.functionalPart = (rested (alignOff off) s).functionalPart ∧ t.wrapper = s.wrapper ∧
        t.outs = [.faceplate (fpId off) (s.begun.readReg (alignOff off)) false])

/-! ### The faceplate -/

/-- R560, R566: a write, of a command that is a write of a register, that is not carried out leaves its trace in FP_STATUS and
nothing else, and is answered with `fp_rsp_unmapped` as the table says, in a halted block too. R482: it waits behind the requests
accepted before it, and is answered as it was judged when it was accepted (R578); a 17th waits at the port. A read that is not
carried out reads 0, or the Reset value where the register is not served, and leaves its trace only where the region is closed. -/
def Obligations.AccessNotCarriedOut : Prop :=
  ∀ (s : State) (c : Instr) (off data : Nat), regWriteOf c = some (off, data) →
    s.wrapper.undefined = false → s.power.inReset = false → s.work = [] →
    (∀ d, s.judge (alignOff off) true ≠ .reach d) →
    (s.faceWaits = false →
      ∃ t, exec c s = .next (if quietOff (alignOff off) then t else finished t) ∧
        t.face = { s.face with
          unmapped := s.face.unmapped || s.judge (alignOff off) true == .unmapped
          closed := s.face.closed || s.judge (alignOff off) true == .closed
          unconfigured := s.face.unconfigured || s.judge (alignOff off) true == .unserved
          lastAddr := alignOff off / 8, lastWrite := true } ∧
        t.outs = [.faceplate (fpId off) 0 (s.judge (alignOff off) true != .unserved)] ∧
        { t with face := s.face, outs := s.outs, clock := s.clock, fresh := s.fresh } = s) ∧
    (s.faceWaits = true →
      ∃ t, exec c s = .next (if quietOff (alignOff off) then t else finished t) ∧
        t.held = s.held ++ [(
          if 16 ≤ (s.held.filter State.isAccepted).length then domPort else (s.judge (alignOff off) true).queue,
          .fpWrite off (BitVec.ofNat 64 data))] ∧
        t.outs = [] ∧ { t with held := s.held, outs := s.outs, clock := s.clock } = s) ∧
    (∀ (o : Nat) (w : Word), isRead o = true → (∀ d, s.judge (alignOff o) false ≠ .reach d) → s.faceWaits = false →
      ∃ t, exec (.fpWrite o w) s = .next t ∧
        t.outs = [.faceplate (fpId o) (if s.judge (alignOff o) false = .unserved then resetOf (blockOff (alignOff o)) else 0)
          (s.judge (alignOff o) false != .unserved)] ∧
        (s.judge (alignOff o) false ≠ .closed → t.face = s.face) ∧
        (s.judge (alignOff o) false = .closed →
          t.face = { s.face with closed := true, lastAddr := alignOff o / 8, lastWrite := false }) ∧
        { t with face := s.face, outs := s.outs, clock := s.clock, fresh := s.fresh } = s)

/-- R39, R482: a write of a register in a gated domain waits among the accepted requests and asks for the ungate. -/
def Obligations.GatedRegisterWriteWaits : Prop :=
  ∀ (s : State) (off d : Nat) (data : Word), s.awake → s.work = [] → s.judge (alignOff off) true = .reach d →
    d ≠ domHeart → s.runs d = false → isRead off = false → (s.held.filter State.isAccepted).length < 16 →
    ∃ t, exec (.fpWrite off data) s = .next (if quietOff (alignOff off) then t else finished t) ∧
      t.held = s.held ++ [(domFaceplate, .fpWrite off data)] ∧
      t.power = { s.power with ungating := setAt s.power.ungating d true } ∧ t.outs = [] ∧
      { t with held := s.held, power := s.power, outs := s.outs, clock := s.clock } = s

/-- The commands that are writes of a register (00 R17; 14 R577) are carried out and answered, where the register is there
and its domain runs: FP_WRITE, ENGINE_RELEASE, ENGINE_SUSPECT_CLEAR, LAUNCH_DOORBELL, INTAKE_DOORBELL, SERVE_FENCE, STEP_RELEASE,
PAGE_WARM, SYNC_DBG_SEL, SYNC_DUMP, HOSTQ_ACK, the four of CTX_CTRL (bring_in, demote, part, restore), DET_BOUNDARY, IMAGE_LOAD,
RESHAPE_START, RESHAPE_ABORT, POWER_CAP, FLUSH and FAULT_SEL. What the writes of LAUNCH_DOORBELL (03 R126, R161; 11 R460),
INTAKE_DOORBELL (07 R317), STEP_RELEASE (04 R195, R206), PAGE_WARM (05 R235), SYNC_DBG_SEL (06 R275, R280), SYNC_DUMP (06 R276),
DET_BOUNDARY (10 R409, R424), IMAGE_LOAD (11 R445, R446), RESHAPE_START and RESHAPE_ABORT (11 R459, R463, R472), CTX_CTRL.restore
(08 R365) and FAULT_SEL (13 R558) do is said here; what the others do, the statements below say. -/
def Obligations.RegisterCommandsWriteTheirRegister : Prop :=
  (∀ (s : State) (c : Instr) (off data : Nat), regWriteOf c = some (off, data) → s.awake → s.work = [] → s.reaches off →
    ∃ t, exec c s = .next t ∧ (t = s.written off data ∨ t = finished (s.written off data)) ∧
      (s.written off data).outs.getLast? = some (.faceplate (fpId off) 0 false)) ∧
  (∀ (s : State) (p d : Nat), p < 64 →
    (let t := s.written (0x10008 + 0x1000 * p) d;
      let c := fld d 52 5;
      (s.draining p = true → t.jigs = s.jigs ∧
        t.reshape = (if s.reshape.doorbells.length < 16 then { s.reshape with doorbells := s.reshape.doorbells ++ [(p, d)] }
          else { s.reshape with doorbellDrop := true })) ∧
      (s.draining p = false → t.reshape = s.reshape ∧ t.jigs.launchesCount = (s.jigs.launchesCount + 1) % 2 ^ 64 ∧
        (s.ctxConfigured p c = true → s.gone p c = false →
          t.jigs.nextLaunch = s.jigs.nextLaunch + 1 ∧ t.faults = s.faults ∧
          (∀ i, i ≠ s.jigs.nextLaunch → t.launch i = s.launch i) ∧
          t.launch s.jigs.nextLaunch =
            { part := p, ctx := c, epoch := s.image.epoch % 256, owner := .doorbell (fld d 0 52), order := s.jigs.nextLaunch
              statusTask := 2 ^ 32 } ∧
          (s.inWindow (fld d 0 52) 32 = true →
            ∃ r ∈ t.bed.reads.map (·.2) ++ t.bed.readWait, r.why = .launch s.jigs.nextLaunch ∧ r.addr = fld d 0 52)) ∧
        (s.ctxConfigured p c = false → t.jigs.launches = s.jigs.launches ∧
          ∃ e : FaultEntry, e.value = fltJigNode ∧ e.partition = p ∧ e.context = c ∧ e.transient = false ∧
            t.faults = { s.faults with unnumbered := s.faults.unnumbered ++ [e] }) ∧
        (s.ctxConfigured p c = true → s.gone p c = true → t.jigs.launches = s.jigs.launches ∧ t.faults = s.faults))) ∧
    (s.written (0x10028 + 0x1000 * p) d = { s with
      outs := [.faceplate 0 0 false], clock := s.clock + 1, power := if bit d 0 then s.power.woken swServe else s.power }) ∧
    (let t := s.written (0x10020 + 0x1000 * p) d;
      (t.serve p).blocks = (if (s.serve p).running = true ∧ (s.serve p).step = fld d 0 32 then (s.serve p).blocks
        else (s.serve p).blocks.filter (fun b => b.2 != fld d 0 32)) ∧
      t.serve p = { s.serve p with blocks := (t.serve p).blocks, releaseWait := (t.serve p).releaseWait } ∧
      (∀ q, q ≠ p → t.serve q = s.serve q) ∧
      { t with serves := s.serves, power := s.power, outs := s.outs, clock := s.clock } = s) ∧
    (let t := s.written (0x10038 + 0x1000 * p) d;
      (t.page p).warm = (s.page p).warm ++ [(fld d 0 20, none)] ∧ t.work = s.work ++ [.place p] ∧
      (∀ q, q ≠ p → t.page q = s.page q) ∧
      { t with pages := s.pages, work := s.work, power := s.power, outs := s.outs, clock := s.clock } = s) ∧
    (let t := s.written (0x10050 + 0x1000 * p) d;
      (∀ q, q ≠ p → t.det q = s.det q) ∧
      t.det p =
        (if bit d 0 = true ∧ s.isHome p = true ∧ s.serves? p = false then
          (if s.detOf p = true then { s.det p with asked := true }
            else { s.det p with boundary := ((s.det p).boundary + 1) % 2 ^ 32 })
        else s.det p) ∧
      { t with dets := s.dets, outs := s.outs, clock := s.clock } = s) ∧
    (∀ c, c < 32 →
      let t := s.written (0x10058 + 0x1000 * p) (c + 2 ^ 8);
      (s.isHome p = true → s.ctxConfigured p c = true →
        ((s.ctx p c).st = .parted → t.ctx p c = { s.ctx p c with st := .dormant } ∧ ∀ k ∈ [Job.sweep, .place p], k ∈ t.work) ∧
        ((s.ctx p c).st = .parting → t.ctx p c = { s.ctx p c with restoreRefused := true } ∧ t.work = s.work)) ∧
      (s.isHome p = false ∨ s.ctxConfigured p c = false ∨ ((s.ctx p c).st ≠ .parted ∧ (s.ctx p c).st ≠ .parting) →
        t = { s with outs := [.faceplate 0 0 false], clock := s.clock + 1 }))) ∧
  (∀ (s : State) (d : Nat),
    (let t := s.written 0x50000 d;
      t.sync = { s.sync with
        dbgObject := fld d 0 16, dbgKind := bit d 16, dbgData := t.sync.dbgData, dbgValid := t.sync.dbgValid } ∧
      (s.sync.dumpBusy = false → bit d 16 = false → t.sync.dbgData = (s.sem (fld d 0 16)).record ∧
        t.sync.dbgValid = (decide (fld d 0 16 < s.build.semaphores) && (s.sem (fld d 0 16)).configured)) ∧
      (s.sync.dumpBusy = false → bit d 16 = true → t.sync.dbgData = (s.bar (fld d 0 16)).record ∧
        t.sync.dbgValid = (decide (fld d 0 16 < s.build.barriers) && (s.bar (fld d 0 16)).configured)) ∧
      { t with sync := s.sync, power := s.power, outs := s.outs, clock := s.clock } = s) ∧
    (let t := s.written 0x50038 d;
      (s.sync.dumpBusy = true → t.sync = s.sync ∧ t.bed = s.bed) ∧
      (s.sync.dumpBusy = false →
        ((fld d 0 52 % 4096 ≠ 0 ∨ s.inWindow (fld d 0 52) s.build.dumpSize = false) →
          t.sync = { s.sync with dumpError := true } ∧ t.bed = s.bed) ∧
        (fld d 0 52 % 4096 = 0 → s.inWindow (fld d 0 52) s.build.dumpSize = true →
          t.sync = { s.sync with dumpBusy := true, dumpError := false, snapSems := s.sync.sems, snapBars := s.sync.bars } ∧
          (s.hasBed = true → ∃ w ∈ t.bed.writes.map (·.2) ++ t.bed.writeWait, w.why = .dump ∧ w.addr = fld d 0 52)))) ∧
    (let t := s.written 0xE0008 d;
      t.faults.selSeq = fld d 0 16 ∧ t.faults.ledger = s.faults.ledger ∧
      (∀ e, s.faults.ledger.find? (fun e => e.seq == fld d 0 16) = some e →
        t.faults.selValid = true ∧ t.faults.entry0 = fld e.bits 0 64 ∧ t.faults.entry1 = fld e.bits 64 64) ∧
      (s.faults.ledger.find? (fun e => e.seq == fld d 0 16) = none →
        t.faults.selValid = false ∧ t.faults.entry0 = 0 ∧ t.faults.entry1 = 0) ∧
      { t with faults := s.faults, outs := s.outs, clock := s.clock } = s)) ∧
  (∀ s : State,
    ((s.written 0xC0010 1).image =
      (if s.hasRole = true ∨ s.image.loading = true then { s.image with refused := true }
        else { s.image with state := 1, loading := true })) ∧
    (let t := s.written 0xC0010 2;
      (s.isRoot = true → s.reshape.phase = 0 → s.reshape.olderWait = false → s.reshape.querying = false →
        t.reshape.newEpoch = (s.image.epoch + 1) % 2 ^ 32 ∧ t.reshape.fault = 0 ∧
        (t.reshape.phase = 0 ∧ t.reshape.olderWait = true ∨
          t.reshape.phase = 1 ∧ t.reshape.olderWait = false ∧ t.reshape.reading = true) ∧
        (s.image.older ≠ 0 → t.reshape.olderWait = true) ∧
        (s.image.older = 0 → s.liveKids = [] → t.reshape.phase = 1)) ∧
      (s.isRoot = false ∨ s.reshape.phase ≠ 0 ∨ s.reshape.olderWait = true ∨ s.reshape.querying = true →
        t = { s with outs := [.faceplate 0 0 false], clock := s.clock + 1 })) ∧
    (let t := s.written 0xC0010 4;
      (s.isRoot = true → s.reshape.olderWait = true ∨ (1 ≤ s.reshape.phase ∧ s.reshape.phase ≤ 3) →
        t.reshape.phase = 0 ∧ t.reshape.result = 2 ∧ t.reshape.olderWait = false ∧ t.face.reshapeDone = true ∧
        t.image.aborts = (s.image.aborts + 1) % 2 ^ 64 ∧ t.image.busy = []) ∧
      (s.isRoot = false ∨ (s.reshape.olderWait = false ∧ ¬ (1 ≤ s.reshape.phase ∧ s.reshape.phase ≤ 3)) →
        t = { s with outs := [.faceplate 0 0 false], clock := s.clock + 1 })))

/-- R17, W1C: a write clears each bit written as 1 and leaves the bits written as 0, in FP_STATUS, IRQ_GLOBAL, BED_STATUS,
START_STATUS, LOAD_STATUS and RESHAPE_STATUS; no other state changes. 00 R18: a bit that an event has set in the same hc stays
set. The registers of a partition's block that only store:
DISPATCH_CTRL (1 to 4 only; 02 R115), SERVE_CTRL and SERVE_FENCE (04 R206), IRQ_PART's enables (12 R526). -/
def Obligations.PlainRegistersStore : Prop :=
  (∀ (s : State) (d : Nat),
    (s.written 0x18 d = { s with
      outs := [.faceplate 0 0 false], clock := s.clock + 1
      face := { s.face with
        unmapped := s.face.unmapped && (!bit d 0 || s.noted 0x18 0), closed := s.face.closed && (!bit d 1 || s.noted 0x18 1)
        unconfigured := s.face.unconfigured && (!bit d 2 || s.noted 0x18 2) } }) ∧
    (s.written 0x1048 d = { s with
      outs := [.faceplate 0 0 false], clock := s.clock + 1
      face := { s.face with
        loadDone := s.face.loadDone && (!bit d 0 || s.noted 0x1048 0)
        reshapeDone := s.face.reshapeDone && (!bit d 1 || s.noted 0x1048 1)
        blockFault := s.face.blockFault && (!bit d 2 || s.noted 0x1048 2), enable := fld d 8 3 } }) ∧
    (s.written 0x1050 d = { s with
      outs := [.faceplate 0 0 false], clock := s.clock + 1, power := { s.power with idleFor := setAt s.power.idleFor swBed 0 }
      bed := { s.bed with windowErr := s.bed.windowErr && (!bit d 20 || s.noted 0x1050 20) } }) ∧
    (s.written 0x1038 d = { s with
      outs := [.faceplate 0 0 false], clock := s.clock + 1
      power := { s.power with serveLost := s.power.serveLost && (!bit d 7 || s.noted 0x1038 7) } }) ∧
    (s.written 0xC0018 d = { s with
      outs := [.faceplate 0 0 false], clock := s.clock + 1
      image := { s.image with refused := s.image.refused && (!bit d 2 || s.noted 0xC0018 2) } }) ∧
    (s.written 0xC0038 d = { s with
      outs := [.faceplate 0 0 false], clock := s.clock + 1
      reshape := { s.reshape with doorbellDrop := s.reshape.doorbellDrop && (!bit d 8 || s.noted 0xC0038 8) } })) ∧
  (∀ (s : State) (p d : Nat), p < 64 →
    ((s.written (0x10000 + 0x1000 * p) d).threshold p =
        (if 1 ≤ fld d 0 3 ∧ fld d 0 3 ≤ 4 then fld d 0 3 else s.threshold p) ∧
      { s.written (0x10000 + 0x1000 * p) d with tasks := s.tasks, power := s.power, outs := s.outs, clock := s.clock } = s) ∧
    ((s.written (0x10010 + 0x1000 * p) d).serve p =
        { s.serve p with enable := bit d 0, autoRelease := bit d 1, holdSteps := fld d 8 8 } ∧
      { s.written (0x10010 + 0x1000 * p) d with serves := s.serves, power := s.power, outs := s.outs, clock := s.clock } = s) ∧
    ((s.written (0x10018 + 0x1000 * p) d).serve p =
        { s.serve p with fenceSeq := fld d 0 32, fenceStep := fld d 32 32, fenceWritten := true } ∧
      { s.written (0x10018 + 0x1000 * p) d with serves := s.serves, power := s.power, outs := s.outs, clock := s.clock } = s) ∧
    ((s.written (0x10090 + 0x1000 * p) d).hostq p = { s.hostq p with cplEn := bit d 8, evtEn := bit d 9 } ∧
      { s.written (0x10090 + 0x1000 * p) d with queues := s.queues, outs := s.outs, clock := s.clock } = s) ∧
    (∀ q, q ≠ p → (s.written (0x10010 + 0x1000 * p) d).serve q = s.serve q ∧
      (s.written (0x10018 + 0x1000 * p) d).serve q = s.serve q))

/-- ENGINE_STATE (02 R101, R103, R117): a write of 1 to suspect clears suspect and lasting, unless the engine has been marked in
the same hc (02 R114); a write of 1 to release frees an engine whose task has timed out, and has no effect on another; no other
engine changes. -/
def Obligations.EngineRegisterWrites : Prop :=
  ∀ (s : State) (port d : Nat), port < 512 →
    let t := s.written (0xE1000 + 8 * port) d;
    let clears := bit d 11 && !s.noted (0xE1000 + 8 * port) 11;
    (t.engine port).suspect = ((s.engine port).suspect && !clears) ∧
    (t.engine port).lasting = (if clears then 0 else (s.engine port).lasting) ∧
    (t.engine port).busy = ((s.engine port).busy && !(bit d 30 && (s.engine port).timedOut)) ∧
    (t.engine port).timedOut = ((s.engine port).timedOut && !bit d 30) ∧
    (t.engine port).transient = (s.engine port).transient ∧
    (∀ q, q ≠ port → t.engine q = s.engine q) ∧ t.tasks.slots = s.tasks.slots ∧ t.store = s.store ∧
    ((bit d 30 && (s.engine port).timedOut) = false → bit d 11 = false →
      t = { s with
        outs := [.faceplate 0 0 false], clock := s.clock + 1
        power := { s.power with idleFor := setAt s.power.idleFor swDispatch 0 } })

/-- R324: a write of an acked field is taken, unless it would go past what the block has produced. -/
def Obligations.HostRingAcknowledge : Prop :=
  ∀ (s : State) (p d : Nat), p < 64 →
    (let t := s.written (0x10078 + 0x1000 * p) d;
      ((t.hostq p).cplAcked =
        if sub32 (s.hostq p).cplProduced (s.hostq p).cplAcked < sub32 (fld d 32 32) (s.hostq p).cplAcked then
          (s.hostq p).cplAcked else fld d 32 32) ∧
      t.hostq p = { s.hostq p with cplAcked := (t.hostq p).cplAcked } ∧
      { t with queues := s.queues, power := s.power, outs := s.outs, clock := s.clock, work := s.work } = s) ∧
    (let t := s.written (0x10080 + 0x1000 * p) d;
      ((t.hostq p).evtAcked =
        if sub32 (s.hostq p).evtProduced (s.hostq p).evtAcked < sub32 (fld d 32 32) (s.hostq p).evtAcked then
          (s.hostq p).evtAcked else fld d 32 32) ∧
      t.hostq p = { s.hostq p with evtAcked := (t.hostq p).evtAcked } ∧
      { t with queues := s.queues, power := s.power, outs := s.outs, clock := s.clock, work := s.work } = s)

/-- R46 of 01: a write of the block store stores its eight bytes, the lowest at the lowest address, and every other byte
reads as before. The canonical form of the store is kept. -/
def Obligations.BlockStoreWriteStores : Prop :=
  ∀ (s : State) (k : Nat) (data : Word), s.awake → s.power.phase ≠ 5 → s.work = [] → s.hasBed = false → k < 8192 →
    s.runs swBed = true → s.faceWaits = false → Memory.wf s.store = true →
    ∃ t, exec (.fpWrite (0xA0000 + 8 * k) data) s = .next t ∧
      (∀ i, i < 8 → memRead t.store (8 * k + i) = BitVec.ofNat 8 (data.toNat / 2 ^ (8 * i))) ∧
      (∀ a, a < 8 * k ∨ 8 * k + 8 ≤ a → memRead t.store a = memRead s.store a) ∧
      Memory.wf t.store = true ∧ t.outs = [.faceplate 0 0 false] ∧
      t.power = { s.power with idleFor := setAt s.power.idleFor swBed 0 } ∧
      { t with store := s.store, power := s.power, outs := s.outs, clock := s.clock } = s

/-- CTX_CTRL.part (08 R361, R370): FLT_HOST_PART is entered against the context; a context that is not parted already
begins to part. -/
def Obligations.HostPartingParts : Prop :=
  ∀ (s : State) (p c : Nat), p < 64 → c < 32 → s.partConfigured p = true → s.ctxConfigured p c = true →
    let t := s.written (0x10058 + 0x1000 * p) (c + 2 ^ 7);
    (∃ e : FaultEntry, e.value = fltHostPart ∧ e.partition = p ∧ e.context = c ∧ e.scope = 1 ∧ e.transient = false ∧
      t.faults = { s.faults with unnumbered := s.faults.unnumbered ++ [e] }) ∧
    (s.gone p c = false →
      t.ctx p c = { s.ctx p c with st := .parting, fault := fltHostPart, partings := ((s.ctx p c).partings + 1) % 2 ^ 32 } ∧
        t.work = s.work ++ [.part p c fltHostPart true]) ∧
    (s.gone p c = true → t.ctxs = s.ctxs) ∧ t.tasks = s.tasks ∧ t.image = s.image

/-- CTX_CTRL.bring_in and demote (08 R335, R343, R370): only a DORMANT context begins to arrive; a RESIDENT context that
has tasks, pins or holds, or a guarantee outside the spill range, is not demoted, and demote_refused is set. -/
def Obligations.BringInAndDemote : Prop :=
  ∀ (s : State) (p c : Nat), p < 64 → c < 32 → s.ctxConfigured p c = true →
    let u := s.written (0x10058 + 0x1000 * p) (c + 2 ^ 5);
    let t := s.written (0x10058 + 0x1000 * p) (c + 2 ^ 6);
    ((s.ctx p c).st = .dormant →
      (u.ctx p c).st = .arriving ∧ u.work = s.work ++ [.arrive p c]) ∧
    ((s.ctx p c).st ≠ .dormant →
      u = { s with outs := [.faceplate 0 0 false], clock := s.clock + 1 }) ∧
    ((s.ctx p c).st = .resident →
      s.holding p c = true ∨ s.pinsHeld p c = true ∨
        s.tasks.slots.any (fun e => e.2.st != .free && e.2.part == p && e.2.ctx == c) = true ∨
        (s.guarCount p c ≠ 0 ∧ s.inSpill (s.guarFirst p c, s.guarCount p c) = false) →
      t.ctx p c = { s.ctx p c with demoteRefused := true } ∧ t.ctxs.runs = s.ctxs.runs) ∧
    ((s.ctx p c).st = .resident → s.holding p c = false → s.pinsHeld p c = false →
      s.guarCount p c = 0 ∨ s.inSpill (s.guarFirst p c, s.guarCount p c) = true →
      s.tasks.slots.any (fun e => e.2.st != .free && e.2.part == p && e.2.ctx == c) = false →
      (t.ctx p c).st = .dormant ∧ (∀ r ∈ t.ctxs.runs, ¬ (r.part = p ∧ r.ctx = c)))

/-! ### Clocks, power, halt -/

/-- R529, R530: a domain gates when it has been idle for the idle hold and is not forced on; all state stays. R39: an ungate
that completes makes the domain run; with nothing held for it nothing else changes. 12 R501: when clk_fast becomes stable, the
ungates that are pending complete. R533: clk_fast may stop while it is not asked for, which is no fault. -/
def Obligations.GatingKeepsState : Prop :=
  (∀ (s : State) (d : Nat), s.live →
    (s.runs d = true → s.idle d = true → bit s.power.forceOn d = false → s.power.idleHold ≤ s.power.idleFor.getD d 0 →
      ∃ t, exec (.domainGate d) s = .next (finished t) ∧
        t.power = { s.power with running := setAt s.power.running d false } ∧ t.outs = [] ∧
        { t with power := s.power, outs := s.outs, clock := s.clock } = s) ∧
    (s.power.ungating.getD d false = true →
      s.held.all (fun h => h.1 != d && decide (h.1 < domFaceplate)) = true →
      ∃ t, exec (.domainUngate d) s = .next (finished t) ∧
        t.power = { s.power with
          running := setAt s.power.running d true, ungating := setAt s.power.ungating d false } ∧ t.outs = [] ∧
        { t with power := s.power, outs := s.outs, clock := s.clock } = s)) ∧
  (∀ s : State, s.awake →
    (s.power.fastStable = false → 2 ≤ s.power.phase → s.held = [] → s.bed.readWait = [] → s.bed.writeWait = [] →
      ∃ t, exec .fastStableRise s = .next (finished t) ∧
        t.power = { s.power with
          fastStable := true
          running := (List.range 8).foldl
            (fun r d => if s.power.ungating.getD d false then setAt r d true else r) s.power.running
          ungating := (List.range 8).foldl
            (fun u d => if s.power.ungating.getD d false then setAt u d false else u) s.power.ungating } ∧
        { t with power := s.power, outs := s.outs, clock := s.clock } = s) ∧
    (s.power.fastStable = true → s.fastReq = false →
      exec .clkFastStop s = .next { s with
        outs := [], clock := s.clock + 1, power := { s.power with fastStable := false } }))

/-- R548, R533, R36 of 01: a fault of class BLOCK halts the instance. Its entry has scope BLOCK (the model's choice, log
entry 57), the links are down and block_fault is set. After a supervisor fault tasks and memory stand; after a loss of
the clock the state of the domains that ran is undefined, and that of the others stands (log entry 78). What units keep of the
ports by which something came goes with the links. -/
def Obligations.BlockFaultHalts : Prop :=
  ∀ (s : State) (c : Instr) (f : Nat), s.awake → s.work = [] → s.held = [] →
    (c = .clockLoss ∧ f = fltClockLoss ∧ s.power.fastStable = true ∧ s.power.running.any id = true ∨
      c = .supervisorParity ∧ f = fltSupervisorParity) →
    ∃ t, exec c s = .next t ∧ t.power.phase = 5 ∧ t.face.blockFault = true ∧ t.work = [] ∧ t.held = [] ∧
      (c = .clockLoss → t.power.fastStable = false) ∧
      (∃ e : FaultEntry, e.value = f ∧ e.scope = 3 ∧ t.faults = { s.faults with unnumbered := s.faults.unnumbered ++ [e] }) ∧
      (∀ x, s.hasPort x = true → (t.port x).state = 0 ∧ (t.port x).isl = (s.port x).isl) ∧
      t.image = s.image ∧ t.reshape = s.reshape ∧ t.dets = s.dets ∧
      (s.runs swServe = false → t.serves = s.serves) ∧ (s.runs swSync = false → t.queues.hostqs = s.queues.hostqs) ∧
      (s.runs swDispatch = false → t.tasks = s.tasks) ∧ (s.runs swCombine = false → t.reduce = s.reduce) ∧
      (c = .supervisorParity →
        t.tasks = s.tasks ∧ t.jigs = { s.jigs with exchanges := t.jigs.exchanges } ∧ t.serves = s.serves ∧
          t.pages = s.pages ∧ t.sync = { s.sync with remoteIn := t.sync.remoteIn } ∧
          t.queues = { s.queues with intake := t.queues.intake, chans := t.queues.chans } ∧ t.reduce = s.reduce ∧
          t.store = s.store)

/-- R538, for a sample that is no telemetry gap: the power bus out of range gives width 0 and raises FLT_BUS_RANGE once;
otherwise the width goes down above the cap, up below cap less hysteresis, and stays between. R538, R499: a telemetry gap
while a cap is set gives the width g and raises FLT_TELEMETRY once for the gap; without a cap nothing follows. SW_GOV runs. -/
def Obligations.TelemetrySetsGangWidth : Prop :=
  (∀ (s : State) (w : Word), s.awake → s.runs swGov = true → s.power.cap ≠ 0 → s.gapSample w.toNat = false →
    ∃ t, exec (.pgSample w) s = .next (finished t) ∧
      t.power.sample = w.toNat ∧ t.power.sampleAt = s.power.heart ∧
      (fld w.toNat 0 16 < 40000 ∨ 60000 < fld w.toNat 0 16 →
        t.power.width = 0 ∧ t.power.busRange = true ∧
          (s.power.busRange = true → t.faults = s.faults) ∧
          (s.power.busRange = false →
            ∃ e : FaultEntry, e.value = fltBusRange ∧ t.faults.unnumbered = s.faults.unnumbered ++ [e])) ∧
      (40000 ≤ fld w.toNat 0 16 → fld w.toNat 0 16 ≤ 60000 →
        t.faults = s.faults ∧ t.power.gap = false ∧ t.power.busRange = false ∧
        (s.power.cap < fld w.toNat 32 16 →
          t.power.width = if max 1 s.power.gangMax < s.power.width then s.power.width - 1 else 0) ∧
        (fld w.toNat 32 16 + s.power.hyst < s.power.cap →
          t.power.width =
            if s.power.width < max 1 s.power.gangMax then min 4 (max 1 s.power.gangMax) else min 4 (s.power.width + 1)) ∧
        (fld w.toNat 32 16 ≤ s.power.cap → s.power.cap ≤ fld w.toNat 32 16 + s.power.hyst →
          t.power.width = s.power.width)) ∧
      t.tasks = s.tasks ∧ t.store = s.store) ∧
  (∀ s : State, s.awake → s.power.sampleAt + 200 ≤ s.power.heart →
    (s.power.cap = 0 → exec .telemetryGap s = .next { s with outs := [], clock := s.clock + 1 }) ∧
    (s.power.cap ≠ 0 → s.runs swGov = true → ∃ t, exec .telemetryGap s = .next (finished t) ∧
      t.power.width = max 1 s.power.gangMax ∧ t.power.gap = true ∧ t.work = s.work ++ [.sweep] ∧
      (s.power.gap = true → t.faults = s.faults) ∧
      (s.power.gap = false →
        ∃ e : FaultEntry, e.value = fltTelemetry ∧ t.faults = { s.faults with unnumbered := s.faults.unnumbered ++ [e] }) ∧
      { t with power := s.power, faults := s.faults, outs := s.outs, work := s.work, clock := s.clock } = s))

/-- R536, R537, R556: POWER_CAP without a cap sets the width to 4; with one the governor's domain runs, once clk_fast is stable
(01 R39). R541: a flush makes
every later update be written through; it is over when nothing is dirty and no write-back is outstanding, and then
START_STATUS.flushed is set. -/
def Obligations.PowerCapAndFlush : Prop :=
  (∀ (s : State) (d : Nat),
    (fld d 0 16 = 0 → (s.written 0x1018 d).power = { s.power with
      cap := 0, hyst := fld d 32 16, width := 4, gap := false, busRange := false
      capRatio := if fld d 16 9 = 0 ∨ 256 < fld d 16 9 then s.power.capRatio else fld d 16 9 }) ∧
    (fld d 0 16 ≠ 0 →
      (s.written 0x1018 d).power = { s.power with
        cap := fld d 0 16, hyst := fld d 32 16, idleFor := setAt s.power.idleFor swGov 0
        running := if s.power.stopped then s.power.running else setAt s.power.running swGov true
        ungating :=
          if !s.power.stopped then setAt s.power.ungating swGov false
          else if s.runs swGov then s.power.ungating
          else setAt s.power.ungating swGov true
        capRatio := if fld d 16 9 = 0 ∨ 256 < fld d 16 9 then s.power.capRatio else fld d 16 9 }) ∧
    { s.written 0x1018 d with power := s.power, outs := s.outs, clock := s.clock, work := s.work } = s) ∧
  (∀ s : State,
    (s.written 0x1030 1).power.writeThrough = true ∧ (s.written 0x1030 1).power.flushing = true ∧
    (s.written 0x1030 1).power.flushed = s.power.flushed ∧
    (∀ p ∈ s.parts, ((s.written 0x1030 1).serve p).dirty = [] ∧ ((s.written 0x1030 1).page p).dirty = []) ∧
    (∀ p ∈ s.parts, ∀ i ∈ (s.serve p).dirty, s.hasBed = true → s.inWindow (s.streamAddr p i) 64 = true →
      ∃ w ∈ (s.written 0x1030 1).bed.writes.map (·.2) ++ (s.written 0x1030 1).bed.writeWait, w.why = .stream p i) ∧
    (s.live → s.power.flushing = true → s.serves.all (fun e => e.2.dirty.isEmpty) = true →
      s.pages.all (fun e => e.2.dirty.isEmpty) = true →
      (∀ w ∈ s.bed.writes, w.2.why.isBack = false) → (∀ w ∈ s.bed.writeWait, w.why.isBack = false) →
      exec .flushDone s = .next { s with
        outs := [], clock := s.clock + 1, power := { s.power with flushed := true, flushing := false } }))

/-! ### The link -/

/-- 12 R511, R512: an ACK frees the flits that its numbers cover, and no others; the partner's ports and all other state
stay. The fourth NAK without an advance asks for retraining; an earlier one replays the buffer, which stays as it is. -/
def Obligations.AckAndNak : Prop :=
  ∀ (s : State) (x : Nat) (flit : Granule), s.live → s.portActive x = true → x < s.ports.length →
    (∃ t, exec (.ack x flit) s = .next (finished t) ∧
      t.ports = setAt s.ports x { s.port x with
        replay := freeAcked flit (s.port x).replay, lastRx := s.power.heart
        naks := if (freeAcked flit (s.port x).replay).length < (s.port x).replay.length then 0 else (s.port x).naks } ∧
      t.work = s.work ++ [.transmit x] ∧
      { t with ports := s.ports, outs := s.outs, work := s.work, clock := s.clock } = s) ∧
    (let naks := (if (freeAcked flit (s.port x).replay).length < (s.port x).replay.length then 0 else (s.port x).naks) + 1
      ∃ t, exec (.nak x flit) s = .next (finished t) ∧ (t.port x).replay = freeAcked flit (s.port x).replay ∧
        (4 ≤ naks → t.outs = [.retrain x] ∧ (t.port x).replayAll = true ∧ (t.port x).naks = 0 ∧
          (t.port x).retrains = satInc (s.port x).retrains 0xFF) ∧
        (naks < 4 → (t.port x).naks = naks ∧ (t.port x).replays = satInc (s.port x).replays 0xFFFF ∧
          t.outs = .flit x (envelope 4 0 0x42 0) 0 ::
            (freeAcked flit (s.port x).replay).map (fun f => Out.flit x (envelope f.cls f.seq f.kind f.content) f.content)) ∧
        (∀ y, y ≠ x → t.port y = s.port y) ∧
        { t with ports := s.ports, outs := s.outs, work := s.work, clock := s.clock } = s)

/-- 12 R510, R511: a flit whose CRC is wrong, or whose number is not the next expected one of its class, is discarded and
counted, and answered with a NAK unless the receiver waits for a replay already; one that is right is no error. REPLAY_BEGIN
ends that; the NAK is repeated by its timer; the heartbeat sends an ACK. R515: an idle port asks for L1. -/
def Obligations.ReplayControl : Prop :=
  ∀ (s : State) (x : Nat), s.live → s.work = [] → s.portActive x = true →
    (∀ env flit, s.flitRight x env flit = true →
      exec (.flitError (x, env, flit)) s = .next { s with outs := [], clock := s.clock + 1 }) ∧
    (∀ env flit, s.flitRight x env flit = false → ∃ t, exec (.flitError (x, env, flit)) s = .next (finished t) ∧
      t.ports = setAt s.ports x { s.port x with
        crcErr := min 0xFFFF ((s.port x).crcErr + 1), lastRx := s.power.heart, lastBusy := s.power.heart, waiting := true
        unacked := if (s.port x).waiting then (s.port x).unacked else 0 } ∧
      (((s.port x).waiting = true ∧ t.outs = []) ∨
        ((s.port x).waiting = false ∧ t.outs = [.flit x (envelope 4 0 0x41 (s.ackContent x)) (s.ackContent x)])) ∧
      { t with ports := s.ports, outs := s.outs, clock := s.clock } = s) ∧
    (∃ t, exec (.replayBegin x) s = .next (finished t) ∧
      t.ports = setAt s.ports x { s.port x with waiting := false, lastRx := s.power.heart, lastBusy := s.power.heart } ∧
      { t with ports := s.ports, outs := s.outs, clock := s.clock } = s) ∧
    ((s.port x).waiting = true →
      exec (.nakRepeat x) s = .next { s with
        clock := s.clock + 1, outs := [.flit x (envelope 4 0 0x41 (s.ackContent x)) (s.ackContent x)]
        ports := setAt s.ports x { s.port x with unacked := 0, lastBusy := s.power.heart } }) ∧
    (exec (.ackTimer x) s = .next { s with
      clock := s.clock + 1, outs := [.flit x (envelope 4 0 0x40 (s.ackContent x)) (s.ackContent x)]
      ports := setAt s.ports x { s.port x with unacked := 0 } }) ∧
    ((s.port x).replay = [] → (s.port x).queue = [] → (s.port x).lastBusy + 400 ≤ s.power.heart →
      exec (.l1Idle x) s = .next { s with
        clock := s.clock + 1, outs := [], ports := setAt s.ports x { s.port x with pmReq := true } })

/-- 12 R523: a protocol violation is counted, raises FLT_LINK_PROTOCOL against no context, and the port is retrained. -/
def Obligations.LinkProtocolRetrains : Prop :=
  ∀ (s : State) (x : Nat), s.live → s.portActive x = true →
    ∃ t, exec (.linkProtocol x) s = .next (finished t) ∧
      t.ports = setAt s.ports x { s.port x with
        protocol := satInc (s.port x).protocol 0xFF, retrains := satInc (s.port x).retrains 0xFF
        replayAll := true, naks := 0, lastRx := s.power.heart, lastBusy := s.power.heart } ∧
      (∃ e : FaultEntry, e.value = fltLinkProtocol ∧ e.scope = 0 ∧ e.source = srcLink ∧ e.detail = x % 2 ^ 32 ∧
        t.faults = { s.faults with unnumbered := s.faults.unnumbered ++ [e] }) ∧
      t.outs = [.retrain x] ∧
      { t with ports := s.ports, faults := s.faults, outs := s.outs, clock := s.clock } = s

/-- 12 R513: a CREDIT flit with one entry adds that entry's count to the pool and virtual channel it names, takes the next
sequence number of class 5, and changes no other credit. -/
def Obligations.CreditArrives : Prop :=
  ∀ (s : State) (x vc pool n : Nat), s.live → s.portActive x = true → 2 ≤ (s.port x).state →
    (s.port x).waiting = false → x < s.ports.length → vc < 8 → pool < 128 → n < 64 → (s.port x).unacked < 31 →
    ∃ t, exec (.credit x (BitVec.ofNat 512 (1 + 2 ^ 16 * (vc + 8 * pool + 2 ^ 10 * n)))) s = .next (finished t) ∧
      Tbl.at (t.port x).credits (8 * pool + vc) 0 = Tbl.at (s.port x).credits (8 * pool + vc) 0 + n ∧
      (∀ k, k ≠ 8 * pool + vc → Tbl.at (t.port x).credits k 0 = Tbl.at (s.port x).credits k 0) ∧
      (t.port x).rx = setAt (s.port x).rx 4 (((s.port x).rx.getD 4 0 + 1) % 2 ^ 16) ∧
      (∀ y, y ≠ x → t.port y = s.port y) ∧
      { t with ports := s.ports, outs := s.outs, work := s.work, clock := s.clock } = s

/-- 12 R514, 08 R366: a link that has been silent for the timeout is lost: the port is DOWN with its queue, its numbers and its
credits as at the start, and is not live. 13 R540 step 5: so is a connected port that has not come up in time, and
FLT_TREE_MISMATCH is raised. Ports other than it keep their states. Port 1 of a combined instance leads to its own leaf function
and is no link (01 R35). -/
def Obligations.LinkLossTakesPortDown : Prop :=
  ∀ (s : State) (c : Instr) (x : Nat), s.live → x < s.ports.length → ¬ (s.face.role = 3 ∧ x = 1) →
    (c = .linkTimeout x ∧ s.timeoutDue x = true ∨ c = .discoveryTimeout x ∧ s.discoveryDue x = true) →
    ∃ t, exec c s = .next (finished t) ∧ (t.port x).state = 0 ∧ (t.port x).lost = true ∧ (t.port x).replay = [] ∧
      (t.port x).tx = [0, 0, 0, 0, 0] ∧ (t.port x).rx = [0, 0, 0, 0, 0] ∧ (∀ y, y ≠ x → (t.port y).state = (s.port y).state) ∧
      (t.port x).credits = s.imageCredits x ∧
      ((∀ m ∈ (s.port x).queue, ∀ b, m.back = some b → b.1 ≠ x) → (∀ e ∈ s.jigs.exchanges, e.2.outs = []) →
        (∀ e ∈ s.queues.chans, e.2.sends = []) → (t.port x).queue = []) ∧
      (c = .discoveryTimeout x →
        ∃ e ∈ t.faults.unnumbered, e.value = fltTreeMismatch ∧ e.source = srcLink ∧ e.detail = x % 2 ^ 32) ∧
      (x = 0 → t.face.parentLive = false) ∧ (x ≠ 0 → t.face.childLive = clearBit s.face.childLive (x - 1)) ∧
      t.image = s.image

/-- 12 R507, R517: the level at a port's pins is followed at once, and the link controller is told, which is a request to its
domain (01 R38). What it does then: a link that goes to L1 is LOW_POWER if it was UP, and one that trains again does not lose
its state; a connected port that becomes active from state 0 begins admission with an ADMIT, its numbers at 0 (R509). That a
port which goes physically down stays UP until its timeout is read from the rules (log entry 55). -/
def Obligations.LinkStateFollows : Prop :=
  (∀ (s : State) (x st : Nat), s.awake → s.hasPort x = true → st < 4 → (s.port x).isl ≠ st → x < s.ports.length →
    ∃ t, exec (.linkStateChange x st) s = .next (finished t) ∧
      t.ports = setAt s.ports x { s.port x with isl := st } ∧ t.work = s.work ++ [.linkMoved x (s.port x).isl st] ∧
      t.power = s.power.woken swLink ∧
      { t with ports := s.ports, power := s.power, work := s.work, outs := s.outs, clock := s.clock } = s) ∧
  (∀ (s : State) (x before st : Nat), x < s.ports.length →
    let t := runJob (.linkMoved x before st) s;
    (st = 2 → (s.port x).state = 3 → (t.port x).state = 4) ∧
    (st = 3 → (s.port x).state = 3 → (t.port x).state = 3) ∧
    (st = 0 → (s.port x).state = 3 → (t.port x).state = 3 ∧ (x = 0 → t.face.parentLive = false)) ∧
    (st = 1 → before = 0 → s.hasRole = true → s.connected x = true → s.isBridge x = false →
      (t.port x).state = 2 ∧ (t.port x).tx = [0, 0, 0, 0, 0] ∧ (t.port x).rx = [0, 0, 0, 0, 0] ∧
      (t.port x).replay = [] ∧ (t.port x).credits = s.imageCredits x ∧ (t.port x).queue.map (fun m => m.kind) = [0x20]) ∧
    (s.portUp x = false ∨ st ≠ 1 →
      (∀ y, y ≠ x → t.port y = s.port y) ∧ t.tasks = s.tasks ∧ t.image = s.image ∧ t.store = s.store))

/-- 12 R517, 01 R32: an ADMIT of the partner is accepted when the port is connected and digest and path are the expected
ones; else FLT_TREE_MISMATCH is raised; the verdict goes back, and both verdicts bring the port up, or refuse it. That a
refusal counts once for each admission is read from the rules (log entry 85). -/
def Obligations.AdmissionJudges : Prop :=
  ∀ (s : State) (x : Nat) (flit : Granule), s.live → s.portActive x = true → s.connected x = true → s.isBridge x = false →
    (s.port x).state = 2 → (s.port x).waiting = false → x < s.ports.length → (s.port x).unacked < 31 →
    ∃ t, exec (.admitMsg x flit) s = .next (finished t) ∧
      (bit flit.toNat 64 = false →
        (t.port x).ours = some (s.admits x flit.toNat) ∧ (t.port x).theirs = (s.port x).theirs ∧
        (t.port x).queue = (s.port x).queue ++
          [{ cls := 5, pool := poolNone, kind := 0x50, content := creditContent (creditKey poolSystem 1 false) 1 },
            { cls := 1, pool := poolSystem, kind := 0x20, content := s.admitContent x true (s.admits x flit.toNat) }] ∧
        (s.admits x flit.toNat = false ∨ (s.port x).theirs = some false →
          (t.port x).state = 5 ∧ (t.port x).refusals = satInc (s.port x).refusals 0xFF) ∧
        (s.admits x flit.toNat = false →
          ∃ e : FaultEntry, e.value = fltTreeMismatch ∧ t.faults = { s.faults with unnumbered := s.faults.unnumbered ++ [e] }) ∧
        (s.admits x flit.toNat = true → t.faults = s.faults ∧
          ((s.port x).theirs = some true → (t.port x).state = 3) ∧ ((s.port x).theirs = none → (t.port x).state = 2))) ∧
      (bit flit.toNat 64 = true → (t.port x).theirs = some (bit flit.toNat 65) ∧ t.faults = s.faults ∧
        ((s.port x).ours = some true → bit flit.toNat 65 = true → (t.port x).state = 3) ∧
        ((s.port x).ours = none → bit flit.toNat 65 = true → (t.port x).state = 2) ∧
        (bit flit.toNat 65 = false ∨ (s.port x).ours = some false →
          (t.port x).state = 5 ∧ (t.port x).refusals = satInc (s.port x).refusals 0xFF)) ∧
      t.tasks = s.tasks ∧ t.image = s.image ∧ t.store = s.store

/-! ### Messages of the link -/

/-- 12 R511: a receiver that waits for a replay discards every message of the other classes, counts its flits, and does nothing
else. 12 R521, R522, 08 R356: a message for another instance is passed on toward it; its flits take their sequence numbers, and
its credit returns to the port it came by only once it has been sent on. Nothing else of the block changes. 12 R521, 08 R356: a
message for this instance is accepted and taken, and its credit returns to the port it came by. So it is with EVENT, ANSWER,
PART, RESTORE, MEMBER, MEMBER_ACK, the eleven reshape flits (PREPARE, VOTE, DRAIN, DRAINED, SWAP, SWAPPED, COMMIT, DONE, ABORT,
QUERY, OUTCOME) and the reduce messages (PARTIAL, RESULT, SHARD, UPDATE, READY). A reduce message for the bridge goes up to the
root and out of its parent port; one that comes from the bridge goes to the leaf of member 0 (log entry 56). What taking does,
TimersAndRings says of EVENT, SendsAndOutcomes of ANSWER, QuantumHoldLimitAndParting of PART and RESTORE, BoundariesAreTaken of
MEMBER and MEMBER_ACK, ReshapePhasesEnd of the reshape flits, and BucketsGoOn of the reduce messages. -/
def Obligations.MessagesAreDiscardedPassedOnOrTaken : Prop :=
  (∀ (s : State) (c : Instr) (x cls n : Nat), flitsOf c = some (x, cls, n) → s.live → s.hasPort x = true →
    (s.port x).isl = 1 → (s.port x).state = 3 → s.isBridge x = false → (s.port x).waiting = true →
    exec c s = .next { s with
      outs := [], clock := s.clock + 1
      ports := setAt s.ports x { s.port x with
        crcErr := min 0xFFFF ((s.port x).crcErr + n), lastRx := s.power.heart, lastBusy := s.power.heart } }) ∧
  (∀ (s : State) (c : Instr) (x y cls n dest : Nat) (m : TxMsg) (take : State → State),
    flitsOf c = some (x, cls, n) → relayed s c = some (dest, m, take) → s.live → s.receives x →
    dest ≠ s.selfCode → s.nextHop dest = some y → s.hasPort y = true → y ≠ x → x < s.ports.length → y < s.ports.length →
    (s.port x).unacked + n < 32 →
    ∃ t, exec c s = .next (finished t) ∧
      (t.port y).queue = (s.port y).queue ++ [{ m with back := some (x, creditKey m.pool cls false) }] ∧
      (t.port x).queue = (s.port x).queue ∧
      (t.port x).rx = setAt (s.port x).rx (classIdx cls) (((s.port x).rx.getD (classIdx cls) 0 + n) % 2 ^ 16) ∧
      (t.port x).unacked = (s.port x).unacked + n ∧ (∀ z, z ≠ x → z ≠ y → t.port z = s.port z) ∧
      { t with ports := s.ports, power := s.power, work := s.work, outs := s.outs, clock := s.clock } = s) ∧
  (∀ (s : State) (c : Instr) (x cls n : Nat), flitsOf c = some (x, cls, n) → s.live → s.receives x →
    (∀ m take, relayed s c = some (s.selfCode, m, take) →
      ∃ t, exec c s = .next (finished t) ∧
        t = creditBack x (creditKey m.pool cls false) n (take (accepted x cls n s.begun))) ∧
    (∀ flit take, reduceTake c = some (flit, take) → routeBridge flit = false → routeDest flit = s.selfCode →
      ∃ t, exec c s = .next (finished t) ∧
        t = creditBack x (creditKey (rmsgOf flit.toNat).part 3 false) n (take (accepted x 3 n s.begun)))) ∧
  (∀ (s : State) (c : Instr) (x y n : Nat) (flit : Granule) (take : State → State) (content : Granule),
    flitsOf c = some (x, 3, n) → reduceTake c = some (flit, take) → s.live → s.hasPort x = true → (s.port x).isl = 1 →
    (s.port x).state = 3 → (s.port x).waiting = false → x < s.ports.length → y < s.ports.length → s.hasPort y = true → y ≠ x →
    (s.port x).unacked + n < 32 →
    (routeBridge flit = false ∧ routeDest flit ≠ s.selfCode ∧ s.nextHop (routeDest flit) = some y ∧ content = flit ∨
      routeBridge flit = true ∧ (x ≠ 0 ∨ s.isRoot = false) ∧ y = 0 ∧ content = flit ∨
      routeBridge flit = true ∧ x = 0 ∧ s.isRoot = true ∧ (∃ code, s.rdCode (rmsgOf flit.toNat).group 0 = some code ∧
        code ≠ s.selfCode ∧ s.nextHop code = some y ∧ content = fromBridge flit code)) →
    ∃ t, exec c s = .next (finished t) ∧
      (∃ m, (t.port y).queue = (s.port y).queue ++ [m] ∧ m.cls = 3 ∧ m.pool = (rmsgOf flit.toNat).part ∧ m.kind = 0x30 ∧
        m.content = content ∧ m.flits = n ∧ m.back = some (x, creditKey (rmsgOf flit.toNat).part 3 false)) ∧
      (t.port x).queue = (s.port x).queue ∧ (∀ z, z ≠ x → z ≠ y → t.port z = s.port z) ∧
      { t with ports := s.ports, power := s.power, work := s.work, outs := s.outs, clock := s.clock } = s)

/-! ### Bed memory -/

/-- R549: a bed read that fails is issued once more, and its owner hears nothing; when it fails again, its owner does, once for
the transfer of granules that it belongs to, and the tag is free. A request is one granule (12 R492). 12 R493, 13 R549: a bed
write that fails is issued once more; a failure of the second issue, and an acceptance, free its tag; its owner hears of the
first granule that fails, or of the acceptance of the last. -/
def Obligations.FailedBedRequestsGoOnceMore : Prop :=
  (∀ (s : State) (c : Instr) (tag : Nat) (g : Granule) (wants : ReadFor → Bool) (r : BedRead),
    readOf c = some (tag, g, true, wants) →
    s.live → s.hasBed = true → Tbl.find s.bed.reads tag = some r → wants r.why = true →
    (r.retried = false →
      ∃ t, exec c s = .next (finished t) ∧
        t.bed = { s.bed with reads := Tbl.put s.bed.reads tag { r with retried := true } } ∧
        t.outs = [.bedRead tag (r.addr / 64) r.part r.sys r.qos] ∧
        { t with bed := s.bed, outs := s.outs, clock := s.clock } = s) ∧
    (r.retried = true → s.bed.readWait = [] →
      let x := Tbl.at s.bed.readXfers r.xfer {};
      ∃ t, exec c s = .next (finished t) ∧ t.outs = [] ∧
        (∃ d, t.bed = { s.bed with
          reads := Tbl.del s.bed.reads tag
          readXfers := if x.left ≤ 1 then Tbl.del s.bed.readXfers r.xfer
            else Tbl.put s.bed.readXfers r.xfer { x with left := x.left - 1, data := d, bad := true } }) ∧
        t.work = s.work ++ (if x.bad then [] else [.readFailed r.why r.part r.ctx]) ∧
        { t with bed := s.bed, outs := s.outs, work := s.work, clock := s.clock } = s)) ∧
  (∀ (s : State) (tag : Nat) (w : BedWrite), s.wrapper.undefined = false → s.power.inReset = false →
    Tbl.find s.bed.writes tag = some w →
    let x := Tbl.at s.bed.writeXfers w.xfer {};
    let after (bad : Bool) : Tbl Transfer := if x.left ≤ 1 then Tbl.del s.bed.writeXfers w.xfer
      else Tbl.put s.bed.writeXfers w.xfer { x with left := x.left - 1, bad := bad };
    let told : List Job := if 2 ≤ x.left ∨ x.bad = true ∨ w.why.apart = true then [] else [.writeDone w.why w.part w.ctx true];
    (w.retried = false →
      ∃ t, exec (.bedWriteAccept tag true) s = .next (finished t) ∧
        t.bed = { s.bed with writes := Tbl.put s.bed.writes tag { w with retried := true } } ∧
        t.outs = [.bedWrite tag (w.addr / 64) (BitVec.ofNat 512 (w.data.bits * 2 ^ (8 * (w.addr % 64))))
          ((2 ^ w.data.len - 1) * 2 ^ (w.addr % 64)) w.part w.sys w.qos] ∧
        { t with bed := s.bed, outs := s.outs, clock := s.clock } = s) ∧
    (s.bed.readWait = [] → s.bed.writeWait = [] →
      (w.retried = true →
        ∃ t, exec (.bedWriteAccept tag true) s = .next (finished t) ∧
          t.bed = { s.bed with writes := Tbl.del s.bed.writes tag, writeXfers := after true } ∧
          t.work = s.work ++ (if x.bad then [] else [.writeDone w.why w.part w.ctx false]) ∧ t.outs = [] ∧
          { t with bed := s.bed, work := s.work, outs := s.outs, clock := s.clock } = s) ∧
      (w.retried = false →
        ∃ t, exec (.bedWriteAccept tag false) s = .next (finished t) ∧
          t.bed = { s.bed with writes := Tbl.del s.bed.writes tag, writeXfers := after x.bad } ∧
          t.work = s.work ++ told ∧ t.outs = [] ∧
          { t with bed := s.bed, work := s.work, outs := s.outs, clock := s.clock } = s) ∧
      (w.retried = true →
        ∃ t, exec (.bedWriteAccept tag false) s = .next (finished t) ∧
          t.bed = { s.bed with
            writes := Tbl.del s.bed.writes tag, writeXfers := after x.bad, retried := satInc s.bed.retried 0xFFFF } ∧
          t.work = s.work ++ told)))

/-- The data of a bed read reach the unit that asked for them, once the tag has been given back, when the last granule of the
transfer has come (12 R492, R494); a granule before is only kept. What the units do with them: the words of a launch's parameters
(03 R129, R130); the header of a command list, which is read whole then (R157, R158); the payload of a send (07 R290); a spilled
word of a queue, with its parity bit (07 R308, R311); a contribute record that fails a check, or waits for its bucket (09 R378,
R379); a record of the stream table and of the ledger table, unless an update has brought a newer one into the cache (04 R168; 05
R239). -/
def Obligations.ReadDataReachTheirUnit : Prop :=
  (∀ (s : State) (c : Instr) (tag : Nat) (g : Granule) (wants : ReadFor → Bool) (r : BedRead),
    readOf c = some (tag, g, false, wants) → s.live → Tbl.find s.bed.reads tag = some r → wants r.why = true →
    r.retried = false → s.bed.readWait = [] → 2 ≤ (Tbl.at s.bed.readXfers r.xfer {}).left →
    ∃ t, exec c s = .next (finished t) ∧
      t.bed = { s.bed with
        reads := Tbl.del s.bed.reads tag, readXfers := Tbl.put s.bed.readXfers r.xfer (s.xferThen r g false) } ∧
      { t with bed := s.bed, outs := s.outs, clock := s.clock } = s) ∧
  (∀ (s : State) (tag : Nat) (r : BedRead) (data : Granule), s.live → Tbl.find s.bed.reads tag = some r → s.lastGranule r →
    let u := s.answered tag r data;
    let w := s.gathered r data;
    (∀ i g, r.why = .season i g →
      exec (.seasonFetchArrive tag data false) s = .next (finished (seasonArrives i g w u))) ∧
    (∀ i g, r.why = .desc i g →
      exec (.descFetchArrive tag data false) s = .next (finished (descArrives i g w u))) ∧
    (∀ i g, r.why = .pred i g →
      exec (.predicateArrive tag data false) s = .next (finished (predicateArrives i g w u))) ∧
    (∀ i g, r.why = .edge i g →
      exec (.edgeGranuleArrive tag data false) s = .next (finished (edgeArrives i g (BitVec.ofNat 512 w) u))) ∧
    (∀ id, r.why = .launch id → (Tbl.find u.jigs.launches id).isSome = true →
      exec (.launchRecordArrive tag data false) s = .next (finished (launchRecord id w u))) ∧
    (∀ slot, r.why = .jigDir slot ∨ r.why = .jigHead slot ∨ r.why = .jigBody slot →
      exec (.jigCacheFill tag data false) s =
        .next (finished (jigArrives { r with
          addr := (Tbl.at s.bed.readXfers r.xfer {}).addr, len := s.wholeLen r } w u))) ∧
    (∀ id ws, r.why = .params id ws →
      exec (.paramWordsArrive tag data false) s = .next (finished (paramsArrive id ws w u))) ∧
    (∀ id, r.why = .cmdlist id →
      exec (.cmdlistReadArrive tag data false) s =
        .next (finished (listArrives id { r with
          addr := (Tbl.at s.bed.readXfers r.xfer {}).addr, len := s.wholeLen r } w u))) ∧
    (∀ ch seq, r.why = .payload ch seq →
      exec (.sendPayloadReady tag data false) s = .next (finished (payloadArrives ch seq ⟨s.wholeLen r, w⟩ u))) ∧
    (∀ q pos, r.why = .refill q pos →
      exec (.queueRefillArrive tag (data.setWidth 256) ((data >>> 256).setWidth 256) false) s =
        .next (finished (refilled q pos (some (BitVec.ofNat 64 (fld w 0 64), bit w (64 + pos % 8))) u))) ∧
    (∀ i g, r.why = .contribute i g →
      exec (.contributeRecordArrive tag data false) s = .next (finished (recordArrives i g w u))) ∧
    (∀ p i, r.why = .stream p i →
      exec (.streamCacheFill tag data false) s = .next (finished (resumeFills p (streamFilled p i w u)))) ∧
    (∀ p i, r.why = .ledger p i →
      exec (.ledgerCacheFill tag data false) s = .next (finished (resumeFills p (pageFilled p i w u))))) ∧
  (∀ u : State,
    (∀ (id v w a : Nat) (l : Launch), Tbl.find u.jigs.launches id = some l → l.paramPtr % 4 = 0 → a = l.paramPtr + 4 * v →
      paramsArrive id [v] w u = launchCounted id
        (setLaunch id { l with words := [(v, BitVec.ofNat 32 (fld w (8 * (a % 64)) 32))] } u)) ∧
    (∀ (id w : Nat) (r : BedRead) (l : Launch), Tbl.find u.jigs.launches id = some l → r.len = 64 → 1 ≤ fld w 0 13 →
      fld w 0 13 ≤ 4096 →
      listArrives id r w u = issueRead (.cmdlist id) (recCmd l.record) (listBytes w) l.part l.ctx false u) ∧
    (∀ (id w : Nat) (r : BedRead) (l : Launch), Tbl.find u.jigs.launches id = some l → r.len ≠ 64 →
      u.listOk ⟨r.len, w⟩ = true → listCount ⟨r.len, w⟩ ≤ u.build.taskSlots → listGranules ⟨r.len, w⟩ ≤ u.edgePool l.part →
      listArrives id r w u = setLaunch id { l with list := ⟨r.len, w⟩, phase := .waiting } u) ∧
    (∀ (id w : Nat) (r : BedRead) (l : Launch), Tbl.find u.jigs.launches id = some l → r.len ≠ 64 →
      u.listOk ⟨r.len, w⟩ = false → ∃ e ∈ (listArrives id r w u).faults.unnumbered, e.value = fltCmdlist) ∧
    (∀ (ch seq : Nat) (b : Blob), payloadArrives ch seq b u = pumpChan ch (modChan ch (fun c =>
      { c with sends := c.sends.map (fun m => if m.seq == seq then { m with payload := some b } else m) }) u)) ∧
    (∀ (q pos : Nat) (d : BitVec 64) (par : Bool), let i := sub32 pos (u.queue q).rel;
      ((u.queue q).words[i]?).map (·.place) = some 2 → (u.queue q).reading = none ∨ (u.queue q).rd ≠ pos →
      (refilled q pos (some (d, par)) u).queue q = { u.queue q with
        words := setAt (u.queue q).words i { data := d, parity := par, place := 3 } } ∧
      { refilled q pos (some (d, par)) u with queues := u.queues } = u) ∧
    (∀ (i g r f : Nat), u.holdsTask i g = true → u.checkContribute (u.slot i).part r = some f →
      (recordArrives i g r u).slot i = { u.slot i with st := .retiring, fin := some (stParted, true) } ∧
      (∃ e ∈ (recordArrives i g r u).faults.unnumbered, e.value = f) ∧ (recordArrives i g r u).reduce = u.reduce) ∧
    (∀ (i g r : Nat), u.holdsTask i g = true → u.checkContribute (u.slot i).part r = none → tryContribute i r u = none →
      recordArrives i g r u = { u with reduce := { u.reduce with waiting := u.reduce.waiting ++ [(i, r)] } }) ∧
    (∀ (p i w : Nat),
      (i ∈ (u.serve p).uncached →
        (streamFilled p i w u).stream p i = (u.stream p i).ofBits w ∧ i ∉ ((streamFilled p i w u).serve p).uncached) ∧
      (i ∉ (u.serve p).uncached → streamFilled p i w u = u) ∧
      (i ∈ (u.page p).uncached →
        (pageFilled p i w u).entry p i = (u.entry p i).ofBits w ∧ i ∉ ((pageFilled p i w u).page p).uncached) ∧
      (i ∉ (u.page p).uncached → pageFilled p i w u = u) ∧
      (u.filling p = true → resumeFills p u = u)))

/-! ### Tasks -/

/-- 02 R57, R65, R74, R76: what the data of a task's reads do to its slot, when the last of them has come; every other slot
stays. A slot that has been freed, or holds another task, is left alone. 02 R60, R63 to R65: the walk of a granule at a RETIRING
slot. A header that is wrong is FLT_EDGE_KIND, and ends the walk; the last granule frees the slot and its granules, and another
is read next. An entry of kind 1 takes 1 from its successor's count, and brings the poison; stale, it is FLT_EDGE_STALE against
the completing task's context, unless that is parted, and of a count that is 0 already FLT_DEP_UNDERFLOW against the
successor's. One of kind 2 waits in the ordered-combine buffer, and one of another kind is FLT_EDGE_KIND. All entries of a
granule count, where no two name one slot. -/
def Obligations.TaskReadsChangeTheirSlot : Prop :=
  ∀ (s : State) (tag i g : Nat) (r : BedRead) (data : Granule), s.live → Tbl.find s.bed.reads tag = some r → s.lastGranule r →
    let w := s.gathered r data;
    (r.why = .season i g → s.holdsTask i g = true →
      ∃ t, exec (.seasonFetchArrive tag data false) s = .next (finished t) ∧ (∀ j, j ≠ i → t.slot j = s.slot j) ∧
        ((s.slot i).st = .seasoning →
          t.slot i = { s.slot i with st := .seasoned, desc := some (descOf w) }) ∧
        ((s.slot i).st = .fetching → (s.slot i).skipAt = none →
          t.slot i = { s.slot i with st := .ready, desc := some (descOf w), since := s.clock + 1 } ∧
            Job.ready i ∈ t.work)) ∧
    (r.why = .desc i g → s.holdsTask i g = true → (s.slot i).st = .fetching → (s.slot i).skipAt = none →
      ∃ t, exec (.descFetchArrive tag data false) s = .next (finished t) ∧ (∀ j, j ≠ i → t.slot j = s.slot j) ∧
        t.slot i = { s.slot i with st := .ready, desc := some (descOf w), since := s.clock + 1 } ∧
        Job.ready i ∈ t.work) ∧
    (r.why = .pred i g → s.holdsTask i g = true → (s.slot i).st = .fetching → (s.slot i).desc.isSome = true →
      ∃ t, exec (.predicateArrive tag data false) s = .next (finished t) ∧ (∀ j, j ≠ i → t.slot j = s.slot j) ∧
        t.slot i = { s.slot i with
          st := .ready, pred := some (BitVec.ofNat 64 w), since := s.clock + 1 } ∧ Job.ready i ∈ t.work) ∧
    (r.why = .edge i g → s.holdsTask i g = true → (s.slot i).st ≠ .retiring →
      ∃ t, exec (.edgeGranuleArrive tag data false) s = .next (finished t) ∧ (∀ j, j ≠ i → t.slot j = s.slot j) ∧
        t.slot i = { s.slot i with held := some (BitVec.ofNat 512 w) }) ∧
    (∀ c, (r.why = .season i g ∧ c = .seasonFetchArrive tag data false ∨ r.why = .desc i g ∧ c = .descFetchArrive tag data false ∨
        r.why = .pred i g ∧ c = .predicateArrive tag data false ∨ r.why = .edge i g ∧ c = .edgeGranuleArrive tag data false) →
      s.holdsTask i g = false → ∃ t, exec c s = .next (finished t) ∧ t.tasks = s.tasks) ∧
    (r.why = .edge i g → s.holdsTask i g = true → (s.slot i).st = .retiring →
      let n := w % 2 ^ 512;
      let x := s.slot i;
      let raised := (s.answered tag r data).faults.unnumbered;
      let poison := (x.fin.map (·.2)).getD false;
      let entry (k : Nat) : Nat := fld n (64 + 32 * k) 32;
      let target (k : Nat) : Nat := fld (entry k) 0 18;
      ∃ t, exec (.edgeGranuleArrive tag data false) s = .next (finished t) ∧
        (fld n 0 4 = 15 ∨ fld n 36 28 ≠ 0 →
          t.slot i = { gen := (x.gen + 1) % 16384 } ∧ (∀ j, j ≠ i → t.slot j = s.slot j) ∧ t.reduce.kind2 = s.reduce.kind2 ∧
            ∃ e : FaultEntry, e.value = fltEdgeKind ∧ e.partition = x.part ∧ e.context = x.ctx ∧
              t.faults.unnumbered = raised ++ [e]) ∧
        (fld n 0 4 ≠ 15 → fld n 36 28 = 0 →
          (fld n 4 32 = 0 → t.slot i = { gen := (x.gen + 1) % 16384 } ∧
            (∀ k ∈ x.granules, Tbl.find t.tasks.granules k = none)) ∧
          (fld n 4 32 ≠ 0 → s.hasBed = true → s.edgeRegion % 64 = 0 → s.inWindow (s.edgeRegion + 64 * fld n 4 32) 64 = true →
            ∃ b : BedRead, b.why = .edge i x.gen ∧ b.addr = s.edgeRegion + 64 * fld n 4 32 ∧
              ((∃ u, Tbl.find t.bed.reads u = some b) ∨ b ∈ t.bed.readWait)) ∧
          (fld n 0 4 = 0 → (∀ j, j ≠ i → t.slot j = s.slot j) ∧ t.faults.unnumbered = raised) ∧
          ((∀ k, k < fld n 0 4 → fld (entry k) 18 2 = 1 ∧ target k ≠ i ∧ s.counts (target k) (fld (entry k) 20 12) = true) →
            (∀ k l, k < l → l < fld n 0 4 → target k ≠ target l) →
            (∀ k, k < fld n 0 4 → (t.slot (target k)).count = (s.slot (target k)).count - 1 ∧
              (t.slot (target k)).poisonIn = ((s.slot (target k)).poisonIn || poison)) ∧
            (∀ j, j ≠ i → (∀ k, k < fld n 0 4 → target k ≠ j) → (t.slot j).count = (s.slot j).count ∧
              (t.slot j).poisonIn = (s.slot j).poisonIn) ∧ t.faults.unnumbered = raised) ∧
          (fld n 0 4 = 1 →
            let j := target 0;
            let y := s.slot j;
            let gen := fld (entry 0) 20 12;
            (fld (entry 0) 18 2 = 0 ∨ fld (entry 0) 18 2 = 3 →
              (∀ k, k ≠ i → t.slot k = s.slot k) ∧ ∃ e : FaultEntry, e.value = fltEdgeKind ∧ e.partition = x.part ∧
                e.context = x.ctx ∧ t.faults.unnumbered = raised ++ [e]) ∧
            (fld (entry 0) 18 2 = 2 → x.released = false →
              (∀ k, k ≠ i → t.slot k = s.slot k) ∧ t.faults.unnumbered = raised ∧ Job.order (orderGroup (x.desc.getD {})) ∈ t.work ∧
                ∃ q : Kind2, q.slot = j ∧ q.gen = gen ∧ q.poison = poison ∧ q.group = orderGroup (x.desc.getD {}) ∧
                  q.index = orderIndex (x.desc.getD {}) ∧ t.reduce.kind2 = s.reduce.kind2 ++ [q]) ∧
            (fld (entry 0) 18 2 = 1 → j ≠ i →
              (y.st = .free ∨ y.gen % 4096 ≠ gen % 4096 →
                (∀ k, k ≠ i → t.slot k = s.slot k) ∧
                (s.gone x.part x.ctx = true → t.faults.unnumbered = raised) ∧
                (s.gone x.part x.ctx = false → ∃ e : FaultEntry, e.value = fltEdgeStale ∧ e.partition = x.part ∧
                  e.context = x.ctx ∧ t.faults.unnumbered = raised ++ [e])) ∧
              (y.st ≠ .free → y.gen % 4096 = gen % 4096 → s.gone y.part y.ctx = false → y.count = 0 →
                (∀ k, k ≠ i → t.slot k = s.slot k) ∧ ∃ e : FaultEntry, e.value = fltDepUnderflow ∧ e.partition = y.part ∧
                  e.context = y.ctx ∧ t.faults.unnumbered = raised ++ [e])))))

/-- 02 R70, R75: the FETCHING task that has waited longest takes a cache entry; when none is free, the entry that R70 names
goes back to PENDING for it. -/
def Obligations.FetchGrantTakesAnEntry : Prop :=
  ∀ (s : State) (i : Nat), s.live → s.waitsEntry = some i →
    (s.hasBed = false ∨ s.cached < s.build.cacheSlots →
      ∃ t, exec .fetchGrant s = .next (finished t) ∧ t.slot i = { s.slot i with entry := true } ∧
        (∀ j, j ≠ i → t.slot j = s.slot j) ∧ t.jigs = s.jigs ∧ t.store = s.store) ∧
    (∀ j, s.hasBed = true → s.build.cacheSlots ≤ s.cached → s.evictee = some j → j ≠ i →
      ∃ t, exec .fetchGrant s = .next (finished t) ∧ (t.slot i).entry = true ∧ (t.slot i).st = (s.slot i).st ∧
        t.slot j = { s.slot j with st := .pending, entry := false, desc := none } ∧
        (∀ k, k ≠ i → k ≠ j → t.slot k = s.slot k) ∧ t.jigs = s.jigs ∧ t.store = s.store)

/-- 02 R78: in one fc, while SW_DISPATCH runs (01 R38), no more dispatch packets leave than the build has lanes; where no
partition has a task to select, nothing happens. 02 R86, R94, R97: a single task that alone may be selected, with an engine free
for it, is dispatched: its packet leaves on the engine's port, the engine is busy with it, and the task is ISSUED. -/
def Obligations.DispatchKeepsToTheLanes : Prop :=
  ∀ s : State, s.live → s.runs swDispatch = true →
    ∃ t, exec .taskDispatch s = .next (finished t) ∧
      (t.outs.filter (fun o => match o with
        | .packet _ _ => true
        | _ => false)).length ≤ s.build.dispatchWidth ∧
      ((∀ p, s.candidates p = []) → t = s.begun) ∧
      (∀ (p i v : Nat) (x : Slot) (d : Desc), p ∈ s.parts → s.candidates p = [(i, x, d)] →
        (∀ q, q ≠ p → s.candidates q = []) → (s.tasks.slots.map (·.1)).Nodup → d.gang = false →
        (d.engineClass = 0 → 0 < s.power.width) → s.delegates x d = false → s.placeOne x d = some v →
        (t.slot i).st = .issued ∧ (t.slot i).tries = x.tries + 1 ∧ (∀ j, j ≠ i → (t.slot j).st = (s.slot j).st) ∧
          (t.engine (s.portOf v)).busy = true ∧ (t.engine (s.portOf v)).taskId = d.taskId ∧
          (t.engine (s.portOf v)).part = x.part ∧ (t.engine (s.portOf v)).ctx = x.ctx ∧
          (∀ k, k ≠ s.portOf v → t.engine k = s.engine k) ∧
          t.outs.filter (fun o => match o with
            | .packet _ _ => true
            | _ => false) = [.packet (packetOf d x.attempt x.variant 0 0) (s.portOf v)] ∧ t.faults = s.faults)

/-- 02 R97, 01 R40: a status record waits while SW_DISPATCH is gated; one from an idle engine is unknown: FLT_CPL_UNKNOWN with
scope none, and no task changes; one of a context that has been parted since the dispatch is discarded and counted, and so is
one that comes in the hc of its engine's release (02 R118); a task that has run without fault retires with its status and
poison. In every case the engine is free afterwards, and no other engine changes but one that is charged with the first attempt
of a task (02 R99, R100), of which only the marks differ. -/
def Obligations.StatusRecordFreesEngine : Prop :=
  ∀ (s : State) (port : Nat) (w : Word), s.live → port < s.build.enginePorts →
    (s.runs swDispatch = false →
      ∃ t, exec (.statusRecord port w) s = .next (finished t) ∧ t.held = s.held ++ [(swDispatch, .statusRecord port w)] ∧
        { t with held := s.held, power := s.power, outs := s.outs, clock := s.clock } = s) ∧
    (s.runs swDispatch = true →
      ∃ t, exec (.statusRecord port w) s = .next (finished t) ∧ (t.engine port).busy = false ∧
        (t.engine port).timedOut = false ∧ (t.engine port).parted = false ∧
        (∀ q, q ≠ port → t.engine q = { s.engine q with
          transient := (t.engine q).transient, lasting := (t.engine q).lasting, suspect := (t.engine q).suspect }) ∧
        (∀ q, q ≠ port → (∀ j st, (s.slot j).firstFail ≠ some (q, st)) → t.engine q = s.engine q) ∧
        ((s.engine port).busy = false → s.noted (0xE1000 + 8 * port) 30 = false → t.tasks.slots = s.tasks.slots ∧
          ∃ e : FaultEntry, e.value = fltCplUnknown ∧ e.scope = 0 ∧ e.detail = fld w.toNat 0 32 ∧
            t.faults.unnumbered = s.faults.unnumbered ++ [e]) ∧
        ((s.engine port).busy = true ∧
            ((s.engine port).parted = true ∨ s.gone (s.engine port).part (s.engine port).ctx = true) ∨
          (s.engine port).busy = false ∧ s.noted (0xE1000 + 8 * port) 30 = true →
          t.tasks.slots = s.tasks.slots ∧ t.faults = s.faults ∧ t.tasks.cplDiscard = (s.tasks.cplDiscard + 1) % 2 ^ 64) ∧
        (let i := idSlot (fld w.toNat 0 32);
          (s.engine port).busy = true → (s.engine port).parted = false →
          s.gone (s.engine port).part (s.engine port).ctx = false →
          (s.engine port).taskId = fld w.toNat 0 32 → (s.slot i).st = .issued → (s.slot i).gen = idGen (fld w.toNat 0 32) →
          fld w.toNat 42 8 = (s.slot i).epoch → s.retiredEpoch (s.slot i).part (fld w.toNat 42 8) = false →
          fld w.toNat 32 8 = stOk → (s.slot i).firstFail = none → ((s.slot i).desc.getD {}).gang = false →
          (t.slot i).st = .retiring ∧ (t.slot i).fin = some (stOk, bit w.toNat 40) ∧ Job.retire i ∈ t.work ∧
            t.faults = s.faults ∧ (∀ j, j ≠ i → t.slot j = s.slot j)))

/-- 02 R103, 01 R25: a task that times out raises FLT_TASK_TIMEOUT and charges a lasting fault to its engine, which stays busy
with timed_out set; the third lasting fault marks it suspect, also where a write takes lasting from 2 to 0 in the same hc (02
R114); a delegated task raises FLT_CHILD_TIMEOUT. No slot leaves its state by the timeout itself. The source code of the entry
is read from the rules (log entry 84). -/
def Obligations.TaskTimeoutCharges : Prop :=
  ∀ (s : State) (k : Nat), s.live →
    ((s.engine k).busy = true → (s.engine k).timedOut = false →
      ∃ t, exec (.taskTimeout false k) s = .next (finished t) ∧ (t.engine k).timedOut = true ∧ (t.engine k).busy = true ∧
        (t.engine k).taskId = (s.engine k).taskId ∧
        (s.noted (0xE1000 + 8 * k) 12 = false →
          (t.engine k).lasting = min 3 ((s.engine k).lasting + 1) ∧
          ((s.engine k).lasting = 2 → (t.engine k).suspect = true) ∧
          ((s.engine k).lasting ≠ 2 → (t.engine k).suspect = (s.engine k).suspect)) ∧
        (s.noted (0xE1000 + 8 * k) 12 = true → (t.engine k).lasting = 3 ∧ (t.engine k).suspect = true) ∧
        t.tasks.lastingCount = (s.tasks.lastingCount + 1) % 2 ^ 64 ∧ t.tasks.slots = s.tasks.slots ∧
        (∃ e ∈ t.faults.unnumbered, e.value = fltTaskTimeout ∧ e.partition = (s.engine k).part ∧
          e.context = (s.engine k).ctx ∧ e.detail = (s.engine k).taskId % 2 ^ 32) ∧
        (∀ q, q ≠ k → t.engine q = s.engine q)) ∧
    ((s.slot k).st = .issued → (s.slot k).child.isSome = true → (s.slot k).timedOut = false →
      ∃ t, exec (.taskTimeout true k) s = .next (finished t) ∧ t.slot k = { s.slot k with timedOut := true } ∧
        (∃ e ∈ t.faults.unnumbered, e.value = fltChildTimeout ∧ e.partition = (s.slot k).part ∧ e.context = (s.slot k).ctx) ∧
        (∀ j, j ≠ k → t.slot j = s.slot j) ∧ t.tasks.engines = s.tasks.engines)

/-- 01 R24, R25, R27; 02 R97: a DISPATCH of a context that the image does not map raises FLT_PARTITION_UNMAPPED, one of a parted
context does not; both are answered by a COMPLETION to the parent, and launch nothing. Another launches its work; one of the
mover class may be a page move, which is to run as one mover task (05 R231): which of the two a packet is, is a free value
(log entry 15). A COMPLETION with ST_OK of a task in flight below the port gives the task credit back, and the task retires
with its poison; one of a context parted since is discarded and counted; one of no task in flight is unknown, and changes no
task. -/
def Obligations.DelegatedTasksArrive : Prop :=
  ∀ (s : State) (flit : Granule) (y : Nat), s.live →
    (s.receives 0 →
      let p := fld flit.toNat 32 6;
      let c := fld flit.toNat 38 5;
      ∃ t, exec (.dispatch 0 flit) s = .next (finished t) ∧
        (s.mapped p c = false → t.jigs = s.jigs ∧
          (∃ e ∈ t.faults.unnumbered, e.value = fltPartitionUnmapped ∧ e.partition = p ∧ e.detail = fld flit.toNat 0 32) ∧
          (t.port 0).queue.getLast? = some
            { cls := 0, pool := poolNone, kind := 0x02
              content := BitVec.ofNat 512 (statusRecord (fld flit.toNat 0 32) stUnmapped true false (fld flit.toNat 43 8)
                (bit flit.toNat 57) (bit flit.toNat 56)) }) ∧
        (s.mapped p c = true → s.gone p c = true → t.jigs = s.jigs ∧ t.faults = s.faults ∧
          (t.port 0).queue.getLast? = some
            { cls := 0, pool := poolNone, kind := 0x02
              content := BitVec.ofNat 512 (statusRecord (fld flit.toNat 0 32) stParted true false (fld flit.toNat 43 8)
                (bit flit.toNat 57) (bit flit.toNat 56)) }) ∧
        (s.mapped p c = true → s.gone p c = false →
          (t.launch s.jigs.nextLaunch).owner = .delegated (fld flit.toNat 0 128) ∧
            (t.launch s.jigs.nextLaunch).part = p ∧ (t.launch s.jigs.nextLaunch).ctx = c ∧
            t.jigs.nextLaunch = s.jigs.nextLaunch + 1 ∨
          fld flit.toNat 51 3 = 2 ∧ Job.mover (fld flit.toNat 0 128) ∈ t.work ∧ t.jigs = s.jigs) ∧
        t.tasks = s.tasks) ∧
    (∀ f : Flight, s.receives y → y ≠ 0 → y < s.ports.length →
      s.tasks.delegated.find? (fun t => t.child == y && t.taskId == fld flit.toNat 0 32) = some f →
      let i := idSlot (fld flit.toNat 0 32);
      ∃ t, exec (.completion y flit) s = .next (finished t) ∧
        Tbl.at (t.port y).credits (creditKey f.part 0 true) 0 = Tbl.at (s.port y).credits (creditKey f.part 0 true) 0 + 1 ∧
        t.tasks.delegated = s.tasks.delegated.filter (fun t => !(t.child == y && t.taskId == fld flit.toNat 0 32)) ∧
        (f.parted = true ∨ s.gone f.part f.ctx = true →
          t.tasks.slots = s.tasks.slots ∧ t.faults = s.faults ∧ t.tasks.cplDiscard = (s.tasks.cplDiscard + 1) % 2 ^ 64) ∧
        (f.parted = false → s.gone f.part f.ctx = false → (s.slot i).st = .issued →
          (s.slot i).gen = idGen (fld flit.toNat 0 32) → (s.slot i).child = some y →
          fld flit.toNat 42 8 = (s.slot i).epoch → s.retiredEpoch (s.slot i).part (fld flit.toNat 42 8) = false →
          fld flit.toNat 32 8 = stOk →
          (t.slot i).st = .retiring ∧ (t.slot i).fin = some (stOk, bit flit.toNat 40) ∧ Job.retire i ∈ t.work ∧
            t.faults = s.faults ∧ (∀ j, j ≠ i → t.slot j = s.slot j))) ∧
    (s.receives y → y ≠ 0 → s.tasks.delegated.any (fun t => t.child == y && t.taskId == fld flit.toNat 0 32) = false →
      ∃ t, exec (.completion y flit) s = .next (finished t) ∧ t.tasks = s.tasks ∧
        ∃ e : FaultEntry, e.value = fltCplUnknown ∧ e.scope = 0 ∧ t.faults.unnumbered = s.faults.unnumbered ++ [e])

/-! ### Jigs -/

/-- 03 R132, R133: what a launch reserves is free: as many slots as it has tasks, and the runs of its gangs, which do not
overlap; it goes on to create its tasks. A launch without gangs and cold blocks reserves as soon as the slots, the granules
and its partition's share of them are free. 03 R144: a header that was NACKed 64 hc ago, which has kept its in-flight place
(07 R298), goes again: toward its leaf, or to this instance itself. -/
def Obligations.ReservationTakesFreeSlots : Prop :=
  ∀ (s : State), s.live →
    (∀ (p id : Nat) (l : Launch) (u : State), s.started p = true → s.nextWaiter p = some id →
      Tbl.find s.jigs.launches id = some l → tryReserve id s.begun = some u →
      exec (.launchReserve p) s = .next (finished u) ∧ (u.launch id).phase = .creating ∧ Job.create id ∈ u.work ∧
        (u.launch id).todo.length ≤ s.slotsFree ∧
        (∀ x ∈ (u.launch id).todo, ∀ i, x.slot = some i → s.slotFree i = true) ∧
        ((u.launch id).todo.filterMap (·.slot)).Nodup ∧
        (u.launch id).granules.length = (s.needs l).2 ∧
        (∀ g ∈ (u.launch id).granules, Tbl.find s.tasks.granules g = none ∧ g < s.edgeGranules) ∧
        u.tasks.slots = s.tasks.slots) ∧
    (∀ (p id : Nat) (l : Launch), s.started p = true → s.nextWaiter p = some id → Tbl.find s.jigs.launches id = some l →
      s.coldOf l = ([], []) → (∀ g ∈ (s.needs l).1, g.length = 1) → (s.needs l).1.length ≤ s.slotsFree →
      s.granulesHeld l.part + (s.needs l).2 ≤ s.edgePool l.part → (s.freeGranules (s.needs l).2).length = (s.needs l).2 →
      ∃ u, exec (.launchReserve p) s = .next (finished u) ∧ (u.launch id).phase = .creating ∧ Job.create id ∈ u.work ∧
        (u.launch id).todo.map (fun x => (x.node, x.inst)) = (s.needs l).1.flatten ∧
        (u.launch id).granules = s.freeGranules (s.needs l).2 ∧ u.tasks.slots = s.tasks.slots ∧ u.faults = s.faults) ∧
    (∀ (e pos gen : Nat) (o : HeaderOut), s.headerDue e pos gen = true →
      (s.exchange e).outs.find? (fun x => x.pos == pos && x.gen == gen) = some o →
      ∃ t, exec (.segmentResend e pos gen) s = .next (finished t) ∧
        (t.exchange e).outs = (s.exchange e).outs.map (fun x =>
          if x.pos == pos && x.gen == gen then { x with sent := true, since := some s.power.heart } else x) ∧
        (∀ dest, s.leafCode (s.recU tyExchange e 0 (32 + 2 * pos) 2) = some dest →
          let flit := routed o.content.toNat (s.route dest (s.exchPart e) false);
          (dest = s.selfCode → Job.segment flit none ∈ t.work ∧ t.ports = s.ports) ∧
          (∀ y, dest ≠ s.selfCode → s.nextHop dest = some y → s.hasPort y = true → y < s.ports.length →
            (t.port y).queue = (s.port y).queue ++ [{ cls := 2, pool := s.exchPart e, kind := 0x12, content := flit }])) ∧
        t.queues = s.queues ∧ t.faults = s.faults ∧ t.tasks = s.tasks ∧ t.serves = s.serves ∧ t.store = s.store)

/-- 03 R119, R120, R123, R125, R137: a launch record names a jig of the cache, or its directory entry is read; a record of kind
2 outside a RECV instance, or with a reserved bit set, raises FLT_JIG_NODE. The directory entry gives the address of the header,
or says that the slot holds no jig, which is FLT_JIG_NODE against the launches that wait; the header gives the length of the
rest. The body of a jig, once read, is the jig's cache entry, and the launches that waited for it go on. -/
def Obligations.JigDataArrive : Prop :=
  ∀ (s : State) (tag : Nat) (r : BedRead) (data : Granule), s.live → Tbl.find s.bed.reads tag = some r → s.lastGranule r →
    let w := s.gathered r data;
    (∀ (id a : Nat) (l : Launch), r.why = .launch id → Tbl.find s.jigs.launches id = some l → l.owner = .doorbell a →
      ∃ t, exec (.launchRecordArrive tag data false) s = .next (finished t) ∧
        (badRecord w false = true → ∃ e ∈ t.faults.unnumbered, e.value = fltJigNode) ∧
        (badRecord w false = false → recKind w = 0 → recJig w < s.build.jigSlots →
          (t.launch id).record = w ∧ (t.launch id).paramPtr = recParam w ∧
          ((Tbl.find s.jigs.cache (recJig w)).isSome = true → Job.launchPlan id ∈ t.work) ∧
          ((Tbl.find s.jigs.cache (recJig w)).isSome = false →
            (t.launch id).phase = .jig ∧ (Tbl.find t.jigs.filling (recJig w)).isSome = true))) ∧
    (∀ slot : Nat, r.why = .jigDir slot → s.jigs.stale.contains slot = false → (Tbl.find s.jigs.filling slot).isSome = true →
      ∃ t, exec (.jigCacheFill tag data false) s = .next (finished t) ∧ t.jigs.cache = s.jigs.cache ∧
        (bit w 52 = true → Tbl.find t.jigs.filling slot = some (fld w 0 52, none) ∧ t.jigs.launches = s.jigs.launches ∧
          ∃ v, t = issueRead (.jigHead slot) (fld w 0 52) 64 r.part r.ctx false v) ∧
        (bit w 52 = false → Tbl.find t.jigs.filling slot = none ∧
          (s.waitJig slot ≠ [] → ∃ e ∈ t.faults.unnumbered, e.value = fltJigNode))) ∧
    (∀ slot addr : Nat, r.why = .jigHead slot → s.jigs.stale.contains slot = false →
      Tbl.find s.jigs.filling slot = some (addr, none) →
      ∃ t, exec (.jigCacheFill tag data false) s = .next (finished t) ∧ t.jigs.cache = s.jigs.cache ∧
        Tbl.find t.jigs.filling slot = some (addr, some w) ∧ t.jigs.launches = s.jigs.launches ∧
        ∃ v, t = issueRead (.jigBody slot) (addr + 64) (32 * fld w 0 13 + 8 * fld w 16 14) r.part r.ctx false v) ∧
    (∀ (slot addr head : Nat), r.why = .jigBody slot → s.jigs.stale.contains slot = false →
      Tbl.find s.jigs.filling slot = some (addr, some head) →
      ∃ t, exec (.jigCacheFill tag data false) s = .next (finished t) ∧
        Tbl.find t.jigs.cache slot = some ⟨64 + s.wholeLen r, head + w * 2 ^ 512⟩ ∧
        Tbl.find t.jigs.filling slot = none ∧ (∀ id ∈ s.waitJig slot, Job.launchPlan id ∈ t.work) ∧
        (∀ k, k ≠ slot → Tbl.find t.jigs.cache k = Tbl.find s.jigs.cache k) ∧ t.jigs.launches = s.jigs.launches)

/-! ### Serving -/

/-- 07 R315 to R317, 01 R39, 04 R163: an intake frame waits while SW_SERVE is gated, and while the buffer has no room for the
records that its header declares, or an earlier frame or record waits; a bad frame is then dropped and counted, with
FLT_INTAKE_FRAME against no context; another puts its records into the buffer of the partition's home, in order, or sends them
down to it. A record that comes by the link goes into the buffer with its port, while there is room, or is passed on. -/
def Obligations.IntakeReachesTheBuffer : Prop :=
  (∀ (s : State) (header : Option (BitVec 256)) (beats : List (BitVec 256)), s.live →
    let c := Instr.intakeFrame header beats;
    let p := fld ((header.getD 0).toNat) 8 6;
    (s.runs swServe = false →
      ∃ t, exec c s = .next (finished t) ∧ t.held = s.held ++ [(swServe, c)] ∧
        t.power = { s.power with ungating := setAt s.power.ungating swServe true } ∧ t.outs = [] ∧
        { t with held := s.held, power := s.power, outs := s.outs, clock := s.clock } = s) ∧
    (s.runs swServe = true → s.held.any (fun h => h.1 == 9) = true ∨ 1024 < s.queues.intake.length + frameNeeds header →
      ∃ t, exec c s = .next (finished t) ∧ t.held = s.held ++ [(9, c)] ∧
        { t with held := s.held, power := s.power, outs := s.outs, clock := s.clock } = s) ∧
    (s.runs swServe = true → s.held.any (fun h => h.1 == 9) = false → s.queues.intake.length + frameNeeds header ≤ 1024 →
      (s.badFrame header beats.length = true →
        ∃ t, exec c s = .next (finished t) ∧
          t.queues = { s.queues with frameDrops := (s.queues.frameDrops + 1) % 2 ^ 64 } ∧
          (∃ e : FaultEntry, e.value = fltIntakeFrame ∧ e.scope = 0 ∧ e.source = srcBatch ∧
            t.faults = { s.faults with unnumbered := s.faults.unnumbered ++ [e] }) ∧
          { t with queues := s.queues, faults := s.faults, power := s.power, outs := s.outs, clock := s.clock } = s) ∧
      (s.badFrame header beats.length = false → s.isHome p = true →
        ∃ t, exec c s = .next (finished t) ∧
          t.queues.intake = s.queues.intake ++ (frameRecords beats).map (fun r => (p, r, none)) ∧
          (∀ r, (frameRecords beats).getLast? = some r → (t.hostq p).received = fld r.toNat 0 32) ∧
          (∀ k, k ≠ p → t.hostq k = s.hostq k) ∧
          { t with queues := s.queues, power := s.power, outs := s.outs, clock := s.clock } = s) ∧
      (∀ y, s.badFrame header beats.length = false → s.isHome p = false → s.nextHop (s.homeCode p) = some y →
        s.hasPort y = true → y < s.ports.length →
        ∃ t, exec c s = .next (finished t) ∧
          (t.port y).queue = (s.port y).queue ++ (frameRecords beats).map (fun r =>
            { cls := 0, pool := p, kind := 0x04, content := BitVec.ofNat 512 (r.toNat - put (fld r.toNat 42 6) 42 6 + put p 42 6) }) ∧
          (∀ z, z ≠ y → t.port z = s.port z) ∧ t.queues = s.queues ∧ t.faults = s.faults))) ∧
  (∀ (s : State) (x : Nat) (flit : Granule), s.live → s.receives x → x < s.ports.length → (s.port x).unacked < 31 →
    let p := fld flit.toNat 42 6;
    (s.isHome p = true → s.held.any (fun h => h.1 == 9) = true ∨ 1024 ≤ s.queues.intake.length →
      ∃ t, exec (.intake x flit) s = .next (finished t) ∧ t.held = s.held ++ [(9, .intake x flit)] ∧ t.queues = s.queues) ∧
    (s.isHome p = true → s.held.any (fun h => h.1 == 9) = false → s.queues.intake.length < 1024 →
      ∃ t, exec (.intake x flit) s = .next (finished t) ∧
        t.queues.intake = s.queues.intake ++ [(p, BitVec.ofNat 512 (flit.toNat - put p 42 6), some x)] ∧
        (t.port x).rx = setAt (s.port x).rx 0 (((s.port x).rx.getD 0 0 + 1) % 2 ^ 16) ∧
        { t with queues := s.queues, ports := s.ports, power := s.power, outs := s.outs, clock := s.clock } = s) ∧
    (∀ y, s.isHome p = false → s.nextHop (s.homeCode p) = some y → s.hasPort y = true → y ≠ x → y < s.ports.length →
      ∃ t, exec (.intake x flit) s = .next (finished t) ∧
        (t.port y).queue = (s.port y).queue ++
          [{ cls := 0, pool := p, kind := 0x04, content := flit, back := some (x, creditKey p 0 false) }] ∧
        { t with ports := s.ports, power := s.power, work := s.work, outs := s.outs, clock := s.clock } = s))

/-- 04 R169 to R175, for NEW_STREAM, APPEND_TOKENS, END_STREAM, CANCEL and SET_DEADLINE: a record that has been applied already
is counted and changes no stream; a record that is due and fails a check is counted and rejected, and changes no stream; one
that is due and passes acts on its stream as R174 says. A record that reveals a gap raises FLT_INTAKE_GAP and is then consumed
as if it were due. With write-through on, after a flush, a record counts when its updates have been accepted (13 R541). What a
NEW_STREAM finds at a context that is gone, and the scope of a gap, are read from the rules (log entry
82). -/
def Obligations.IntakeRecordsAct : Prop :=
  ∀ (s : State) (c : Instr) (p k : Nat) (r : BitVec 512), intakeType c = some (p, k) → s.live → s.recordReady p k r →
    (s.serve p).expected < 2 ^ 32 →
    let w := r.toNat;
    let i := fld w 64 20;
    let seq := fld w 0 32;
    let x := s.stream p i;
    let ahead := sub32 (s.serve p).expected seq;
    (1 ≤ ahead → ahead ≤ 2 ^ 31 →
      ∃ t, exec c s = .next (finished t) ∧
        t.serve p = { s.serve p with
          intakeDup := ((s.serve p).intakeDup + 1) % 2 ^ 64, uncached := (t.serve p).uncached, dirty := (t.serve p).dirty } ∧
        t.pages = s.pages ∧
        t.faults = s.faults ∧ t.queues.hostqs = s.queues.hostqs ∧
        (∀ n, s.nextRecord p = some n → t.queues.intake = s.queues.intake.eraseIdx n)) ∧
    (ahead = 0 ∨ 2 ^ 31 < ahead → s.power.writeThrough = true →
      ∃ t, exec c s = .next (finished t) ∧ (t.serve p).applying = some (seq, (s.checkIntake p w).isNone) ∧
        (t.serve p).expected = (s.serve p).expected ∧ (t.serve p).intakeApplied = (s.serve p).intakeApplied ∧
        (t.hostq p).consumed = (s.hostq p).consumed) ∧
    (ahead = 0 ∨ 2 ^ 31 < ahead → s.power.writeThrough = false → ∀ reason, s.checkIntake p w = some reason →
      ∃ t, exec c s = .next (finished t) ∧
        t.serve p = { s.serve p with
          expected := (seq + 1) % 2 ^ 32, intakeReject := ((s.serve p).intakeReject + 1) % 2 ^ 64
          uncached := (t.serve p).uncached, dirty := (t.serve p).dirty } ∧
        t.pages = s.pages ∧ (t.hostq p).consumed = seq ∧
        (ahead = 0 → t.faults = s.faults) ∧
        (ahead ≠ 0 → ∃ e : FaultEntry, e.value = fltIntakeGap ∧ e.partition = p ∧
          t.faults.unnumbered = s.faults.unnumbered ++ [e])) ∧
    (ahead = 0 ∨ 2 ^ 31 < ahead → s.power.writeThrough = false → s.checkIntake p w = none →
      ∃ t, exec c s = .next (finished t) ∧ (t.serve p).expected = (seq + 1) % 2 ^ 32 ∧
        (ahead = 0 → t.faults = s.faults) ∧
        (ahead ≠ 0 → ∃ e : FaultEntry, e.value = fltIntakeGap ∧ e.partition = p ∧
          t.faults.unnumbered = s.faults.unnumbered ++ [e]) ∧
        (∀ q j, q ≠ p ∨ j ≠ i → t.stream q j = s.stream q j) ∧
        (t.serve p).intakeApplied = ((s.serve p).intakeApplied + 1) % 2 ^ 64 ∧ (t.hostq p).consumed = seq ∧
        t.tasks = s.tasks ∧ t.image = s.image ∧
        (k = 1 →
          (t.stream p i).context = fld w 96 5 ∧ (t.stream p i).fallback = fld w 101 5 ∧ (t.stream p i).prio = fld w 106 4 ∧
          (t.stream p i).pending = fld w 128 24 ∧ (t.stream p i).genLeft = fld w 152 24 ∧
          (t.stream p i).tokenRing = fld w 176 40 ∧ (t.stream p i).ringLog2 = fld w 110 5 ∧
          (t.stream p i).intakeSeq = seq ∧
          (bit w 115 = false → (t.stream p i).position = 0 ∧ (t.stream p i).pageCount = 0) ∧
          (s.gone p (fld w 96 5) = false → s.gone p (fld w 101 5) = false → 0 < fld w 128 24 → (t.stream p i).state = 1)) ∧
        (k = 2 →
          (t.stream p i).pending = x.pending + fld w 128 24 ∧ (t.stream p i).genLeft = fld w 152 24 ∧
          (t.stream p i).intakeSeq = seq ∧ (t.stream p i).position = x.position ∧
          (x.state ≠ 4 → 0 < x.pending + fld w 128 24 → (t.stream p i).state = 1) ∧
          (x.state = 4 → (t.stream p i).state = 4)) ∧
        (k = 3 → (s.page p).outside = [] →
          ((x.state = 3 ∨ x.state = 4) ∧ x.inStep = false → t.stream p i = {}) ∧
          (¬ ((x.state = 3 ∨ x.state = 4) ∧ x.inStep = false) →
            t.stream p i = { x with closing := true, endSeq := seq, intakeSeq := seq })) ∧
        (k = 4 → (s.page p).outside = [] →
          (x.inStep = false → t.stream p i = {}) ∧
          (x.inStep = true → t.stream p i = { x with cancelled := true, endSeq := seq, intakeSeq := seq })) ∧
        (k = 5 → t.stream p i = { x with deadline := fld w 96 24, intakeSeq := seq }))

/-- 04 R177, R178, R193 to R196, R204: the end of a step, the step-rate floor, and the end of its digests, which waits while
updates of a step that is written through are on their way (13 R541). With a record that a cache lacks, the completion waits. 04
R178 step 6, R195, R196: the batch former. Where no step may be formed nothing changes; under DET a step waits for its fence;
without a candidate it sleeps; a step block that is not released holds the step; else the formation starts, with its step clock,
its budget and its bank of the cost tables (04 R198; 13 R536; 11 R469), waits for what the caches lack and for free slots, and
the step is formed. The moments of formation are read from the rules (log entries 69 and 83). -/
def Obligations.StepsAreFormedAndEnd : Prop :=
  (∀ (s : State) (p : Nat), s.live →
    (∀ results : List (BitVec 32), s.stepOver p = true → results.length = (s.serve p).entries.length →
      (s.serve p).misses.contains 2 = false →
      let streams := (s.serve p).entries.map (·.stream);
      (fillFor p 2 streams (s.pagesOfAll p streams) s = none →
        ∃ t, exec (.stepComplete p results) s = .next (finished t) ∧ (t.serve p).running = false ∧
          (t.serve p).entries = [] ∧ (t.serve p).sections = [] ∧ (t.serve p).next = (s.serve p).next ∧
          (t.serve p).stepCount = ((s.serve p).stepCount + 1) % 2 ^ 64 ∧
          (t.serve p).modelClock = ((s.serve p).modelClock + (s.serve p).dModel) % 2 ^ 32 ∧
          (∃ d : StepDone, d.step = (s.serve p).step ∧ d.block = (s.serve p).step % s.stepBlocks p ∧
            (t.serve p).done = (s.serve p).done ++ [d]) ∧
          (s.detOf p = true → (t.det p).asked = true) ∧ (t.det p).boundary = (s.det p).boundary) ∧
      (fillFor p 2 streams (s.pagesOfAll p streams) s ≠ none →
        ∃ t, exec (.stepComplete p results) s = .next (finished t) ∧ (t.serve p).misses.contains 2 = true ∧
          (t.serve p).results = results ∧ (t.serve p).entries = (s.serve p).entries ∧ (t.serve p).running = true ∧
          t.dets = s.dets)) ∧
    ((s.serve p).floorDone = false → (s.serve p).formedAt + 40000 ≤ s.power.heart →
      ∃ t, exec (.stepFloorExpire p) s = .next (finished t) ∧ t.serve p = { s.serve p with floorDone := true } ∧
        (∀ q, q ≠ p → t.serve q = s.serve q) ∧ t.outs = [] ∧
        { t with serves := s.serves, power := s.power, outs := s.outs, clock := s.clock } = s) ∧
    (∀ (d : StepDone) (rest : List StepDone), (s.serve p).done = d :: rest →
      s.power.writeThrough = false ∨ s.writingBack p = false →
      ∃ t, exec (.digestDone p) s = .next (finished t) ∧ (t.serve p).done = rest ∧
        (t.serve p).streams = (s.serve p).streams ∧
        (s.hasHostq p = false → (s.serve p).autoRelease = true →
          (t.serve p).blocks = (s.serve p).blocks.filter (fun b => b.2 != d.step)) ∧
        (s.hasHostq p = true ∨ (s.serve p).autoRelease = false → (t.serve p).blocks = (s.serve p).blocks) ∧
        t.tasks = s.tasks ∧ t.image = s.image)) ∧
  (∀ (s : State) (p : Nat), s.live →
    (s.formMay p = false → exec (.stepForm p) s = .next { s with outs := [], clock := s.clock + 1 }) ∧
    (s.formMay p = true → (s.serve p).forming = none →
      let late := sub32 (s.serve p).fenceSeq (s.serve p).expected < 2 ^ 31;
      let same (t : State) : Prop := (∀ q, q ≠ p → t.serve q = s.serve q) ∧ t.tasks = s.tasks ∧ t.pages = s.pages;
      (s.detOf p = true → s.fenced p = false ∨ late →
        ∃ t, exec (.stepForm p) s = .next (finished t) ∧ t.serve p = { s.serve p with fenceWait := true } ∧ same t) ∧
      (s.detOf p = false → s.queued p = [] →
        ∃ t, exec (.stepForm p) s = .next (finished t) ∧
          t.serve p = { s.serve p with fenceWait := false, releaseWait := false } ∧ same t) ∧
      ((s.detOf p = true → s.fenced p = true ∧ ¬ late) → (s.detOf p = false → s.queued p ≠ []) →
        (Tbl.find (s.serve p).blocks ((s.serve p).next % s.stepBlocks p)).isSome = true →
        ∃ t, exec (.stepForm p) s = .next (finished t) ∧
          t.serve p = { s.serve p with fenceWait := false, releaseWait := true } ∧ same t)) ∧
    (s.formMay p = true →
      ((s.serve p).forming.isSome = true ∨
        Tbl.find (s.serve p).blocks ((s.serve p).next % s.stepBlocks p) = none ∧
          (s.detOf p = true → s.fenced p = true ∧ 2 ^ 31 ≤ sub32 (s.serve p).fenceSeq (s.serve p).expected) ∧
          (s.detOf p = false → s.queued p ≠ [])) →
      let streams := (s.admission p).entries.map (·.stream);
      let start : Forming := { clock := s.stepClock p, budget := s.budgetC p, bank := s.activeBank (tableOf tyCost) };
      (fillFor p 1 (s.queued p) [] s ≠ none →
        ∃ t, exec (.stepForm p) s = .next (finished t) ∧ (t.serve p).misses.contains 1 = true ∧ (t.serve p).running = false ∧
          (t.serve p).forming = some ((s.serve p).forming.getD start) ∧ t.tasks = s.tasks) ∧
      (fillFor p 1 (s.queued p) [] s = none → s.detOf p = false → (s.admission p).entries = [] →
        ∃ t, exec (.stepForm p) s = .next (finished t) ∧ (t.serve p).forming = none ∧ (t.serve p).running = false ∧
          (t.serve p).next = (s.serve p).next ∧ t.tasks = s.tasks ∧ t.pages = s.pages) ∧
      (fillFor p 1 (s.queued p) [] s = none → s.detOf p = true ∨ (s.admission p).entries ≠ [] →
        (fillFor p 1 streams (s.pagesOfAll p streams) s ≠ none →
          ∃ t, exec (.stepForm p) s = .next (finished t) ∧ (t.serve p).misses.contains 1 = true ∧ (t.serve p).running = false ∧
            (t.serve p).forming = some ((s.serve p).forming.getD start) ∧ t.tasks = s.tasks) ∧
        (fillFor p 1 streams (s.pagesOfAll p streams) s = none →
          (s.slotsFree < (dedup ((s.admission p).entries.map (·.ctx))).length →
            ∃ t, exec (.stepForm p) s = .next (finished t) ∧ (t.serve p).running = false ∧
              (t.serve p).forming = some ((s.serve p).forming.getD start) ∧ t.tasks = s.tasks ∧ t.pages = s.pages) ∧
          ((dedup ((s.admission p).entries.map (·.ctx))).length ≤ s.slotsFree →
            ∃ t, exec (.stepForm p) s = .next (finished t) ∧ (t.serve p).running = true ∧ (t.serve p).forming = none ∧
              (t.serve p).step = (s.serve p).next ∧ (t.serve p).next = ((s.serve p).next + 1) % 2 ^ 32 ∧
              (t.serve p).entries.length = (blockOrder (s.admission p).entries).length ∧
              (t.serve p).totalC = (s.admission p).c ∧ (t.serve p).totalM = (s.admission p).m ∧
              (t.serve p).tForm = ((s.serve p).forming.getD start).clock ∧
              (s.detOf p = false → (t.det p).boundary = (s.serve p).next) ∧ (s.detOf p = true → t.det p = s.det p) ∧
              (s.formBudget p ≠ 0 → s.budgetM p ≠ 0 → (t.serve p).dModel = s.modelUs p (s.admission p)) ∧
              Tbl.find (t.serve p).blocks ((s.serve p).next % s.stepBlocks p) = some (s.serve p).next)))))

/-- 05 R221, R233, R234, R236, R241: what the final status of a page's move leaves. -/
def Obligations.PageMoveEnds : Prop :=
  ∀ (s : State) (p k status : Nat) (poison : Bool) (m : Move), s.live → Tbl.find (s.page p).moves k = some m →
    m.fin = some (status, poison) →
    let ok := status == stOk && !poison;
    let e := s.entry p k;
    ∃ t, exec (.moveComplete p k) s = .next (finished t) ∧ Tbl.find (t.page p).moves k = none ∧
      (e.refcount = 0 → t.entry p k = {} ∧ (t.page p).freed = ((s.page p).freed + 1) % 2 ^ 64) ∧
      (e.refcount ≠ 0 → (t.page p).freed = (s.page p).freed ∧
        (ok = true → (m.why ≠ 1 ∨ e.wanted = false) →
          t.entry p k = { e with state := 1, tier := m.dstTier, location := m.dst }) ∧
        (ok = true → m.why = 1 → e.wanted = true →
          t.entry p k = { e with state := 1, tier := m.srcTier, location := m.src, wanted := false }) ∧
        (ok = false → t.entry p k = { e with state := 1, tier := m.srcTier, location := m.src, wanted := false })) ∧
      (ok = true → m.why ≠ 1 → (t.page p).ins = ((s.page p).ins + 1) % 2 ^ 64) ∧
      (ok = true → m.why = 1 → e.wanted = false → (t.page p).outs = ((s.page p).outs + 1) % 2 ^ 64) ∧
      (ok = true → t.faults = s.faults) ∧
      (ok = false → ∃ f : FaultEntry, f.value = fltPageMove ∧ f.partition = p ∧ f.context = m.ctx ∧ f.detail = k % 2 ^ 32 ∧
        t.faults.unnumbered = s.faults.unnumbered ++ [f]) ∧
      (∀ j, j ≠ k → t.entry p j = s.entry p j) ∧ t.serves = s.serves ∧ t.tasks = s.tasks ∧ t.image = s.image

/-! ### Synchronisation -/

/-- 01 R39, 06 R267, R276; 12 R489: a request on a lane waits while SW_SYNC is gated, and while a dump runs; else it takes
effect, which the statements below describe. 06 R246, R251: a synchronisation request that fails a check is answered with the
fault, which is entered against the context that the request names; the objects and the waiters stay. -/
def Obligations.LaneRequestsWaitActOrFail : Prop :=
  (∀ (s : State) (c : Instr) (src : Nat) (wire : Bool) (act : State → State), laneOf c = some (src, wire, act) → s.live →
    s.hasLane src = true → (wire = true → s.hasWire src = true) →
    (s.runs swSync = false →
      ∃ t, exec c s = .next (finished t) ∧ t.held = s.held ++ [(swSync, c)] ∧
        t.power = { s.power with ungating := setAt s.power.ungating swSync true } ∧ t.outs = [] ∧
        { t with held := s.held, power := s.power, outs := s.outs, clock := s.clock } = s) ∧
    (s.runs swSync = true → s.sync.dumpBusy = true →
      ∃ t, exec c s = .next (finished t) ∧ t.held = s.held ++ [(8, c)] ∧ t.outs = [] ∧
        { t with held := s.held, outs := s.outs, clock := s.clock } = s) ∧
    (s.runs swSync = true → s.sync.dumpBusy = false → exec c s = .next (finished (act s.begun)))) ∧
  (∀ (s : State) (op src : Nat) (req : BitVec 128) (f : Nat), op ≤ 8 →
    let r := laneReq op req;
    s.laneOpen src → s.hasWire src = true → s.remoteReq r = false → s.syncCheck src r = some f →
    ∃ t, exec (syncCmd op src req) s = .next (finished t) ∧ t.sync = s.sync ∧ t.outs = [.response 0 src respFault f 0] ∧
      (∃ e : FaultEntry, e.value = f ∧ e.partition = r.part ∧ e.context = r.ctx ∧ e.source = srcSync ∧
        e.detail = (r.object + (if r.kind then 2 ^ 16 else 0)) % 2 ^ 32 ∧
        t.faults = { s.faults with unnumbered := s.faults.unnumbered ++ [e] }) ∧
      t.tasks = s.tasks ∧ t.image = s.image ∧ t.store = s.store)

/-- 06 R252 to R256, R265 (the value that SIGNAL answers is the model's choice, log entry 14): the operations on semaphores,
from a requester that waits for nothing and holds no pending grant; and R255, the WAIT that takes a pending grant. -/
def Obligations.SemaphoreOperations : Prop :=
  ∀ (s : State) (src : Nat) (req : BitVec 128),
    (let r := laneReq 0 req;
      let x := s.sem r.object;
      s.syncReady 0 src r → (s.waiter src).state = 0 →
      (x.max < x.value + x.granted + r.n →
        ∃ t, exec (.signal src req) s = .next (finished t) ∧ t.sync = s.sync ∧
          t.outs = [.response 0 src respFault fltSemOverflow x.value] ∧
          ∃ e : FaultEntry, e.value = fltSemOverflow ∧ t.faults.unnumbered = s.faults.unnumbered ++ [e]) ∧
      (x.value + x.granted + r.n ≤ x.max →
        (x.queue = [] →
          ∃ t, exec (.signal src req) s = .next (finished t) ∧ (t.sem r.object).value = x.value + r.n ∧
            (t.sem r.object).granted = x.granted ∧ (t.sem r.object).queue = [] ∧ (t.sem r.object).lastSig = src ∧
            (t.sem r.object).lastSrc = s.selfCode ∧
            (Tbl.at (t.sem r.object).holds r.ctx (0, 0)).1 = (Tbl.at x.holds r.ctx (0, 0)).1 - r.n ∧
            t.outs = [.response 0 src respDone 0 (x.value + r.n)] ∧
            (∀ j, j ≠ r.object → t.sem j = s.sem j) ∧ t.sync.bars = s.sync.bars ∧ t.sync.waiters = s.sync.waiters ∧
            syncFrame s t) ∧
        (∀ id, x.queue = [id] → (s.waiter id).n ≤ x.value + r.n →
          ∃ t, exec (.signal src req) s = .next (finished t) ∧
            (t.sem r.object).value = x.value + r.n - (s.waiter id).n ∧
            (t.sem r.object).granted = x.granted + (s.waiter id).n ∧ (t.sem r.object).queue = [] ∧
            t.waiter id = { s.waiter id with state := 2 } ∧
            t.outs = (if s.hasWire id then [.wake id] else []) ++
              [.response 0 src respDone 0 (x.value + r.n - (s.waiter id).n)] ∧
            (∀ j, j ≠ r.object → t.sem j = s.sem j) ∧ t.sync.bars = s.sync.bars ∧ syncFrame s t))) ∧
    (let r := laneReq 1 req;
      let x := s.sem r.object;
      s.syncReady 1 src r →
      ((s.waiter src).state = 0 → r.n ≤ x.value → x.queue = [] →
        ∃ t, exec (.wait src req) s = .next (finished t) ∧ (t.sem r.object).value = x.value - r.n ∧
          (t.sem r.object).granted = x.granted ∧ (t.sem r.object).queue = [] ∧
          (x.shared = true → (Tbl.at (t.sem r.object).holds r.ctx (0, 0)).1 = (Tbl.at x.holds r.ctx (0, 0)).1 + r.n) ∧
          t.outs = [.response 0 src respGranted 0 (x.value - r.n)] ∧
          (∀ j, j ≠ r.object → t.sem j = s.sem j) ∧ t.sync.waiters = s.sync.waiters ∧ syncFrame s t) ∧
      ((s.waiter src).state = 0 → x.value < r.n ∨ x.queue ≠ [] →
        ∃ t, exec (.wait src req) s = .next (finished t) ∧ (t.sem r.object).value = x.value ∧
          (s.detOf x.part = false → (t.sem r.object).queue = x.queue ++ [src]) ∧
          (s.detOf x.part = true → (t.sem r.object).queue = insertBy (fun a b => decide (a ≤ b)) src x.queue) ∧
          t.waiter src = { state := 1, kind := 0, object := r.object, n := r.n, ctx := r.ctx, gen := 0 } ∧
          (∀ id, id ≠ src → t.waiter id = s.waiter id) ∧ t.outs = [.response 0 src respSleep 0 x.value] ∧
          (∀ j, j ≠ r.object → t.sem j = s.sem j) ∧ syncFrame s t) ∧
      ((s.waiter src).state = 2 → (s.waiter src).object = r.object → (s.waiter src).n = r.n →
        ∃ t, exec (.wait src req) s = .next (finished t) ∧ (t.sem r.object).value = x.value ∧
          (t.sem r.object).granted = x.granted - r.n ∧ t.waiter src = {} ∧
          t.outs = [.response 0 src respGranted 0 x.value] ∧ (∀ j, j ≠ r.object → t.sem j = s.sem j) ∧ syncFrame s t)) ∧
    (let r := laneReq 2 req;
      let x := s.sem r.object;
      s.syncReady 2 src r → (s.waiter src).state = 0 →
      (r.n ≤ x.value → x.queue = [] →
        ∃ t, exec (.tryTake src req) s = .next (finished t) ∧ (t.sem r.object).value = x.value - r.n ∧
          (x.shared = true → (Tbl.at (t.sem r.object).holds r.ctx (0, 0)).1 = (Tbl.at x.holds r.ctx (0, 0)).1 + r.n) ∧
          t.outs = [.response 0 src respGranted 0 (x.value - r.n)] ∧
          (∀ j, j ≠ r.object → t.sem j = s.sem j) ∧ t.sync.waiters = s.sync.waiters ∧ syncFrame s t) ∧
      (x.value < r.n ∨ x.queue ≠ [] →
        ∃ t, exec (.tryTake src req) s = .next (finished t) ∧ (t.sem r.object).value = x.value ∧
          (t.sem r.object).queue = x.queue ∧ (t.sem r.object).holds = x.holds ∧
          t.outs = [.response 0 src respRefused 0 x.value] ∧
          (∀ j, j ≠ r.object → t.sem j = s.sem j) ∧ t.sync.waiters = s.sync.waiters ∧ syncFrame s t)) ∧
    (let r := laneReq 3 req;
      let x := s.sem r.object;
      s.syncReady 3 src r → (s.waiter src).state = 0 →
      (r.n ≤ x.value →
        ∃ t, exec (.take src req) s = .next (finished t) ∧ (t.sem r.object).value = x.value - r.n ∧
          (t.sem r.object).queue = x.queue ∧
          (x.shared = true → (Tbl.at (t.sem r.object).holds r.ctx (0, 0)).1 = (Tbl.at x.holds r.ctx (0, 0)).1 + r.n) ∧
          t.outs = [.response 0 src respDone 0 (x.value - r.n)] ∧
          (∀ j, j ≠ r.object → t.sem j = s.sem j) ∧ t.sync.waiters = s.sync.waiters ∧ syncFrame s t) ∧
      (x.value < r.n →
        ∃ t, exec (.take src req) s = .next (finished t) ∧ t.sync = s.sync ∧
          t.outs = [.response 0 src respFault fltSemUnderflow x.value] ∧
          ∃ e : FaultEntry, e.value = fltSemUnderflow ∧ t.faults.unnumbered = s.faults.unnumbered ++ [e])) ∧
    (let r := laneReq 8 req;
      s.syncReady 8 src r → (s.waiter src).state = 0 →
      ∃ t, exec (.syncRead src req) s = .next (finished t) ∧
        t.sync = { s.sync with requests := (s.sync.requests + 1) % 2 ^ 64, sleeps := s.sync.sleeps % 2 ^ 64 } ∧
        t.outs = [.response 0 src respDone 0 (if r.kind then (s.bar r.object).gen else (s.sem r.object).value)] ∧
        syncFrame s t)

/-- 06 R258 to R262, R268, 08 R351: the operations on barriers from a requester that waits for nothing, and SWITCH. -/
def Obligations.BarrierOperations : Prop :=
  ∀ (s : State) (src : Nat) (req : BitVec 128),
    (∀ (op : Nat) (c : Instr), (op = 4 ∧ c = .arrive src req ∨ op = 5 ∧ c = .arriveWait src req) →
      let r := laneReq op req;
      let x := s.bar r.object;
      s.syncReady op src r → (s.waiter src).state = 0 →
      (s.participant src none r = none ∨ (∃ q, s.participant src none r = some q ∧ bit x.members q = false) →
        ∃ t, exec c s = .next (finished t) ∧ t.sync = s.sync ∧ t.outs = [.response 0 src respFault fltBarrierMember 0] ∧
          ∃ e : FaultEntry, e.value = fltBarrierMember ∧ t.faults.unnumbered = s.faults.unnumbered ++ [e]) ∧
      (∀ q, s.participant src none r = some q → bit x.members q = true →
        (bit x.cur q = true → bit x.next q = true →
          ∃ t, exec c s = .next (finished t) ∧ t.sync = s.sync ∧ t.outs = [.response 0 src respFault fltBarrierLap 0] ∧
            ∃ e : FaultEntry, e.value = fltBarrierLap ∧ t.faults.unnumbered = s.faults.unnumbered ++ [e]) ∧
        (bit x.cur q = true → bit x.next q = false →
          let g := (x.gen + 1) % 2 ^ 32;
          ∃ t, exec c s = .next (finished t) ∧ (t.bar r.object).cur = x.cur ∧ (t.bar r.object).next = setBit x.next q ∧
            (t.bar r.object).gen = x.gen ∧
            t.outs = [.response 0 src (if op = 4 then respDone else respSleep) 0 g] ∧
            (op = 4 → t.sync.waiters = s.sync.waiters ∧ (t.bar r.object).queue = x.queue) ∧
            (op = 5 → t.waiter src = { state := 1, kind := 1, object := r.object, n := 0, ctx := r.ctx, gen := g } ∧
              (t.bar r.object).queue = x.queue ++ [src]) ∧
            (∀ j, j ≠ r.object → t.bar j = s.bar j) ∧ t.sync.sems = s.sync.sems ∧ syncFrame s t) ∧
        (bit x.cur q = false → popCount (setBit x.cur q) 512 ≠ popCount x.members 512 →
          ∃ t, exec c s = .next (finished t) ∧ (t.bar r.object).cur = setBit x.cur q ∧ (t.bar r.object).next = x.next ∧
            (t.bar r.object).gen = x.gen ∧
            t.outs = [.response 0 src (if op = 4 then respDone else respSleep) 0 x.gen] ∧
            (op = 4 → t.sync.waiters = s.sync.waiters ∧ (t.bar r.object).queue = x.queue) ∧
            (op = 5 → t.waiter src = { state := 1, kind := 1, object := r.object, n := 0, ctx := r.ctx, gen := x.gen } ∧
              (t.bar r.object).queue = x.queue ++ [src]) ∧
            (∀ j, j ≠ r.object → t.bar j = s.bar j) ∧ t.sync.sems = s.sync.sems ∧ syncFrame s t) ∧
        (bit x.cur q = false → popCount (setBit x.cur q) 512 = popCount x.members 512 →
          (x.queue = [] →
            ∃ t, exec c s = .next (finished t) ∧ (t.bar r.object).cur = x.next ∧ (t.bar r.object).next = 0 ∧
              (t.bar r.object).gen = (x.gen + 1) % 2 ^ 32 ∧ (t.bar r.object).tainted = false ∧
              t.outs = [.response 0 src (if op = 4 then respDone else respGranted) 0 x.gen] ∧
              t.sync.waiters = s.sync.waiters ∧ (∀ j, j ≠ r.object → t.bar j = s.bar j) ∧ t.sync.sems = s.sync.sems ∧
              syncFrame s t) ∧
          (∀ id, x.queue = [id] → (s.waiter id).gen = x.gen →
            ∃ t, exec c s = .next (finished t) ∧ (t.bar r.object).gen = (x.gen + 1) % 2 ^ 32 ∧
              (t.bar r.object).queue = [] ∧ t.waiter id = {} ∧
              t.outs = (if s.hasWire id then [.wake id] else []) ++
                [.response 0 src (if op = 4 then respDone else respGranted) 0 x.gen])))) ∧
    (let r := laneReq 6 req;
      let x := s.bar r.object;
      s.syncReady 6 src r → (s.waiter src).state = 0 →
      (1 ≤ sub32 x.gen r.generation → sub32 x.gen r.generation ≤ 2 ^ 31 →
        ∃ t, exec (.bwait src req) s = .next (finished t) ∧ t.sync.bars = s.sync.bars ∧ t.sync.sems = s.sync.sems ∧
          t.sync.waiters = s.sync.waiters ∧ t.outs = [.response 0 src respGranted 0 x.gen] ∧ syncFrame s t) ∧
      (sub32 x.gen r.generation = 0 ∨ 2 ^ 31 < sub32 x.gen r.generation →
        ∃ t, exec (.bwait src req) s = .next (finished t) ∧
          t.bar r.object = { x with queue := x.queue ++ [src] } ∧
          t.waiter src = { state := 1, kind := 1, object := r.object, n := 0, ctx := r.ctx, gen := r.generation } ∧
          (∀ id, id ≠ src → t.waiter id = s.waiter id) ∧ t.outs = [.response 0 src respSleep 0 x.gen] ∧
          (∀ j, j ≠ r.object → t.bar j = s.bar j) ∧ t.sync.sems = s.sync.sems ∧ syncFrame s t)) ∧
    (let r := laneReq 7 req;
      s.laneOpen src → s.hasWire src = true → r.op = 7 → s.remoteReq r = false →
      ((s.waiter src).state = 0 →
        ∃ t, exec (.switchCtx src req) s = .next (finished t) ∧ t.sync.sems = s.sync.sems ∧ t.sync.bars = s.sync.bars ∧
          t.sync.waiters = s.sync.waiters ∧ t.outs = [.response 0 src respDone 0 0] ∧
          t.ctxs.windows = s.ctxs.windows.filter (fun w => w.src != src) ∧ t.ctxs.runs = s.ctxs.runs) ∧
      ((s.waiter src).state = 1 → (s.waiter src).kind = 1 →
        ∃ t, exec (.switchCtx src req) s = .next (finished t) ∧ t.waiter src = {} ∧
          (t.bar (s.waiter src).object).queue = (s.bar (s.waiter src).object).queue.filter (· != src) ∧
          t.sync.sems = s.sync.sems ∧ t.outs = [.response 0 src respDone 0 0]))

/-- 06 R270 to R274, R276, R283: a remote request joins the queue of the port toward its target; where that child has been lost
it is dropped and counted (08 R366). At the target one for an object that is not remote is refused, and a SIGNAL of a remote
semaphore acts; behind a dump it waits, and so it does behind messages of its sender that are still being written (07 R300); and
the end of a dump: what it held goes on, and the snapshot is forgotten. Which messages a remote request waits for is read from
the rules (log entry 89). -/
def Obligations.RemoteRequestsAndDumps : Prop :=
  (∀ (s : State) (src y : Nat) (req : BitVec 128),
    let r := laneReq 0 req;
    s.laneOpen src → s.hasWire src = true → r.op = 0 → r.kind = false → r.n ≠ 0 → (s.waiter src).state ≠ 2 →
    s.remoteReq r = true → s.nextHop r.dest = some y → s.connected y = true → y < s.ports.length →
    s.sendsAhead r.part y = [] →
    ∃ t, exec (.signal src req) s = .next (finished t) ∧ t.outs = [.response 0 src respDone 0 0] ∧
      ((s.port y).lost = false →
        (t.port y).queue = (s.port y).queue ++
          [{ cls := 2, pool := r.part, kind := 0x10
             content := BitVec.ofNat 512 { r with requester := src, src := s.selfCode }.word }] ∧
        t.sync = s.sync) ∧
      ((s.port y).lost = true → t.ports = s.ports ∧ t.sync = s.sync ∧
        (y ≠ 0 → (t.slice r.part).remoteLost = ((s.slice r.part).remoteLost + 1) % 2 ^ 64) ∧
        (y = 0 → t.ctxs = s.ctxs)) ∧
      t.faults = s.faults ∧ t.sync.sems = s.sync.sems) ∧
  (∀ (s : State) (x : Nat) (flit : Granule), s.live → s.receives x →
    let r := syncReqOf (fld flit.toNat 0 128);
    let o := s.sem r.object;
    r.dest = s.selfCode →
    (s.unwritten r.part r.src ≠ [] →
      ∃ t, exec (.remoteSync x flit) s = .next (finished t) ∧
        t.sync = { s.sync with
          remoteIn := s.sync.remoteIn ++ [{ flit := flit, port := x, behind := s.unwritten r.part r.src }] }) ∧
    (s.unwritten r.part r.src = [] → s.sync.dumpBusy = true →
      ∃ t, exec (.remoteSync x flit) s = .next (finished t) ∧ t.held = s.held ++ [(8, .remoteSync x flit)] ∧
        t.sync = s.sync) ∧
    (s.unwritten r.part r.src = [] → s.sync.dumpBusy = false → r.op = 0 →
      (s.syncCheck idRemote r = some fltSyncRemote →
        ∃ t, exec (.remoteSync x flit) s = .next (finished t) ∧ t.sync = s.sync ∧
          ∃ e : FaultEntry, e.value = fltSyncRemote ∧ e.partition = r.part ∧ t.faults.unnumbered = s.faults.unnumbered ++ [e]) ∧
      (s.syncCheck idRemote r = none → s.frozen r = false → (s.waiter idRemote).state = 0 → o.queue = [] →
        o.value + o.granted + r.n ≤ o.max →
        ∃ t, exec (.remoteSync x flit) s = .next (finished t) ∧ (t.sem r.object).value = o.value + r.n ∧
          (t.sem r.object).lastSrc = r.src ∧ t.sync.remoteApplied = (s.sync.remoteApplied + 1) % 2 ^ 64 ∧
          t.faults = s.faults ∧ (∀ j, j ≠ r.object → t.sem j = s.sem j)))) ∧
  (∀ (s : State) (err : Bool), s.live → s.sync.dumpBusy = true → s.held.all (fun h => h.1 != 8) = true →
    s.sync.notifies = [] →
    ∃ t, exec (.syncDumpDone err) s = .next (finished t) ∧
      t.sync = { s.sync with
        dumpBusy := false, dumpError := err, dumps := if err then s.sync.dumps else (s.sync.dumps + 1) % 2 ^ 32
        snapSems := [], snapBars := [] } ∧
      (err = false → t.faults = s.faults) ∧
      (err = true → ∃ e : FaultEntry, e.value = fltBedWrite ∧ e.scope = 0 ∧ e.source = srcSync ∧
        t.faults = { s.faults with unnumbered := s.faults.unnumbered ++ [e] }) ∧
      t.held = s.held ∧ t.tasks = s.tasks ∧ t.image = s.image)

/-! ### Channels, queues, host rings -/

/-- 07 R287 to R290: a send that fails a check is answered with its fault; one with an in-flight place gets the channel's next
number; without one it is refused and counted. 07 R295 to R299: a message that has been written is counted, and a record without
a handler is freed, while a handler is launched; but behind an earlier message of its sender that is not settled yet it waits.
An ANSWER, or its absence for the link timeout, which is a NACK with LINK, ends the send that it names: the outcome word is
written; after a NACK on a resend channel the message will go again instead. A segment header that is answered gives up its
in-flight place; one that is NACKed, or not answered in time, will go again and keeps it (03 R144). An answer to no send has no
effect. -/
def Obligations.SendsAndOutcomes : Prop :=
  (∀ (s : State) (src : Nat) (req : BitVec 128), s.laneOpen src →
    let w := req.toNat;
    let ch := fld w 0 12;
    (∀ f, s.checkSend src w = some f →
      ∃ t, exec (.send src req) s = .next (finished t) ∧ t.queues = s.queues ∧ t.outs = [.response 1 src respFault f 0] ∧
        ∃ e : FaultEntry, e.value = f ∧ e.partition = fld w 55 6 ∧ e.context = fld w 61 5 ∧
          t.faults.unnumbered = s.faults.unnumbered ++ [e]) ∧
    (s.checkSend src w = none → s.inFlight ch < 64 →
      ∃ t, exec (.send src req) s = .next (finished t) ∧
        (t.chan ch).nextSeq = ((s.chan ch).nextSeq + 1) % 2 ^ 32 ∧
        (∃ m : Sending, m.seq = (s.chan ch).nextSeq ∧ m.handler = fld w 25 10 ∧ m.landing = fld w 35 20 ∧
          m.length = fld w 12 13 ∧ m.src = fld w 66 52 ∧ m.requester = src ∧ m.payload = none ∧
          (t.chan ch).sends = (s.chan ch).sends ++ [m]) ∧
        t.outs.head? = some (.response 1 src respDone 0 (s.chan ch).nextSeq) ∧
        (∀ k, k ≠ ch → t.chan k = s.chan k) ∧ t.faults = s.faults ∧ t.tasks = s.tasks ∧ t.sync = s.sync) ∧
    (s.checkSend src w = none → 64 ≤ s.inFlight ch →
      ∃ t, exec (.send src req) s = .next (finished t) ∧
        t.chan ch = { s.chan ch with stalls := ((s.chan ch).stalls + 1) % 2 ^ 64 } ∧
        t.outs = [.response 1 src respRefused 0 0] ∧ (∀ k, k ≠ ch → t.chan k = s.chan k) ∧ t.faults = s.faults)) ∧
  (∀ (s : State) (ch seq : Nat), s.live →
    (∀ (m : RingMsg) (pre post : List RingMsg), (s.chan ch).ring = pre ++ m :: post → RingMsg.inWriting seq m = true →
      (∀ x ∈ pre, RingMsg.inWriting seq x = false) → (∀ x ∈ pre ++ post, x.landed = true → x.isOpen = false) →
      ((∃ x ∈ pre, x.isOpen = true ∧ x.back = m.back ∧ x.sendChan = m.sendChan) →
        ∃ t, exec (.messageRingWritten ch seq) s = .next (finished t) ∧
          t.chan ch = { s.chan ch with ring := pre ++ { m with landed := true } :: post } ∧
          (∀ k, k ≠ ch → t.chan k = s.chan k) ∧ t.jigs = s.jigs ∧ t.faults = s.faults) ∧
      ((∀ x ∈ pre, x.isOpen = true → x.back = m.back → x.sendChan ≠ m.sendChan) → m.dropped = false →
        ∃ t, exec (.messageRingWritten ch seq) s = .next (finished t) ∧
          (t.chan ch).msgs = ((s.chan ch).msgs + 1) % 2 ^ 64 ∧ (t.chan ch).nacks = (s.chan ch).nacks ∧
          (m.handler = 0x3FF → t.jigs.nextLaunch = s.jigs.nextLaunch ∧
            (s.chAddressed ch = true → (t.chan ch).ring.length + 1 = (s.chan ch).ring.length)) ∧
          (m.handler ≠ 0x3FF → t.jigs.nextLaunch = s.jigs.nextLaunch + 1))) ∧
    (s.answerLate ch seq = false → ∀ (e : Nat) (o : HeaderOut), s.lateExchanges ch seq = [e] → (s.exchange e).outs = [o] →
      ∃ t, exec (.answerTimeout ch seq) s = .next (finished t) ∧
        (t.exchange e).outs = [{ o with sent := false, since := some s.power.heart }] ∧
        (t.chan ch).nacks = ((s.chan ch).nacks + 1) % 2 ^ 64 ∧ t.faults = s.faults) ∧
    (s.answerLate ch seq = true →
      (s.chResend ch = true →
        ∃ t, exec (.answerTimeout ch seq) s = .next (finished t) ∧
          t.chan ch = { s.chan ch with
            nacks := ((s.chan ch).nacks + 1) % 2 ^ 64, msgs := (s.chan ch).msgs % 2 ^ 64
            sends := (s.chan ch).sends.map (fun m =>
              if m.seq == seq then { m with sent := false, resendAt := some s.power.heart } else m) } ∧
          (∀ k, k ≠ ch → t.chan k = s.chan k) ∧ t.outs = [] ∧ t.faults = s.faults ∧ t.dets = s.dets) ∧
      (s.chResend ch = false → s.hasBed = true → s.inWindow (s.chOutcome ch + 8 * (seq % 64)) 8 = true →
        s.chOutcome ch % 8 = 0 → s.bed.writeWait = [] → ∀ tag, Tbl.lowestFree s.bed.writes 512 = some tag →
        let a := s.chOutcome ch + 8 * (seq % 64);
        ∃ t, exec (.answerTimeout ch seq) s = .next (finished t) ∧
          (t.chan ch).nacks = ((s.chan ch).nacks + 1) % 2 ^ 64 ∧
          (∀ m ∈ (t.chan ch).sends, m.seq = seq → m.writing = true) ∧
          (∃ qos, t.outs = [.bedWrite tag (a / 64)
            (BitVec.ofNat 512 ((put seq 0 32 + put 2 32 4 + put 7 36 8) * 2 ^ (8 * (a % 64))))
            ((2 ^ 8 - 1) * 2 ^ (a % 64)) (s.chPart ch) false qos]) ∧
          (s.detOf (s.chPart ch) = true →
            (t.det (s.chPart ch)).hazard = ((s.det (s.chPart ch)).hazard + 1) % 2 ^ 64) ∧
          (s.detOf (s.chPart ch) = false → t.dets = s.dets))) ∧
    (s.resendDue ch seq = true →
      ∃ t, exec (.messageResend ch seq) s = .next (finished t) ∧
        (∀ m ∈ (t.chan ch).sends, m.seq = seq → m.resendAt = none) ∧
        (t.chan ch).sends.map (·.seq) = (s.chan ch).sends.map (·.seq) ∧ (t.chan ch).nextSeq = (s.chan ch).nextSeq ∧
        t.faults = s.faults)) ∧
  (∀ (s : State) (x : Nat) (flit : Granule), s.live → s.receives x → routeDest flit = s.selfCode →
    let w := flit.toNat;
    let seq := fld w 0 32;
    let ch := fld w 32 16;
    let e := fld seq 24 8;
    let ack := fld w 48 8 = 1;
    (bit w 47 = false →
      ((s.chan ch).sends.find? (fun m => m.seq == seq && m.sent && !m.writing) = none →
        ∃ t, exec (.answer x flit) s = .next (finished t) ∧ t.queues = s.queues ∧ t.jigs = s.jigs ∧ t.faults = s.faults) ∧
      (∀ m : Sending, (s.chan ch).sends.find? (fun m => m.seq == seq && m.sent && !m.writing) = some m →
        ∃ t, exec (.answer x flit) s = .next (finished t) ∧ t.faults = s.faults ∧
          (ack → (t.chan ch).msgs = ((s.chan ch).msgs + 1) % 2 ^ 64 ∧
            (s.chResend ch = true → ∀ m ∈ (t.chan ch).sends, m.seq ≠ seq)) ∧
          (¬ ack → (t.chan ch).nacks = ((s.chan ch).nacks + 1) % 2 ^ 64 ∧
            (s.chResend ch = true → t.bed = s.bed ∧
              ∀ m ∈ (t.chan ch).sends, m.seq = seq → m.sent = false ∧ m.resendAt = some s.power.heart)) ∧
          (s.chResend ch = false → ∀ m ∈ (t.chan ch).sends, m.seq = seq → m.writing = true) ∧
          (ack ∨ s.chResend ch = false → s.hasBed = true → s.chOutcome ch % 8 = 0 →
            s.inWindow (s.chOutcome ch + 8 * (seq % 64)) 8 = true →
            ∃ b : BedWrite, b.why = .outcome ch seq ∧ b.addr = s.chOutcome ch + 8 * (seq % 64) ∧
              b.data = ⟨8, put seq 0 32 + put (fld w 48 8) 32 4 + put (fld w 56 8) 36 8⟩ ∧
              ((∃ tag, Tbl.find t.bed.writes tag = some b) ∨ b ∈ t.bed.writeWait)))) ∧
    (∀ o : HeaderOut, bit w 47 = true → (s.exchange e).outs = [o] → o.sent = true → fld o.gen 0 24 = fld seq 0 24 →
      s.leafCode (s.recU tyExchange e 0 (32 + 2 * o.pos) 2) = some (routeSrc flit) →
      ∃ t, exec (.answer x flit) s = .next (finished t) ∧
        (ack → (t.exchange e).outs = [] ∧
          (t.chan (s.exchChannel e)).msgs = ((s.chan (s.exchChannel e)).msgs + 1) % 2 ^ 64) ∧
        (¬ ack → (t.exchange e).outs = [{ o with sent := false, since := some s.power.heart }] ∧
          (t.chan (s.exchChannel e)).nacks = ((s.chan (s.exchChannel e)).nacks + 1) % 2 ^ 64)))

/-- The generation of the headers that an exchange waits for next (03 R146). -/
def headerNext (x : Exchange) : Nat :=
  match x.gd with
  | some k => (k + 1) % 2 ^ 32
  | none => 0

/-- 07 R291, R292, R294, R295; 12 R519, R521: a message that reaches its instance is refused with a NACK, or takes its
place in the ring of its channel; one for another instance is passed on. 03 R144, R147; 07 R295: a segment header that
reaches its leaf and passes the checks is on its way into the exchange's ring; one that the channel refuses is NACKed;
one for another leaf is passed on. How headers are answered is read from the rules, and the landing's place is the
model's (log entries 20 and 22). -/
def Obligations.MessagesAndHeadersArrive : Prop :=
  (∀ (s : State) (x : Nat) (flit : Granule) (payload : Blob), s.live → s.receives x → x < s.ports.length →
    payload.len = fld flit.toNat 20 13 → (s.port x).unacked + footprint payload.len < 32 →
    let w := flit.toNat;
    let ch := fld w 8 12;
    let p := routePart flit;
    let f := footprint payload.len;
    (routeDest flit = s.selfCode →
      (∀ reason, s.checkMessage ch p (fld w 33 10) payload.len = some reason →
        ∃ t, exec (.message x flit payload) s = .next (finished t) ∧
          t.chan ch = { s.chan ch with nacks := ((s.chan ch).nacks + 1) % 2 ^ 64 } ∧
          (∀ k, k ≠ ch → t.chan k = s.chan k) ∧ t.store = s.store ∧ t.bed = s.bed ∧
          (∀ y, s.nextHop (routeSrc flit) = some y → s.hasPort y = true → y ≠ x → routeSrc flit ≠ s.selfCode →
            y < s.ports.length →
            ((t.port y).queue.getLast?.map (fun m => (m.kind, fld m.content.toNat 0 64))) =
              some (0x03, put (fld w 64 32) 0 32 + put (fld w 43 12) 32 16 + put 2 48 8 + put reason 56 8))) ∧
      (s.checkMessage ch p (fld w 33 10) payload.len = none →
        (s.chAddressed ch = true →
          ∃ t, exec (.message x flit payload) s = .next (finished t) ∧
            (∃ m : RingMsg, m.seq = fld w 64 32 ∧ m.start + f ≤ max f (s.chGranules ch) ∧ m.handler = fld w 33 10 ∧ m.written = false ∧
              (t.chan ch).ring = (s.chan ch).ring ++ [m]) ∧
            (t.chan ch).tail = (s.chan ch).tail ∧ (∀ k, k ≠ ch → t.chan k = s.chan k) ∧ t.faults = s.faults) ∧
        (∀ start skip, s.chAddressed ch = false →
          placeInRing (s.chan ch).head (s.chan ch).tail (s.chan ch).occupied (s.chGranules ch) f = some (start, skip) →
          ∃ t, exec (.message x flit payload) s = .next (finished t) ∧
            (∃ m : RingMsg, m.seq = fld w 64 32 ∧ m.start = start ∧ m.size = f ∧ m.handler = fld w 33 10 ∧
              m.written = false ∧ m.skip = false ∧
              (skip = 0 → (t.chan ch).ring = (s.chan ch).ring ++ [m]) ∧
              (skip ≠ 0 → (t.chan ch).ring = (advanceHead (s.chGranules ch) ((s.chan ch).ring ++
                [{ seq := fld w 64 32, start := (s.chan ch).tail, size := skip, skip := true }]) (s.chan ch).head).1 ++ [m])) ∧
            (t.chan ch).tail = (start + f) % s.chGranules ch ∧ (skip = 0 → (t.chan ch).head = (s.chan ch).head) ∧
            (∀ k, k ≠ ch → t.chan k = s.chan k) ∧ t.faults = s.faults))) ∧
    (∀ y, routeDest flit ≠ s.selfCode → s.nextHop (routeDest flit) = some y → s.hasPort y = true → y ≠ x →
      y < s.ports.length →
      ∃ t, exec (.message x flit payload) s = .next (finished t) ∧
        (t.port y).queue = (s.port y).queue ++
          [{ cls := 2, pool := p, kind := 0x11, content := flit, flits := f, payload := payload,
             back := some (x, creditKey p 2 false) }] ∧
        t.queues = s.queues ∧ t.faults = s.faults)) ∧
  (∀ (s : State) (x : Nat) (flit : Granule), s.live → s.receives x → x < s.ports.length → (s.port x).unacked < 31 →
    let w := flit.toNat;
    let e := fld w 304 8;
    let g := fld w 256 32;
    let pos := fld w 288 16;
    let ch := s.exchChannel e;
    (routeDest flit = s.selfCode →
      (∀ reason, (s.checkMessage ch (routePart flit) 0x3FF 1).filter (· != 5) = some reason →
        ∃ t, exec (.segment x flit) s = .next (finished t) ∧ t.jigs = s.jigs ∧
          t.chan ch = { s.chan ch with nacks := ((s.chan ch).nacks + 1) % 2 ^ 64 }) ∧
      ((s.checkMessage ch (routePart flit) 0x3FF 1).filter (· != 5) = none →
        (∀ (f : Nat), (s.exchange e).refuses g pos = some f →
          ∃ t, exec (.segment x flit) s = .next (finished t) ∧ t.jigs = s.jigs ∧
            t.chan ch = { s.chan ch with nacks := ((s.chan ch).nacks + 1) % 2 ^ 64 } ∧
            ∃ e : FaultEntry, e.value = f ∧ t.faults.unnumbered = s.faults.unnumbered ++ [e]) ∧
        ((s.exchange e).refuses g pos = some fltExchangeLap ↔
          g ≠ headerNext (s.exchange e) ∧ g ≠ (headerNext (s.exchange e) + 1) % 2 ^ 32) ∧
        ((s.exchange e).refuses g pos = some fltExchangeDup ↔
          (g = headerNext (s.exchange e) ∨ g = (headerNext (s.exchange e) + 1) % 2 ^ 32) ∧
            ((g, pos) ∈ (s.exchange e).seen ∨ ∃ l ∈ (s.exchange e).landing, l.gen = g ∧ l.pos = pos))) ∧
      ((s.checkMessage ch (routePart flit) 0x3FF 1).filter (· != 5) = none → (s.exchange e).refuses g pos = none →
        ∃ t, exec (.segment x flit) s = .next (finished t) ∧
          (t.exchange e).landing = (s.exchange e).landing ++
            [{ gen := g, pos := pos, content := BitVec.ofNat 512 (fld w 0 448), back := routeSrc flit, inPort := some x }] ∧
          (t.exchange e).seen = (s.exchange e).seen ∧ t.queues = s.queues ∧ t.faults = s.faults)) ∧
    (∀ y, routeDest flit ≠ s.selfCode → s.nextHop (routeDest flit) = some y → s.hasPort y = true → y ≠ x →
      y < s.ports.length →
      ∃ t, exec (.segment x flit) s = .next (finished t) ∧ t.jigs = s.jigs ∧
        (t.port y).queue = (s.port y).queue ++
          [{ cls := 2, pool := routePart flit, kind := 0x12, content := flit,
             back := some (x, creditKey (routePart flit) 2 false) }]))

/-- 07 R303 to R308, R311, R312, R327: the operations on a queue. (That the response of an underrun has ok at 0 is read from the
example of 07 R308: log entry 60.) -/
def Obligations.QueueOperations : Prop :=
  ∀ (s : State) (src : Nat) (req : BitVec 128),
    let q := fld req.toNat 4 8;
    let x := s.queue q;
    (s.queueReady 0 src req →
      (x.occupancy ≠ s.qCap q → x.held = [] →
        ∃ t, exec (.queueWrite src req) s = .next (finished t) ∧ (t.queue q).wr = (x.wr + 1) % 2 ^ 32 ∧
          (t.queue q).rd = x.rd ∧ (t.queue q).rel = x.rel ∧ (t.queue q).mark = x.mark ∧
          (t.queue q).words.map (·.data) = x.words.map (·.data) ++ [BitVec.ofNat 64 (fld req.toNat 64 64)] ∧
          t.outs.getLast? = some (.queueResponse src false 0 (1 + (if (t.queue q).isEmpty then 2 else 0)) 0) ∧
          queueFrame s t q) ∧
      (x.occupancy = s.qCap q ∨ x.held ≠ [] →
        ∃ t, exec (.queueWrite src req) s = .next (finished t) ∧
          (∃ h : HeldWrite, h.src = src ∧ h.op = 0 ∧ h.data = BitVec.ofNat 64 (fld req.toNat 64 64) ∧
            t.queue q = { x with held := x.held ++ [h] }) ∧ t.outs = [] ∧ queueFrame s t q)) ∧
    (s.queueReady 1 src req →
      (x.isEmpty = true →
        ∃ t, exec (.queueRead src req) s = .next (finished t) ∧ (t.queue q).underrun = true ∧ (t.queue q).rd = x.rd ∧
          (t.queue q).words = x.words ∧ t.queues.underruns = (s.queues.underruns + 1) % 2 ^ 64 ∧
          t.outs = [.queueResponse src false x.lastRead.toNat 6 0] ∧ queueFrame s t q) ∧
      (x.isEmpty = false → (x.wordAt x.rd).place ≠ 1 → (x.wordAt x.rd).place ≠ 2 →
        ∃ t, exec (.queueRead src req) s = .next (finished t) ∧ (t.queue q).rd = (x.rd + 1) % 2 ^ 32 ∧
          (t.queue q).lastRead = (x.wordAt x.rd).data ∧
          (s.qAuto q = false → (t.queue q).rel = x.rel ∧ (t.queue q).words = x.words) ∧
          (s.qAuto q = true → (t.queue q).rel = (x.rd + 1) % 2 ^ 32) ∧
          (∃ flags, t.outs.head? = some (.queueResponse src false (x.wordAt x.rd).data.toNat flags 0)) ∧
          (s.queues.waiting = [] → queueFrame s t q)) ∧
      (x.isEmpty = false → (x.wordAt x.rd).place = 1 ∨ (x.wordAt x.rd).place = 2 →
        ∃ t, exec (.queueRead src req) s = .next (finished t) ∧ (t.queue q).reading = some src ∧ (t.queue q).rd = x.rd ∧
          (t.queue q).wr = x.wr ∧ (∀ id held data flags code, .queueResponse id held data flags code ∉ t.outs) ∧
          queueFrame s t q)) ∧
    (s.queueReady 2 src req →
      ∃ t, exec (.mark src req) s = .next (finished t) ∧
        t.queue q = (if s.qAuto q then x else { x with mark := x.rd }) ∧
        t.outs = [.queueResponse src false 0 (1 + (if (t.queue q).isEmpty then 2 else 0)) 0] ∧ queueFrame s t q) ∧
    (s.queueReady 3 src req →
      ∃ t, exec (.rewind src req) s = .next (finished t) ∧
        t.queue q = (if s.qAuto q then x else { x with rd := x.mark }) ∧
        t.outs = [.queueResponse src false 0 (1 + (if (t.queue q).isEmpty then 2 else 0)) 0] ∧ queueFrame s t q) ∧
    (s.queueReady 4 src req → x.held = [] → (∀ w ∈ x.words, w.place ≠ 1) →
      ∃ t, exec (.queueRelease src req) s = .next (finished t) ∧ (t.queue q).rel = x.rd ∧ (t.queue q).mark = x.rd ∧
        (t.queue q).rd = x.rd ∧ (t.queue q).wr = x.wr ∧ (t.queue q).words = x.words.drop (sub32 x.rd x.rel) ∧
        t.outs = [.queueResponse src false 0 (1 + (if (t.queue q).isEmpty then 2 else 0)) 0] ∧ queueFrame s t q) ∧
    (s.queueReady 5 src req → x.occupancy ≠ s.qCap q → x.held = [] →
      ∃ t, exec (.pktBegin src req) s = .next (finished t) ∧ (t.queue q).packet = some (x.wr, 0) ∧
        (t.queue q).wr = (x.wr + 1) % 2 ^ 32 ∧ (t.queue q).words.map (·.data) = x.words.map (·.data) ++ [0] ∧
        t.outs.getLast? = some (.queueResponse src false x.wr (1 + (if (t.queue q).isEmpty then 2 else 0)) 0) ∧
        queueFrame s t q) ∧
    (s.queueReady 5 src req → x.occupancy = s.qCap q ∨ x.held ≠ [] →
      ∃ t, exec (.pktBegin src req) s = .next (finished t) ∧
        (∃ h : HeldWrite, h.src = src ∧ h.op = 5 ∧ t.queue q = { x with held := x.held ++ [h] }) ∧ t.outs = [] ∧
        queueFrame s t q) ∧
    (∀ slot count, s.queueReady 6 src req → x.packet = some (slot, count) → (∀ w ∈ x.words, w.place ≠ 1) →
      sub32 slot x.rel < x.words.length →
      ∃ t, exec (.pktEnd src req) s = .next (finished t) ∧ (t.queue q).packet = none ∧
        ((t.queue q).wordAt slot).data =
          BitVec.ofNat 64 (put count 0 32 + put (fld req.toNat 64 64 % 2 ^ 32) 32 32) ∧
        (t.queue q).wr = x.wr ∧ (t.queue q).rd = x.rd ∧ (t.queue q).words.length = x.words.length ∧
        t.outs = [.queueResponse src false 0 (1 + (if (t.queue q).isEmpty then 2 else 0)) 0] ∧ queueFrame s t q) ∧
    (s.queueReady 7 src req →
      ∃ t, exec (.queueStatus src req) s = .next (finished t) ∧ t.queues = s.queues ∧
        t.outs = [.queueResponse src false (s.queueState q) (1 + (if x.isEmpty then 2 else 0)) 0] ∧
        { t with power := s.power, outs := s.outs, clock := s.clock } = s) ∧
    (∀ (op f : Nat), op ≤ 7 → s.laneOpen src →
      s.waitsBehind src (req.toNat - fld req.toNat 0 4 + opOf op 7 (fld req.toNat 0 4)) = false →
      x.held = [] ∨ s.queues.waiting = [] →
      s.queueCheck src (req.toNat - fld req.toNat 0 4 + opOf op 7 (fld req.toNat 0 4)) = some f →
      ∃ t, exec (queueCmd op src req) s = .next (finished t) ∧ t.queues = s.queues ∧
        t.outs = [.queueResponse src false 0 (16 + (if x.isEmpty then 2 else 0)) f] ∧
        ∃ e : FaultEntry, e.value = f ∧ e.partition = fld req.toNat 12 6 ∧ e.context = fld req.toNat 18 5 ∧
          t.faults.unnumbered = s.faults.unnumbered ++ [e])

/-- 07 R310, R321: the read timer of a queue fires once; a record that its ring has accepted is produced, also in a halted block
(13 R548); a completion record that has failed is written again, and those that wait behind it keep cpl_full set (07 R330). 07
R319 to R322; 12 R519: an event that reaches the home of its partition takes the next number of the event ring, and is written
there; without room it is dropped and counted, and the next record that is written says so. -/
def Obligations.TimersAndRings : Prop :=
  (∀ (s : State) (q : Nat), s.live → s.queueLate q = true →
    ∃ t, exec (.queueTimeout q) s = .next (finished t) ∧
      t.queue q = { s.queue q with timedOut := true, timer := none, fired := true } ∧
      (∀ k, k ≠ q → t.queue k = s.queue k) ∧
      (s.qOnTimeout q = true → s.detOf (s.qPart q) = false →
        ∃ e : FaultEntry, e.value = fltQueueTimeout ∧ e.partition = s.qPart q ∧ e.context = s.qCtx q ∧
          t.faults.unnumbered = s.faults.unnumbered ++ [e]) ∧
      (s.qOnTimeout q = false ∨ s.detOf (s.qPart q) = true → t.faults = s.faults) ∧ t.tasks = s.tasks) ∧
  (∀ (s : State) (p seq bits : Nat) (evt : Bool), s.wrapper.undefined = false → s.power.inReset = false →
    s.recordWriting p evt = some (seq, bits) →
    ∃ t, exec (.hostqRecordAccepted p evt) s = .next (finished t) ∧
      (evt = true → (t.hostq p).evtProduced = seq ∧ (t.hostq p).cplProduced = (s.hostq p).cplProduced ∧
        (t.hostq p).evtWriting = (s.hostq p).evtWriting.filter (· != seq)) ∧
      (evt = false → (t.hostq p).cplProduced = seq ∧ (t.hostq p).evtProduced = (s.hostq p).evtProduced ∧
        ((s.hostq p).waiting = [] → (t.hostq p).writing = none ∧ (t.hostq p).cplFull = false)) ∧
      (∀ k, k ≠ p → t.hostq k = s.hostq k) ∧ t.faults = s.faults ∧ t.tasks = s.tasks) ∧
  (∀ (s : State) (p due seq bits tag : Nat), s.live → (s.hostq p).retryAt = some due →
    (s.hostq p).writing = some (seq, bits) → due + 64 ≤ s.power.heart → s.hasBed = true →
    s.inWindow (s.ringAddr p false seq) 64 = true → s.ringAddr p false seq % 64 = 0 → s.bed.writeWait = [] →
    Tbl.lowestFree s.bed.writes 512 = some tag →
    ∃ t, exec (.hostqRecordRetry p) s = .next (finished t) ∧
      t.hostq p = { s.hostq p with retryAt := none, cplFull := (t.hostq p).cplFull } ∧
      ((s.hostq p).failed = true → (t.hostq p).cplFull = !(s.hostq p).waiting.isEmpty) ∧
      (∃ qos, t.outs = [.bedWrite tag (s.ringAddr p false seq / 64) (BitVec.ofNat 512 bits) (2 ^ 64 - 1) p false qos]) ∧
      (∀ k, k ≠ p → t.hostq k = s.hostq k) ∧ t.faults = s.faults) ∧
  (∀ (s : State) (x : Nat) (flit : Granule), s.live → s.receives x →
    let p := fld flit.toNat 40 6;
    let h := s.hostq p;
    s.homeCode p = s.selfCode →
    (s.hasHostq p = true → s.ringRoom p true h.evtSeq h.evtAcked = true →
      ∃ t, exec (.event x flit) s = .next (finished t) ∧
        t.hostq p = { h with evtSeq := (h.evtSeq + 1) % 2 ^ 32, lost := false, evtWriting := h.evtWriting ++ [h.evtSeq] } ∧
        (s.hasBed = true → s.inWindow (s.ringAddr p true h.evtSeq) 64 = true → s.ringAddr p true h.evtSeq % 64 = 0 →
          ∃ b : BedWrite, b.why = .hostq p true h.evtSeq ∧ b.addr = s.ringAddr p true h.evtSeq ∧ b.part = p ∧
            b.data = ⟨64, (flit.toNat / 2 ^ 32 * 2 ^ 32 + put h.evtSeq 0 32 + put (flag h.lost) 51 1) % 2 ^ 512⟩ ∧
            ((∃ tag, Tbl.find t.bed.writes tag = some b) ∨ b ∈ t.bed.writeWait)) ∧
        (∀ k, k ≠ p → t.hostq k = s.hostq k) ∧ t.faults = s.faults ∧ t.tasks = s.tasks) ∧
    (s.hasHostq p = true → s.ringRoom p true h.evtSeq h.evtAcked = false →
      ∃ t, exec (.event x flit) s = .next (finished t) ∧
        t.hostq p = { h with evtSeq := (h.evtSeq + 1) % 2 ^ 32, lost := true, drops := (h.drops + 1) % 2 ^ 64 } ∧
        t.bed = s.bed ∧ (∀ k, k ≠ p → t.hostq k = s.hostq k) ∧ t.faults = s.faults) ∧
    (s.hasHostq p = false →
      ∃ t, exec (.event x flit) s = .next (finished t) ∧ t.queues = s.queues ∧ t.faults = s.faults ∧ t.tasks = s.tasks))

/-! ### Contexts and lent lines -/

/-- 08 R338, R339, R358: the end of a quantum, with no class to switch to, with a holder in the running class, and else.
08 R359: the hold limit raises FLT_HOLD_LIMIT, and a configured context begins to part. 08 R362, R365: a PART flit
begins the parting of a configured context that is not parted already; a RESTORE flit restores a PARTED context, is
refused by a PARTING one, and does nothing to another. The entry at the receiver of PART is read from the rules (log
entry 81). -/
def Obligations.QuantumHoldLimitAndParting : Prop :=
  ((∀ (s : State) (p r : Nat), s.live → s.quantumDue p = true → (s.slice p).running = some r →
    ∃ t, exec (.quantumExpire p) s = .next (finished t) ∧
      (s.peerClass p r = none → t.slice p = { s.slice p with since := s.power.heart }) ∧
      (∀ j, s.peerClass p r = some j → s.classHolds p r = true → t.slice p = { s.slice p with deferred := true }) ∧
      (∀ j, s.peerClass p r = some j → s.classHolds p r = false →
        t.slice p = { s.slice p with
          running := some j, last := j, since := s.power.heart, deferred := false
          switches := ((s.slice p).switches + 1) % 2 ^ 64, preempts := (s.slice p).preempts % 2 ^ 64 }) ∧
      (∀ q, q ≠ p → t.slice q = s.slice q) ∧ t.ctxs.ctxs = s.ctxs.ctxs ∧ t.ctxs.runs = s.ctxs.runs ∧
      { t with ctxs := s.ctxs, power := s.power, outs := s.outs, clock := s.clock } = s) ∧
  (∀ (s : State) (i c : Nat), s.live → s.holdDue i c = true →
    let p := (s.sem i).part;
    ∃ t, exec (.holdLimit i c) s = .next (finished t) ∧ t.outs = [] ∧
      (∃ e : FaultEntry, e.value = fltHoldLimit ∧ e.partition = p ∧ e.context = c ∧ e.source = srcSync ∧
        e.detail = i % 2 ^ 32 ∧ t.faults = { s.faults with unnumbered := s.faults.unnumbered ++ [e] }) ∧
      (s.partConfigured p = true → s.ctxConfigured p c = true →
        t.ctx p c = { s.ctx p c with
          st := .parting, fault := fltHoldLimit, partings := ((s.ctx p c).partings + 1) % 2 ^ 32 } ∧
        t.work = s.work ++ [.part p c fltHoldLimit true]) ∧
      t.sync = s.sync ∧ t.tasks = s.tasks)) ∧
  (∀ (s : State) (x : Nat) (flit : Granule), s.live → s.receives x → routeDest flit = s.selfCode →
    let p := fld flit.toNat 0 8;
    let c := fld flit.toNat 8 8;
    let f := fld flit.toNat 16 16;
    (s.ctxConfigured p c = true → s.gone p c = false →
      ∃ t, exec (.part x flit) s = .next (finished t) ∧
        t.ctx p c = { s.ctx p c with st := .parting, fault := f, partings := ((s.ctx p c).partings + 1) % 2 ^ 32 } ∧
        (∃ e : FaultEntry, e.value = f ∧ e.partition = p ∧ e.context = c ∧ e.scope = 1 ∧
          t.faults = { s.faults with unnumbered := s.faults.unnumbered ++ [e] }) ∧
        Job.part p c f (s.isHome p) ∈ t.work ∧ t.tasks = s.tasks ∧ t.sync = s.sync) ∧
    (s.ctxConfigured p c = false ∨ s.gone p c = true →
      ∃ t, exec (.part x flit) s = .next (finished t) ∧ t.ctxs = s.ctxs ∧ t.faults = s.faults ∧ t.tasks = s.tasks) ∧
    ((s.ctx p c).st = .parted →
      ∃ t, exec (.restore x flit) s = .next (finished t) ∧ (t.ctx p c).st = .dormant ∧
        (t.ctx p c).restoreRefused = (s.ctx p c).restoreRefused ∧ t.tasks = s.tasks ∧ t.faults = s.faults) ∧
    ((s.ctx p c).st = .parting →
      ∃ t, exec (.restore x flit) s = .next (finished t) ∧ t.ctx p c = { s.ctx p c with restoreRefused := true } ∧
        t.sync = s.sync ∧ t.tasks = s.tasks ∧ t.faults = s.faults) ∧
    ((s.ctx p c).st ≠ .parted → (s.ctx p c).st ≠ .parting →
      ∃ t, exec (.restore x flit) s = .next (finished t) ∧ t.ctxs = s.ctxs ∧ t.sync = s.sync ∧ t.tasks = s.tasks))

/-- 08 R345 to R349, R351: BORROW and RETURN from a core's requester while no window is reserved, and the BORROW that
takes a window which has become ready. That all runs count against borrow_max is read from the rules (log entry 28). -/
def Obligations.LinesAreLentAndReturned : Prop :=
  ∀ (s : State) (src core : Nat) (req : Word), s.laneOpen src →
    let w := req.toNat;
    let n := fld w 2 13;
    let p := fld w 28 6;
    let c := fld w 34 5;
    let mine := s.ctxs.runs.filter (fun r => r.core == core && r.part == p && r.ctx == c);
    fld w 39 25 = 0 → n ≠ 0 → s.coreOf src = some core → (s.allocCores p).contains core = true →
    (s.ctx p c).st = .resident →
    (fld w 0 2 ≤ 1 → s.ctxs.windows = [] →
      (s.borrowMax p c < (mine.map (·.lines)).foldl (· + ·) 0 + n ∨ 16 ≤ mine.length →
        ∃ t, exec (.borrow src req) s = .next (finished t) ∧ t.ctxs = s.ctxs ∧ t.outs = [.response 3 src respRefused 0 0]) ∧
      ((mine.map (·.lines)).foldl (· + ·) 0 + n ≤ s.borrowMax p c → mine.length < 16 →
        (∀ first, s.lowestRange n (s.blockers core p) = some first →
          ∃ t, exec (.borrow src req) s = .next (finished t) ∧
            t.ctxs = { s.ctxs with
              runs := s.ctxs.runs ++ [{ core := core, part := p, ctx := c, first := first, lines := n }] } ∧
            t.outs = [.response 3 src respGranted 0 first] ∧ t.faults = s.faults ∧ t.tasks = s.tasks) ∧
        (s.lowestRange n (s.blockers core p) = none →
          (s.lowestRange n (s.windowBlockers core p (s.ctxPrio p c)) = none →
            ∃ t, exec (.borrow src req) s = .next (finished t) ∧ t.ctxs = s.ctxs ∧
              t.outs = [.response 3 src respRefused 0 0]) ∧
          (∀ first, s.lowestRange n (s.windowBlockers core p (s.ctxPrio p c)) = some first →
            ∃ t, exec (.borrow src req) s = .next (finished t) ∧
              t.ctxs.windows = [{ core := core, src := src, part := p, ctx := c, first := first, lines := n }] ∧
              t.ctxs.runs = s.ctxs.runs.map (fun r =>
                if r.core == core && r.st == 0 && meet r.range (first, n) then { r with st := 1 } else r) ∧
              t.outs = [.response 3 src respSleep 0 0] ∧ t.faults = s.faults ∧ t.tasks = s.tasks)))) ∧
    (∀ v : Window, fld w 0 2 ≤ 1 →
      s.ctxs.windows.find? (fun w => w.src == src && w.core == core && w.part == p && w.ctx == c && w.lines == n) = some v →
      v.ready = true →
      ∃ t, exec (.borrow src req) s = .next (finished t) ∧
        t.ctxs.runs = s.ctxs.runs ++ [{ core := core, part := p, ctx := c, first := v.first, lines := n }] ∧
        t.ctxs.windows = s.ctxs.windows.filter (fun w => w != v) ∧ t.outs = [.response 3 src respGranted 0 v.first]) ∧
    (fld w 0 2 ≤ 1 → s.ctxs.windows = [] →
      let same (r : Run) : Bool :=
        r.core == core && r.part == p && r.ctx == c && r.first == fld w 15 13 && r.lines == n &&
          (r.st == 0 || r.st == 1 || r.st == 2);
      (s.ctxs.runs.any same = true →
        ∃ t, exec (.returnRun src req) s = .next (finished t) ∧
          t.ctxs = { s.ctxs with runs := s.ctxs.runs.filter (fun r => !same r) } ∧
          t.outs = [.response 3 src respDone 0 0] ∧ t.faults = s.faults ∧ t.tasks = s.tasks) ∧
      (s.ctxs.runs.any same = false →
        ∃ t, exec (.returnRun src req) s = .next (finished t) ∧ t.ctxs.runs = s.ctxs.runs ∧
          t.outs = [.response 3 src respFault fltScratchAccess 0] ∧
          ∃ e : FaultEntry, e.value = fltScratchAccess ∧ e.partition = p ∧ e.context = c ∧
            t.faults.unnumbered = s.faults.unnumbered ++ [e]))

/-! ### Collectives and boundaries -/

/-- 09 R386, R390, R391: the operand that a deadline finds missing is absent, and the bucket goes on to its next level. 09 R386:
READY from the member that this one sends its partial to lets the partial go. 09 R396, R398: a bucket whose delivery has been
accepted closes, and its contribute task completes. 09 R379, R386, R392: a PARTIAL that the present level waits for lands; one
of the slot's next round opens the bucket; any other is late, and counted. 09 R396, R398: RESULT, SHARD and UPDATE end a bucket:
the first delivers, the second starts the owner's optimizer, and the third counts the shard; before the member's own
contribution, which names their places, they are kept. What is kept of messages that come early is read from the rules (log
entries 31, 34 and 35). -/
def Obligations.BucketsGoOn : Prop :=
  ∀ (s : State) (i : Nat), s.live →
    let b := s.bucket i;
    (s.deadlineDue i = true →
      ∃ t, exec (.reduceDeadline i) s = .next (finished t) ∧ (t.bucket i).level = b.level + 1 ∧
        (t.bucket i).landed = none ∧ (t.bucket i).timer = none ∧ (t.bucket i).readyOut = false ∧
        (t.bucket i).ownReady = true ∧ (t.bucket i).isOpen = true ∧
        t.reduce.absent = (s.reduce.absent + 1) % 2 ^ 64 ∧
        (b.ownReady = true → s.levelIndex i ≠ 12 →
          (t.bucket i).mask =
            maskWith b.mask (subtreeBelow (s.rdMembers b.group) ((s.rdPos b.group).getD 0) b.level)) ∧
        (b.ownReady = true → s.levelIndex i = 12 →
          (t.bucket i).pkgAbsent = maskWith b.pkgAbsent (List.range (s.rdPackage b.group))) ∧
        (s.detOf (s.rdPart b.group) = true → t.dets = s.dets) ∧
        (s.detOf (s.rdPart b.group) = false →
          (t.det (s.rdPart b.group)).nondet = ((s.det (s.rdPart b.group)).nondet + 1) % 2 ^ 64) ∧
        (∀ k, k ≠ i → t.bucket k = s.bucket k) ∧ t.tasks = s.tasks ∧ t.faults = s.faults) ∧
    (b.isOpen = true → b.delivering = true →
      ∃ t, exec (.deliveryDone i) s = .next (finished t) ∧ (t.bucket i).isOpen = false ∧ (t.bucket i).round = b.round ∧
        t.reduce.closed = (s.reduce.closed + 1) % 2 ^ 64 ∧ (∀ k, k ≠ i → t.bucket k = s.bucket k) ∧
        (∀ k, b.poisonedIn = false → b.task = some k →
          (t.slot k).st = .retiring ∧ (t.slot k).fin = some (stOk, b.poison)) ∧
        (b.poisonedIn = true → t.tasks = s.tasks)) ∧
    (∀ (x : Nat) (flit : Granule), s.receives x →
      let m := rmsgOf flit.toNat;
      m.type = 5 → m.fits ⟨0, 0⟩ ⟨0, 0⟩ = true → routeBridge flit = false → routeDest flit = s.selfCode →
      (s.rmsgOpen m = true → s.sendsTo m = true →
        ∃ t, exec (.ready x flit) s = .next (finished t) ∧
          t.bucket (m.tag % 4096) = { s.bucket (m.tag % 4096) with readyIn := true } ∧
          Job.bucket (m.tag % 4096) ∈ t.work ∧ (∀ k, k ≠ m.tag % 4096 → t.bucket k = s.bucket k) ∧ t.tasks = s.tasks) ∧
      (s.rmsgOpen m = false → s.rmsgNext m = false →
        ∃ t, exec (.ready x flit) s = .next (finished t) ∧ t.reduce = s.reduce ∧ t.tasks = s.tasks)) ∧
    (∀ (x : Nat) (flit : Granule) (mask data : Blob), s.receives x →
      let m := rmsgOf flit.toNat;
      let k := m.tag % 4096;
      let b := s.bucket k;
      m.type = 1 → m.fits mask data = true → routeBridge flit = false → routeDest flit = s.selfCode →
      (s.rmsgOpen m = true → s.expects k m = true →
        ∃ t, exec (.partialMsg x flit mask data) s = .next (finished t) ∧
          (t.bucket k).landed = some (m.length, m.poison, m.present, m.weight,
            if m.masked then fld mask.bits 0 (s.rdMembers b.group) else 0, m.pkgAbsent) ∧
          (t.bucket k).landData = data ∧ (t.bucket k).level = b.level ∧ (t.bucket k).task = b.task ∧
          Job.bucket k ∈ t.work ∧ (∀ j, j ≠ k → t.bucket j = s.bucket j) ∧ t.reduce.late = s.reduce.late ∧ t.tasks = s.tasks) ∧
      (s.rmsgOpen m = true → s.expects k m = false →
        ∃ t, exec (.partialMsg x flit mask data) s = .next (finished t) ∧ t.reduce.late = (s.reduce.late + 1) % 2 ^ 64 ∧
          t.bucket k = { b with late := (b.late + 1) % 2 ^ 32 } ∧ (∀ j, j ≠ k → t.bucket j = s.bucket j) ∧ t.tasks = s.tasks) ∧
      (s.rmsgOpen m = false → s.rmsgNext m = false →
        ∃ t, exec (.partialMsg x flit mask data) s = .next (finished t) ∧ t.reduce.late = (s.reduce.late + 1) % 2 ^ 64 ∧
          t.bucket k = (if b.isOpen then { b with late := (b.late + 1) % 2 ^ 32 } else b) ∧
          (∀ j, j ≠ k → t.bucket j = s.bucket j) ∧ t.tasks = s.tasks) ∧
      (s.rmsgNext m = true → b.isOpen = false → (s.rdCtx m.group k).any (s.gone m.part) = false →
        (openBucket m.group m.tag false s).isSome = true →
        ∃ t, exec (.partialMsg x flit mask data) s = .next (finished t) ∧ (t.bucket k).isOpen = true ∧
          (t.bucket k).tag = m.tag ∧ (t.bucket k).group = m.group ∧ (t.bucket k).round = m.round ∧ (t.bucket k).task = none ∧
          t.reduce.opened = (s.reduce.opened + 1) % 2 ^ 64 ∧ (∀ j, j ≠ k → t.bucket j = s.bucket j) ∧ t.tasks = s.tasks)) ∧
    (∀ (x : Nat) (flit : Granule) (mask data : Blob) (c : Instr), s.receives x →
      let m := rmsgOf flit.toNat;
      let k := m.tag % 4096;
      let b := s.bucket k;
      (m.type = 2 ∧ c = .result x flit mask data ∨ m.type = 3 ∧ c = .shard x flit mask data ∨
        m.type = 4 ∧ c = .update x flit data ∧ mask = ⟨0, 0⟩) →
      m.fits mask data = true → routeBridge flit = false → routeDest flit = s.selfCode →
      (s.rmsgOpen m = false → s.rmsgNext m = false ∨ b.isOpen = true →
        ∃ t, exec c s = .next (finished t) ∧ t.reduce = s.reduce ∧ t.tasks = s.tasks ∧ t.jigs = s.jigs) ∧
      (s.rmsgOpen m = true → s.endTaken k m = true →
        ∃ t, exec c s = .next (finished t) ∧ t.reduce = s.reduce ∧ t.tasks = s.tasks ∧ t.jigs = s.jigs) ∧
      (s.rmsgOpen m = true → s.endTaken k m = false → b.task = none →
        ∃ t, exec c s = .next (finished t) ∧ (t.bucket k).early = b.early ++ [(m.bits, mask, data)] ∧
          (m.type ≠ 2 → t.bucket k = { b with early := b.early ++ [(m.bits, mask, data)] }) ∧
          (t.bucket k).delivering = b.delivering ∧ (∀ j, j ≠ k → t.bucket j = s.bucket j) ∧ t.tasks = s.tasks ∧ t.jigs = s.jigs) ∧
      (s.rmsgOpen m = true → s.endTaken k m = false → b.task.isSome = true →
        ∃ t, exec c s = .next (finished t) ∧ (∀ j, j ≠ k → t.bucket j = s.bucket j) ∧ t.tasks.slots = s.tasks.slots ∧
          (m.type = 2 → (t.bucket k).delivering = true ∧ (t.bucket k).length = m.length ∧ (t.bucket k).poison = m.poison ∧
            (t.bucket k).present = m.present ∧ (t.bucket k).weight = m.weight ∧ (t.bucket k).pkgAbsent = m.pkgAbsent ∧
            (m.poison = false → (t.bucket k).status = stOk) ∧ t.jigs = s.jigs) ∧
          (m.type = 3 → (t.bucket k).shardOff = m.offset ∧ (t.bucket k).shardLen = m.length ∧
            (m.length ≠ 0 → (t.bucket k).optimizing = true ∧ t.jigs.nextLaunch = s.jigs.nextLaunch + 1 ∧
              (t.launch s.jigs.nextLaunch).owner = .optimizer k) ∧
            (m.length = 0 → (t.bucket k).shards = b.shards ++ [(s.rdPos b.group).getD 0] ∧ t.jigs = s.jigs)) ∧
          (m.type = 4 → (t.bucket k).shards = b.shards ++ [m.fromPos] ∧ (t.bucket k).total = b.total + m.length ∧
            (t.bucket k).poison = (b.poison || m.poison) ∧ t.jigs = s.jigs ∧
            ((t.bucket k).delivering = true ↔ s.rdMembers b.group ≤ b.shards.length + 1))))

/-- 10 R409, R410, R414: a boundary that is taken has the next number; a group whose bank in force differs from its record gets
the new record. A member leaf takes a record with the boundary's number, and its MEMBER_ACK enters the queue of the port toward
the home; the home takes the acknowledgement. When a boundary is due is read from the rules (log entry 38). -/
def Obligations.BoundariesAreTaken : Prop :=
  (∀ (s : State) (p : Nat) (banks : List (Nat × Blob × Blob)), s.live → s.isHome p = true → s.detOf p = true →
    s.boundaryDue p = true →
    ∃ t, exec (.boundaryTaken p banks) s = .next (finished t) ∧ (t.det p).asked = false ∧ (t.det p).first = false ∧
      (t.det p).boundary = (s.det p).nextBoundary ∧ (∀ q, q ≠ p → t.det q = s.det q) ∧ t.tasks = s.tasks ∧
      t.image = s.image ∧
      (s.groupsOf p = [] → t.det p = { s.det p with asked := false, first := false, boundary := (s.det p).nextBoundary } ∧
        t.faults = s.faults ∧ t.ports = s.ports) ∧
      (∀ (g : Nat) (b0 b1 : Blob), s.groupsOf p = [g] → b0 = s.bankRead p g 0 banks → b1 = s.bankRead p g 1 banks →
        bankCandidate (s.det p).nextBoundary b0 = true → s.badBank g b0 = false →
        bankCandidate (s.det p).nextBoundary b1 = false →
        Tbl.at (t.det p).records g (2 ^ s.rdMembers g - 1) = fld b0.bits 512 (s.rdMembers g) ∧ t.faults = s.faults)) ∧
  (∀ (s : State) (x : Nat) (flit : Granule) (bank : Blob), s.live → s.receives x → routeDest flit = s.selfCode →
    let g := fld flit.toNat 0 8;
    let p := fld flit.toNat 8 8;
    ((s.rdPos g).isSome = true →
      ∃ t, exec (.member x flit bank) s = .next (finished t) ∧
        Tbl.find (t.det p).records g = some (fld bank.bits 512 (s.rdMembers g)) ∧
        (t.det p).boundary = fld flit.toNat 32 32 ∧ (∀ q, q ≠ p → t.det q = s.det q) ∧ t.tasks = s.tasks ∧
        (∀ y, s.nextHop (routeSrc flit) = some y → s.hasPort y = true → y < s.ports.length →
          { cls := 0, pool := poolSystem, kind := 0x09
            content := routed (memberContent g p (fld flit.toNat 32 32)) (s.route (routeSrc flit) p true) } ∈ (t.port y).queue)) ∧
    ((s.rdPos g).isSome = false → ∃ t, exec (.member x flit bank) s = .next (finished t) ∧ t.dets = s.dets) ∧
    (∃ t, exec (.memberAck x flit) s = .next (finished t) ∧
      t.det p = { s.det p with acks := (s.det p).acks.filter (fun a => !(a.1 == g && a.2 == routeSrc flit)) } ∧
      (∀ q, q ≠ p → t.det q = s.det q) ∧ t.tasks = s.tasks))

/-! ### Images, reshape, journal, warm reset -/

/-- 11 R446, R447, R451, R474: an image that passes its checks is the running image, and discovery begins; one that fails
leaves the instance without a role and says why. The checks themselves are `State.validate`. -/
def Obligations.ImageLoadEnds : Prop :=
  ∀ (s : State) (img : Blob), s.live → s.image.loading = true →
    (∀ ps : List Placed, s.validate (s.imageBytes s.image.addr img) = .inl ps →
      ∃ t, exec (.imageLoadDone img) s = .next (finished t) ∧ t.image.state = 2 ∧ t.image.loading = false ∧ t.power.phase = 3 ∧
        t.face.loadDone = true ∧ t.face.path = s.place ∧ t.image.recs = ps.map Placed.r ∧
        t.image.digest = ((ps.map Placed.r).headD {}).u 48 32 ∧ t.image.epoch = ((ps.map Placed.r).headD {}).u 36 4 ∧
        t.image.runAddr = s.image.addr ∧ t.image.active = [0, 0, 0, 0] ∧ t.serves = [] ∧ t.pages = [] ∧
        Job.start ∈ t.work ∧ t.power.heart = s.power.heart ∧ t.tasks.slots = s.tasks.slots) ∧
    (∀ e : Rejection, s.validate (s.imageBytes s.image.addr img) = .inr e →
      ∃ t, exec (.imageLoadDone img) s = .next (finished t) ∧
        t.image = { s.image with
          state := 3, loading := false, fault := e.fault, failRec := e.idx, offset := e.off
          knotEdge := e.edge.getD 0, knotValid := e.edge.isSome } ∧
        t.face = { s.face with loadDone := true } ∧
        (∃ f : FaultEntry, f.value = e.fault ∧ f.scope = 0 ∧ f.detail = e.idx % 2 ^ 32 ∧
          t.faults = { s.faults with unnumbered := s.faults.unnumbered ++ [f] }) ∧
        (faultClass e.fault ≠ 4 →
          { t with
            image := s.image, face := s.face, faults := s.faults, outs := s.outs, clock := s.clock, fresh := s.fresh } = s))

/-- 11 R459 steps 3 to 6, R460, R461, R463, R465 to R467, R470: the ends of a reshape's phases at an instance. A phase that ends
writes its journal entry; an accepted entry is the last one; QUERY is sent again every 10 µs. R458, R459, R462, R463, R467,
R468: the reshape flits at their target. PREPARE begins a reshape, and goes down; DRAIN and SWAP lead on; VOTE, DRAINED, SWAPPED
and DONE of the last child end the phase at an instance that has ended its own part: at the root the next one begins, and any
other instance tells its parent. A NO vote, ABORT, and an OUTCOME that says so abort; COMMIT commits, is answered by DONE where
the epoch is the new one already, and lets an instance that asks read the new image, as a committed OUTCOME does. A flit of
another reshape has no effect. What a NO vote leaves in the registers, what drained asks for, and what an instance that rolls
forward does with a child's DONE are read from the rules (log entries 47, 50 and 72). -/
def Obligations.ReshapePhasesEnd : Prop :=
  (∀ s : State, s.live →
    (∀ img : Blob, s.reshape.reading = true → s.reshape.rolling = false →
      (∀ e : Rejection, s.checkReshape (s.imageBytes s.image.reshapeAddr img) = .inr e →
        ∃ t, exec (.reshapeValidateDone img) s = .next (finished t) ∧ t.reshape.voteNo = true ∧
          t.reshape.fault = e.fault ∧ t.reshape.reading = false ∧ t.reshape.jOut = s.reshape.jOut ++ [1] ∧
          t.image = { s.image with offset := e.off } ∧ t.reshape.staged = s.reshape.staged ∧
          (∃ f : FaultEntry, f.value = e.fault ∧ t.faults.unnumbered = s.faults.unnumbered ++ [f])) ∧
      (∀ ps : List Placed, s.checkReshape (s.imageBytes s.image.reshapeAddr img) = .inl ps →
        ∃ t, exec (.reshapeValidateDone img) s = .next (finished t) ∧ t.reshape.voteNo = s.reshape.voteNo ∧
          t.reshape.reading = false ∧ t.reshape.staged = ps.map Placed.r ∧ t.reshape.affected = affectedOf (ps.map Placed.r) ∧
          t.reshape.jOut = s.reshape.jOut ++ [1] ∧ t.image = s.image ∧ t.faults = s.faults)) ∧
    (s.drainOver = true →
      ∃ t, exec .drainComplete s = .next (finished t) ∧ t.reshape = { s.reshape with
          drainWait := false, jSeq := (s.reshape.jSeq + 1) % 2 ^ 32, jOut := s.reshape.jOut ++ [2] } ∧
        t.tasks = s.tasks ∧ t.image = s.image ∧ t.faults = s.faults) ∧
    (∀ table, s.reshape.phase = 3 → s.image.busy.contains table = true → s.lookups table (1 - s.activeBank table) = 0 →
      ∃ t, exec (.bankWrite table) s = .next (finished t) ∧ t.image.busy = s.image.busy.filter (· != table) ∧
        t.image.active = s.image.active ∧ t.image.recs = s.image.recs ∧
        (s.image.busy.filter (· != table) = [] → t.reshape.jOut = s.reshape.jOut ++ [3]) ∧
        (s.image.busy.filter (· != table) ≠ [] → t.reshape = s.reshape) ∧
        (s.activeBank table = 0 → t.image.bank0 = s.image.bank0 ∧
          t.image.bank1 = s.image.bank1.filter (fun r => tableOf r.type != table) ++
            s.reshape.staged.filter (fun r => isBanked r.type && tableOf r.type == table)) ∧ t.tasks = s.tasks) ∧
    (s.reshape.querying = true → s.reshape.askedAt + 1000 ≤ s.power.heart → s.isRoot = false → s.reshape.jOut = [] →
      ∃ t, exec .queryRepeat s = .next (finished t) ∧
        t.reshape = { s.reshape with askedAt := s.power.heart } ∧
        (∀ y, s.nextHop (pathCode []) = some y → s.hasPort y = true → y < s.ports.length →
          ((t.port y).queue.getLast?.map (fun m => (m.cls, m.kind, fld m.content.toNat 0 8))) = some (0, 0x07, 10)) ∧
        t.image = s.image ∧ t.tasks = s.tasks) ∧
    (∀ (ph : Nat) (rest : List Nat), s.reshape.jOut = ph :: rest →
      ∃ t, exec .journalWritten s = .next (finished t) ∧
        t.reshape.jLast = some (ph, s.isRoot, sub32 s.reshape.newEpoch 1, s.reshape.newEpoch, s.reshape.affected) ∧
        (ph = 5 → t.reshape.result = 1 ∧ t.reshape.phase = 0 ∧ t.face.reshapeDone = true) ∧
        (ph ≠ 5 → ph ≠ s.reshape.phase → t.reshape.jOut = rest ∧ t.image = s.image ∧ t.reshape.phase = s.reshape.phase))) ∧
  (∀ (s : State) (x : Nat) (flit : Granule), s.live → s.receives x → routeDest flit = s.selfCode → s.reshape.jOut = [] →
    let r := s.reshape;
    let w := flit.toNat;
    let epoch := fld w 32 32;
    let affected := fld w 64 64;
    let up := pathCode (s.partnerPath 0);
    let queued (t : State) (dest payload : Nat) : Prop := ∀ y, s.nextHop dest = some y → s.hasPort y = true →
      y < s.ports.length → { cls := 0, pool := poolSystem, kind := 0x07, content := routed payload (s.route dest 0 true) } ∈
        (t.port y).queue;
    let aborted (t : State) : Prop := t.reshape.phase = 0 ∧ t.reshape.result = 2 ∧ t.reshape.querying = false ∧
      t.image.aborts = (s.image.aborts + 1) % 2 ^ 64 ∧ t.reshape.jOut = [6] ∧ t.face.reshapeDone = true;
    let still (t : State) : Prop := t.reshape = s.reshape ∧ t.image = s.image ∧ t.tasks = s.tasks ∧ t.faults = s.faults;
    let running : Prop := r.newEpoch = epoch ∧ 1 ≤ r.phase ∧ r.phase ≤ 3;
    let last : Prop := r.selfDone = true ∧ ∀ k ∈ r.kids, k = x ∨ k ∈ r.heard;
    (fld w 0 8 = 1 →
      (r.phase = 0 → r.querying = false →
        ∃ t, exec (.prepare x flit) s = .next (finished t) ∧ t.reshape.phase = 1 ∧ t.reshape.newEpoch = epoch ∧
          t.reshape.affected = affected ∧ t.reshape.reading = true ∧ t.reshape.kids = s.liveKids ∧ t.reshape.voteNo = false ∧
          (∀ y ∈ s.liveKids, queued t (pathCode (s.partnerPath y)) (reshapePayload 1 0 0 epoch affected)) ∧
          t.image = s.image ∧ t.tasks = s.tasks) ∧
      (r.phase ≠ 0 ∨ r.querying = true → ∃ t, exec (.prepare x flit) s = .next (finished t) ∧ still t)) ∧
    (∀ (op phase : Nat) (c : Instr), fld w 0 8 = op →
      (op = 2 ∧ fld w 8 8 = 1 ∧ phase = 1 ∧ c = .vote x flit ∨ op = 4 ∧ phase = 2 ∧ c = .drained x flit ∨
        op = 6 ∧ phase = 3 ∧ c = .swapped x flit ∨ op = 8 ∧ phase = 4 ∧ c = .doneMsg x flit) →
      (r.newEpoch ≠ epoch ∨ r.rolling = false ∧ r.phase ≠ phase → ∃ t, exec c s = .next (finished t) ∧ still t) ∧
      (r.newEpoch = epoch → r.rolling = true → op = 8 →
        ∃ t, exec c s = .next (finished t) ∧ t.reshape = { r with heard := dedup (r.heard ++ [x]) } ∧ t.image = s.image) ∧
      (r.newEpoch = epoch → r.rolling = false → r.phase = phase →
        (¬ last → ∃ t, exec c s = .next (finished t) ∧ t.reshape = { r with heard := dedup (r.heard ++ [x]) } ∧
          t.image = s.image ∧ t.tasks = s.tasks) ∧
        (last → s.isRoot = true →
          ∃ t, exec c s = .next (finished t) ∧ t.reshape.heard = [] ∧ t.reshape.selfDone = false ∧
            (phase = 1 → t.reshape.phase = 2 ∧ t.reshape.drainWait = true ∧ t.tasks = s.tasks) ∧
            (phase = 2 → t.reshape.phase = 3) ∧
            (phase = 3 → t.reshape.phase = 4 ∧ t.reshape.jOut = [4] ∧ t.image = s.image) ∧
            (phase = 4 → t.reshape.phase = 4 ∧ t.reshape.jOut = [5] ∧ t.image = s.image)) ∧
        (last → s.isRoot = false →
          ∃ t, exec c s = .next (finished t) ∧ queued t up (reshapePayload op (if op = 2 then 1 else 0) 0 epoch r.affected) ∧
            (phase ≠ 4 → t.reshape = { r with selfDone := false, heard := [] }) ∧
            (phase = 4 → t.reshape.phase = 0 ∧ t.reshape.result = 1) ∧ t.image = s.image ∧ t.tasks = s.tasks))) ∧
    (fld w 0 8 = 2 → fld w 8 8 ≠ 1 →
      (running → s.isRoot = true → ∃ t, exec (.vote x flit) s = .next (finished t) ∧ aborted t) ∧
      (running → s.isRoot = false →
        ∃ t, exec (.vote x flit) s = .next (finished t) ∧ queued t up (reshapePayload 2 0 (fld w 16 16) epoch r.affected) ∧
          t.reshape = { r with fault := fld w 16 16 } ∧ t.image = s.image) ∧
      (¬ running → ∃ t, exec (.vote x flit) s = .next (finished t) ∧ still t)) ∧
    (fld w 0 8 = 3 →
      (r.newEpoch = epoch → r.phase = 1 → r.querying = false →
        ∃ t, exec (.drain x flit) s = .next (finished t) ∧ t.reshape = { r with
            phase := 2, drainWait := true, selfDone := false, heard := [] } ∧
          (∀ y ∈ s.liveKids, queued t (pathCode (s.partnerPath y)) (reshapePayload 3 0 0 epoch r.affected)) ∧
          t.image = s.image ∧ t.tasks = s.tasks) ∧
      (r.newEpoch ≠ epoch ∨ r.phase ≠ 1 ∨ r.querying = true →
        ∃ t, exec (.drain x flit) s = .next (finished t) ∧ still t)) ∧
    (fld w 0 8 = 5 →
      (r.newEpoch = epoch → r.phase = 2 → r.querying = false →
        ∃ t, exec (.swap x flit) s = .next (finished t) ∧ t.reshape.phase = 3 ∧ t.reshape.staged = r.staged ∧
          t.image.recs = s.image.recs ∧ t.image.active = s.image.active ∧
          (t.image.busy = [] → t.reshape.jOut = [3]) ∧ (t.image.busy ≠ [] → t.reshape.jOut = [])) ∧
      (r.newEpoch ≠ epoch ∨ r.phase ≠ 2 ∨ r.querying = true →
        ∃ t, exec (.swap x flit) s = .next (finished t) ∧ still t)) ∧
    (fld w 0 8 = 7 →
      (s.image.epoch = epoch →
        ∃ t, exec (.commit x flit) s = .next (finished t) ∧ queued t up (reshapePayload 8 0 0 epoch affected) ∧ still t) ∧
      (s.image.epoch ≠ epoch → r.newEpoch = epoch → r.querying = true →
        ∃ t, exec (.commit x flit) s = .next (finished t) ∧
          t.reshape = { r with querying := false, rolling := true, reading := true, selfDone := false, heard := [] } ∧
          t.image = s.image) ∧
      (s.image.epoch ≠ epoch → r.newEpoch = epoch → r.querying = false → r.rolling = false → r.phase = 3 →
        ∃ t, exec (.commit x flit) s = .next (finished t) ∧ t.image.epoch = epoch ∧ t.image.recs = r.staged ∧
          t.image.commits = (s.image.commits + 1) % 2 ^ 64 ∧ t.image.active = s.image.active.map (fun b => 1 - b) ∧
          t.reshape.phase = 4 ∧ t.reshape.jOut = [4]) ∧
      (s.image.epoch ≠ epoch → r.newEpoch ≠ epoch → ∃ t, exec (.commit x flit) s = .next (finished t) ∧ still t)) ∧
    (fld w 0 8 = 9 →
      (running → ∃ t, exec (.abortMsg x flit) s = .next (finished t) ∧ aborted t) ∧
      (¬ running → ∃ t, exec (.abortMsg x flit) s = .next (finished t) ∧ still t)) ∧
    (fld w 0 8 = 10 →
      let done : Prop := ∃ ph b o a, r.jLast = some (ph, b, o, epoch, a) ∧ (ph = 4 ∨ ph = 5);
      (s.isRoot = false →
        ∃ t, exec (.query x flit) s = .next (finished t) ∧ still t ∧
          ∀ y, s.nextHop (pathCode []) = some y → s.hasPort y = true → y < s.ports.length →
            { cls := 0, pool := poolSystem, kind := 0x07
              content := routed (reshapePayload 10 (fld w 8 8) (fld w 16 16) epoch affected)
                (routeWord (routeSrc flit) (pathCode []) 0 true) } ∈ (t.port y).queue) ∧
      (s.isRoot = true → done →
        ∃ t, exec (.query x flit) s = .next (finished t) ∧ still t ∧
          queued t (routeSrc flit) (reshapePayload 11 1 0 epoch affected)) ∧
      (s.isRoot = true → ¬ done → r.olderWait = false → r.phase = 0 ∨ 4 ≤ r.phase →
        ∃ t, exec (.query x flit) s = .next (finished t) ∧ still t ∧
          queued t (routeSrc flit) (reshapePayload 11 0 0 epoch affected)) ∧
      (s.isRoot = true → ¬ done → r.olderWait = true ∨ 1 ≤ r.phase ∧ r.phase ≤ 3 →
        ∃ t, exec (.query x flit) s = .next (finished t) ∧ aborted t)) ∧
    (fld w 0 8 = 11 →
      (r.querying = true → r.newEpoch = epoch → fld w 8 8 = 1 →
        ∃ t, exec (.outcome x flit) s = .next (finished t) ∧
          t.reshape = { r with querying := false, rolling := true, reading := true, selfDone := false, heard := [] } ∧
          t.image = s.image) ∧
      (r.querying = true → r.newEpoch = epoch → fld w 8 8 ≠ 1 →
        ∃ t, exec (.outcome x flit) s = .next (finished t) ∧ aborted t ∧ t.power.replay = 1) ∧
      (r.querying = false ∨ r.newEpoch ≠ epoch → ∃ t, exec (.outcome x flit) s = .next (finished t) ∧ still t)))

/-- 13 R543, R544: what a warm reset keeps, and what takes its reset value, when it is released and CLEAR begins: the ledger,
the timer, the power limits, the role and its place, the running image, the boundary counts and the acknowledged records of the
host rings; not the work. When CLEAR is over an instance that holds no role is EMPTY, and keeps of its serving state the fence,
the step and the next intake sequence number only. -/
def Obligations.WarmResetKeeps : Prop :=
  (∀ (s : State) (journal img : Blob), s.wrapper.undefined = false → s.power.coldReset = false → s.power.bothResets = false →
    s.faults.unnumbered = [] →
      ∃ t, exec (.rstWarm journal img) s = .next (finished t) ∧
        t.power = { State.reset.power with
          fastStable := s.power.fastStable, ratio := s.power.ratio, cap := s.power.cap, capRatio := s.power.capRatio
          hyst := s.power.hyst, flushed := s.power.flushed, heart := s.power.heart, gangMax := s.power.gangMax
          warm := true, phase := 1, replayIn := some (journal, img)
          ungating := (List.range 8).map (fun d => d == swGov && s.power.cap != 0) } ∧
        t.faults.ledger = s.faults.ledger ∧ t.faults.lastSeq = s.faults.lastSeq ∧ t.faults.raised = s.faults.raised ∧
        t.tasks = State.reset.tasks ∧ t.jigs = State.reset.jigs ∧ t.sync = State.reset.sync ∧
        t.reduce = State.reset.reduce ∧ t.bed = State.reset.bed ∧ t.store = s.store ∧ t.held = [] ∧ t.outs = [] ∧
        (∀ p c, t.ctx p c = { partings := (s.ctx p c).partings }) ∧
        (∀ p, (t.det p).det = (s.det p).det ∧ (t.det p).boundary = (s.det p).boundary ∧ (t.det p).acks = []) ∧
        (∀ p, (t.serve p).expected = (s.serve p).expected ∧ (t.serve p).fenceSeq = (s.serve p).fenceSeq) ∧
        (∀ p, (t.hostq p).evtAcked = (s.hostq p).evtAcked ∧ (t.hostq p).cplAcked = (s.hostq p).cplAcked) ∧
        (∀ x, x < 9 → (t.port x).isl = (s.port x).isl ∧ (t.port x).state = 0 ∧ (t.port x).replay = []) ∧
        t.face.role = s.face.role ∧ t.face.path = s.face.path ∧ t.image.recs = s.image.recs ∧ t.image.epoch = s.image.epoch ∧
        t.image.digest = s.image.digest ∧ t.image.runAddr = s.image.runAddr ∧ t.image.older = 0 ∧ t.image.loading = false ∧
        t.reshape = { State.reset.reshape with result := s.reshape.result } ∧
        t.wrapper = s.wrapper ∧ t.pending = s.pending ∧ t.build = s.build) ∧
  (∀ (s : State) (journal img : Blob), s.pending = [] → s.wrapper.undefined = false → s.power.inReset = false → s.work = [] →
    s.faults.unnumbered = [] → s.power.phase = 1 → s.power.fastStable = true → s.power.replayIn = some (journal, img) →
    s.hasRole = false → s.bed.readWait = [] → s.bed.writeWait = [] → (∀ d, s.power.ungating.getD d false = false) →
    ∃ t, step s = .next t ∧ t.power.phase = 2 ∧ t.power.replayIn = none ∧ t.pages = [] ∧
      (∀ p, t.serve p = (s.serve p).kept) ∧ t.image = s.image ∧ t.dets = s.dets ∧ t.tasks = s.tasks)

/-- 13 R550, R558: when the hc ends, the entries raised in it are numbered in ascending source code and enter the ledger, the
oldest of 1,024 being overwritten; FAULT_SEL shows an entry that the ledger holds. For one or two entries that no event
tells of (their scope is none). -/
def Obligations.FaultsAreNumbered : Prop :=
  ∀ s : State, s.pending = [] → s.wrapper.undefined = false → s.power.inReset = false → s.work = [] → 2 ≤ s.power.phase →
    let next := (s.faults.lastSeq + 1) % 2 ^ 16;
    (∀ e : FaultEntry, s.faults.unnumbered = [e] → e.scope = 0 →
      let kept := if 1024 ≤ s.faults.ledger.length then s.faults.ledger.drop 1 else s.faults.ledger;
      ∃ t, step s = .next t ∧ t.faults.unnumbered = [] ∧ t.faults.ledger = kept ++ [{ e with seq := next }] ∧
        t.faults.lastSeq = next ∧ t.faults.empty = false ∧ t.faults.raised = (s.faults.raised + 1) % 2 ^ 64 ∧
        t.faults.overwritten =
          (if 1024 ≤ s.faults.ledger.length then satInc s.faults.overwritten 0xFFFFFFFF else s.faults.overwritten) ∧
        t.faults.selSeq = s.faults.selSeq ∧
        (s.faults.selSeq = next → (∀ x ∈ kept, x.seq ≠ next) →
          t.faults.selValid = true ∧ t.faults.entry0 = fld ({ e with seq := next } : FaultEntry).bits 0 64 ∧
            t.faults.entry1 = fld ({ e with seq := next } : FaultEntry).bits 64 64) ∧
        { t with faults := s.faults, power := s.power, outs := s.outs, fresh := s.fresh } = s) ∧
    (∀ a b : FaultEntry, s.faults.unnumbered = [a, b] → a.scope = 0 → b.scope = 0 → s.faults.ledger.length < 1023 →
      ∃ t, step s = .next t ∧ t.faults.unnumbered = [] ∧ t.faults.lastSeq = (next + 1) % 2 ^ 16 ∧
        (a.source ≤ b.source → t.faults.ledger =
          s.faults.ledger ++ [{ a with seq := next }, { b with seq := (next + 1) % 2 ^ 16 }]) ∧
        (b.source < a.source → t.faults.ledger =
          s.faults.ledger ++ [{ b with seq := next }, { a with seq := (next + 1) % 2 ^ 16 }]))

end
end

