-- ==== Sys2Proof/Laws/Arms.lean ====
section
/-!
SUPPORT. The arm of each command, true by definition: a prover rewrites with these and does not unfold the dispatch.
-/
namespace Sys2Proof.Machine

@[simp] theorem exec_fpWrite (off : Nat) (data : Word) (s : State) : exec (.fpWrite off data) s = execFpWrite off data s := rfl
@[simp] theorem exec_rstCold (s : State) : exec (.rstCold) s = execRstCold s := rfl
@[simp] theorem exec_rstWarm (journal : Blob) (image : Blob) (s : State) : exec (.rstWarm journal image) s = execRstWarm journal image s := rfl
@[simp] theorem exec_domainUngate (d : Nat) (s : State) : exec (.domainUngate d) s = execDomainUngate d s := rfl
@[simp] theorem exec_domainGate (d : Nat) (s : State) : exec (.domainGate d) s = execDomainGate d s := rfl
@[simp] theorem exec_clockLoss (s : State) : exec (.clockLoss) s = execClockLoss s := rfl
@[simp] theorem exec_fastStableRise (s : State) : exec (.fastStableRise) s = execFastStableRise s := rfl
@[simp] theorem exec_supervisorParity (s : State) : exec (.supervisorParity) s = execSupervisorParity s := rfl
@[simp] theorem exec_statusRecord (port : Nat) (rec' : Word) (s : State) : exec (.statusRecord port rec') s = execStatusRecord port rec' s := rfl
@[simp] theorem exec_edgeGranuleArrive (tag : Nat) (data : Granule) (err : Bool) (s : State) : exec (.edgeGranuleArrive tag data err) s = execEdgeGranuleArrive tag data err s := rfl
@[simp] theorem exec_seasonFetchArrive (tag : Nat) (data : Granule) (err : Bool) (s : State) : exec (.seasonFetchArrive tag data err) s = execSeasonFetchArrive tag data err s := rfl
@[simp] theorem exec_descFetchArrive (tag : Nat) (data : Granule) (err : Bool) (s : State) : exec (.descFetchArrive tag data err) s = execDescFetchArrive tag data err s := rfl
@[simp] theorem exec_fetchGrant (s : State) : exec (.fetchGrant) s = execFetchGrant s := rfl
@[simp] theorem exec_predicateArrive (tag : Nat) (data : Granule) (err : Bool) (s : State) : exec (.predicateArrive tag data err) s = execPredicateArrive tag data err s := rfl
@[simp] theorem exec_taskDispatch (s : State) : exec (.taskDispatch) s = execTaskDispatch s := rfl
@[simp] theorem exec_taskTimeout (delegated : Bool) (idx : Nat) (s : State) : exec (.taskTimeout delegated idx) s = execTaskTimeout delegated idx s := rfl
@[simp] theorem exec_engineRelease (port : Nat) (s : State) : exec (.engineRelease port) s = execEngineRelease port s := rfl
@[simp] theorem exec_engineSuspectClear (port : Nat) (s : State) : exec (.engineSuspectClear port) s = execEngineSuspectClear port s := rfl
@[simp] theorem exec_dispatch (port : Nat) (flit : Granule) (s : State) : exec (.dispatch port flit) s = execDispatch port flit s := rfl
@[simp] theorem exec_completion (port : Nat) (flit : Granule) (s : State) : exec (.completion port flit) s = execCompletion port flit s := rfl
@[simp] theorem exec_launchRecordArrive (tag : Nat) (data : Granule) (err : Bool) (s : State) : exec (.launchRecordArrive tag data err) s = execLaunchRecordArrive tag data err s := rfl
@[simp] theorem exec_jigCacheFill (tag : Nat) (data : Granule) (err : Bool) (s : State) : exec (.jigCacheFill tag data err) s = execJigCacheFill tag data err s := rfl
@[simp] theorem exec_paramWordsArrive (tag : Nat) (data : Granule) (err : Bool) (s : State) : exec (.paramWordsArrive tag data err) s = execParamWordsArrive tag data err s := rfl
@[simp] theorem exec_launchReserve (p : Nat) (s : State) : exec (.launchReserve p) s = execLaunchReserve p s := rfl
@[simp] theorem exec_launchDoorbell (p : Nat) (data : Word) (s : State) : exec (.launchDoorbell p data) s = execLaunchDoorbell p data s := rfl
@[simp] theorem exec_cmdlistReadArrive (tag : Nat) (data : Granule) (err : Bool) (s : State) : exec (.cmdlistReadArrive tag data err) s = execCmdlistReadArrive tag data err s := rfl
@[simp] theorem exec_segment (port : Nat) (flit : Granule) (s : State) : exec (.segment port flit) s = execSegment port flit s := rfl
@[simp] theorem exec_segmentResend (exch : Nat) (pos : Nat) (gen : Nat) (s : State) : exec (.segmentResend exch pos gen) s = execSegmentResend exch pos gen s := rfl
@[simp] theorem exec_intakeFrame (header : Option (BitVec 256)) (beats : List (BitVec 256)) (s : State) : exec (.intakeFrame header beats) s = execIntakeFrame header beats s := rfl
@[simp] theorem exec_newStream (p : Nat) (s : State) : exec (.newStream p) s = execNewStream p s := rfl
@[simp] theorem exec_appendTokens (p : Nat) (s : State) : exec (.appendTokens p) s = execAppendTokens p s := rfl
@[simp] theorem exec_endStream (p : Nat) (s : State) : exec (.endStream p) s = execEndStream p s := rfl
@[simp] theorem exec_cancel (p : Nat) (s : State) : exec (.cancel p) s = execCancel p s := rfl
@[simp] theorem exec_setDeadline (p : Nat) (s : State) : exec (.setDeadline p) s = execSetDeadline p s := rfl
@[simp] theorem exec_intake (port : Nat) (flit : Granule) (s : State) : exec (.intake port flit) s = execIntake port flit s := rfl
@[simp] theorem exec_intakeDoorbell (p : Nat) (data : Word) (s : State) : exec (.intakeDoorbell p data) s = execIntakeDoorbell p data s := rfl
@[simp] theorem exec_stepComplete (p : Nat) (results : List (BitVec 32)) (s : State) : exec (.stepComplete p results) s = execStepComplete p results s := rfl
@[simp] theorem exec_stepFloorExpire (p : Nat) (s : State) : exec (.stepFloorExpire p) s = execStepFloorExpire p s := rfl
@[simp] theorem exec_stepForm (p : Nat) (s : State) : exec (.stepForm p) s = execStepForm p s := rfl
@[simp] theorem exec_digestDone (p : Nat) (s : State) : exec (.digestDone p) s = execDigestDone p s := rfl
@[simp] theorem exec_serveFence (p : Nat) (data : Word) (s : State) : exec (.serveFence p data) s = execServeFence p data s := rfl
@[simp] theorem exec_stepRelease (p : Nat) (data : Word) (s : State) : exec (.stepRelease p data) s = execStepRelease p data s := rfl
@[simp] theorem exec_moveComplete (p : Nat) (ledger : Nat) (s : State) : exec (.moveComplete p ledger) s = execMoveComplete p ledger s := rfl
@[simp] theorem exec_pageWarm (p : Nat) (data : Word) (s : State) : exec (.pageWarm p data) s = execPageWarm p data s := rfl
@[simp] theorem exec_signal (src : Nat) (req : BitVec 128) (s : State) : exec (.signal src req) s = execSignal src req s := rfl
@[simp] theorem exec_wait (src : Nat) (req : BitVec 128) (s : State) : exec (.wait src req) s = execWait src req s := rfl
@[simp] theorem exec_tryTake (src : Nat) (req : BitVec 128) (s : State) : exec (.tryTake src req) s = execTryTake src req s := rfl
@[simp] theorem exec_take (src : Nat) (req : BitVec 128) (s : State) : exec (.take src req) s = execTake src req s := rfl
@[simp] theorem exec_syncRead (src : Nat) (req : BitVec 128) (s : State) : exec (.syncRead src req) s = execSyncRead src req s := rfl
@[simp] theorem exec_arrive (src : Nat) (req : BitVec 128) (s : State) : exec (.arrive src req) s = execArrive src req s := rfl
@[simp] theorem exec_arriveWait (src : Nat) (req : BitVec 128) (s : State) : exec (.arriveWait src req) s = execArriveWait src req s := rfl
@[simp] theorem exec_bwait (src : Nat) (req : BitVec 128) (s : State) : exec (.bwait src req) s = execBwait src req s := rfl
@[simp] theorem exec_switchCtx (src : Nat) (req : BitVec 128) (s : State) : exec (.switchCtx src req) s = execSwitchCtx src req s := rfl
@[simp] theorem exec_remoteSync (port : Nat) (flit : Granule) (s : State) : exec (.remoteSync port flit) s = execRemoteSync port flit s := rfl
@[simp] theorem exec_syncDbgSel (data : Word) (s : State) : exec (.syncDbgSel data) s = execSyncDbgSel data s := rfl
@[simp] theorem exec_syncDump (data : Word) (s : State) : exec (.syncDump data) s = execSyncDump data s := rfl
@[simp] theorem exec_syncDumpDone (err : Bool) (s : State) : exec (.syncDumpDone err) s = execSyncDumpDone err s := rfl
@[simp] theorem exec_send (src : Nat) (req : BitVec 128) (s : State) : exec (.send src req) s = execSend src req s := rfl
@[simp] theorem exec_sendPayloadReady (tag : Nat) (data : Granule) (err : Bool) (s : State) : exec (.sendPayloadReady tag data err) s = execSendPayloadReady tag data err s := rfl
@[simp] theorem exec_message (port : Nat) (flit : Granule) (payload : Blob) (s : State) : exec (.message port flit payload) s = execMessage port flit payload s := rfl
@[simp] theorem exec_messageRingWritten (chan : Nat) (seq : Nat) (s : State) : exec (.messageRingWritten chan seq) s = execMessageRingWritten chan seq s := rfl
@[simp] theorem exec_answer (port : Nat) (flit : Granule) (s : State) : exec (.answer port flit) s = execAnswer port flit s := rfl
@[simp] theorem exec_answerTimeout (chan : Nat) (seq : Nat) (s : State) : exec (.answerTimeout chan seq) s = execAnswerTimeout chan seq s := rfl
@[simp] theorem exec_messageResend (chan : Nat) (seq : Nat) (s : State) : exec (.messageResend chan seq) s = execMessageResend chan seq s := rfl
@[simp] theorem exec_queueWrite (src : Nat) (req : BitVec 128) (s : State) : exec (.queueWrite src req) s = execQueueWrite src req s := rfl
@[simp] theorem exec_queueRead (src : Nat) (req : BitVec 128) (s : State) : exec (.queueRead src req) s = execQueueRead src req s := rfl
@[simp] theorem exec_mark (src : Nat) (req : BitVec 128) (s : State) : exec (.mark src req) s = execMark src req s := rfl
@[simp] theorem exec_rewind (src : Nat) (req : BitVec 128) (s : State) : exec (.rewind src req) s = execRewind src req s := rfl
@[simp] theorem exec_queueRelease (src : Nat) (req : BitVec 128) (s : State) : exec (.queueRelease src req) s = execQueueRelease src req s := rfl
@[simp] theorem exec_pktBegin (src : Nat) (req : BitVec 128) (s : State) : exec (.pktBegin src req) s = execPktBegin src req s := rfl
@[simp] theorem exec_pktEnd (src : Nat) (req : BitVec 128) (s : State) : exec (.pktEnd src req) s = execPktEnd src req s := rfl
@[simp] theorem exec_queueStatus (src : Nat) (req : BitVec 128) (s : State) : exec (.queueStatus src req) s = execQueueStatus src req s := rfl
@[simp] theorem exec_queueRefillArrive (tag : Nat) (low high : BitVec 256) (err : Bool) (s : State) :
    exec (.queueRefillArrive tag low high err) s = execQueueRefillArrive tag low high err s := rfl
@[simp] theorem exec_queueTimeout (q : Nat) (s : State) : exec (.queueTimeout q) s = execQueueTimeout q s := rfl
@[simp] theorem exec_hostqAck (p : Nat) (evt : Bool) (data : Word) (s : State) : exec (.hostqAck p evt data) s = execHostqAck p evt data s := rfl
@[simp] theorem exec_hostqRecordAccepted (p : Nat) (evt : Bool) (s : State) : exec (.hostqRecordAccepted p evt) s = execHostqRecordAccepted p evt s := rfl
@[simp] theorem exec_hostqRecordRetry (p : Nat) (s : State) : exec (.hostqRecordRetry p) s = execHostqRecordRetry p s := rfl
@[simp] theorem exec_quantumExpire (p : Nat) (s : State) : exec (.quantumExpire p) s = execQuantumExpire p s := rfl
@[simp] theorem exec_ctxBringIn (p : Nat) (c : Nat) (s : State) : exec (.ctxBringIn p c) s = execCtxBringIn p c s := rfl
@[simp] theorem exec_ctxDemote (p : Nat) (c : Nat) (s : State) : exec (.ctxDemote p c) s = execCtxDemote p c s := rfl
@[simp] theorem exec_ctxPart (p : Nat) (c : Nat) (s : State) : exec (.ctxPart p c) s = execCtxPart p c s := rfl
@[simp] theorem exec_ctxRestore (p : Nat) (c : Nat) (s : State) : exec (.ctxRestore p c) s = execCtxRestore p c s := rfl
@[simp] theorem exec_part (port : Nat) (flit : Granule) (s : State) : exec (.part port flit) s = execPart port flit s := rfl
@[simp] theorem exec_restore (port : Nat) (flit : Granule) (s : State) : exec (.restore port flit) s = execRestore port flit s := rfl
@[simp] theorem exec_borrow (src : Nat) (req : Word) (s : State) : exec (.borrow src req) s = execBorrow src req s := rfl
@[simp] theorem exec_returnRun (src : Nat) (req : Word) (s : State) : exec (.returnRun src req) s = execReturnRun src req s := rfl
@[simp] theorem exec_holdLimit (sem : Nat) (c : Nat) (s : State) : exec (.holdLimit sem c) s = execHoldLimit sem c s := rfl
@[simp] theorem exec_contributeRecordArrive (tag : Nat) (data : Granule) (err : Bool) (s : State) : exec (.contributeRecordArrive tag data err) s = execContributeRecordArrive tag data err s := rfl
@[simp] theorem exec_partialMsg (port : Nat) (flit : Granule) (mask : Blob) (data : Blob) (s : State) : exec (.partialMsg port flit mask data) s = execPartialMsg port flit mask data s := rfl
@[simp] theorem exec_ready (port : Nat) (flit : Granule) (s : State) : exec (.ready port flit) s = execReady port flit s := rfl
@[simp] theorem exec_result (port : Nat) (flit : Granule) (mask : Blob) (data : Blob) (s : State) : exec (.result port flit mask data) s = execResult port flit mask data s := rfl
@[simp] theorem exec_shard (port : Nat) (flit : Granule) (mask : Blob) (data : Blob) (s : State) : exec (.shard port flit mask data) s = execShard port flit mask data s := rfl
@[simp] theorem exec_update (port : Nat) (flit : Granule) (data : Blob) (s : State) : exec (.update port flit data) s = execUpdate port flit data s := rfl
@[simp] theorem exec_reduceDeadline (slot : Nat) (s : State) : exec (.reduceDeadline slot) s = execReduceDeadline slot s := rfl
@[simp] theorem exec_deliveryDone (slot : Nat) (s : State) : exec (.deliveryDone slot) s = execDeliveryDone slot s := rfl
@[simp] theorem exec_detBoundary (p : Nat) (data : Word) (s : State) : exec (.detBoundary p data) s = execDetBoundary p data s := rfl
@[simp] theorem exec_boundaryTaken (p : Nat) (banks : List (Nat × Blob × Blob)) (s : State) : exec (.boundaryTaken p banks) s = execBoundaryTaken p banks s := rfl
@[simp] theorem exec_member (port : Nat) (flit : Granule) (bank : Blob) (s : State) : exec (.member port flit bank) s = execMember port flit bank s := rfl
@[simp] theorem exec_memberAck (port : Nat) (flit : Granule) (s : State) : exec (.memberAck port flit) s = execMemberAck port flit s := rfl
@[simp] theorem exec_imageLoad (data : Word) (s : State) : exec (.imageLoad data) s = execImageLoad data s := rfl
@[simp] theorem exec_imageLoadDone (img : Blob) (s : State) : exec (.imageLoadDone img) s = execImageLoadDone img s := rfl
@[simp] theorem exec_reshapeStart (data : Word) (s : State) : exec (.reshapeStart data) s = execReshapeStart data s := rfl
@[simp] theorem exec_reshapeAbort (data : Word) (s : State) : exec (.reshapeAbort data) s = execReshapeAbort data s := rfl
@[simp] theorem exec_prepare (port : Nat) (flit : Granule) (s : State) : exec (.prepare port flit) s = execPrepare port flit s := rfl
@[simp] theorem exec_reshapeValidateDone (img : Blob) (s : State) : exec (.reshapeValidateDone img) s = execReshapeValidateDone img s := rfl
@[simp] theorem exec_vote (port : Nat) (flit : Granule) (s : State) : exec (.vote port flit) s = execVote port flit s := rfl
@[simp] theorem exec_drain (port : Nat) (flit : Granule) (s : State) : exec (.drain port flit) s = execDrain port flit s := rfl
@[simp] theorem exec_drainComplete (s : State) : exec (.drainComplete) s = execDrainComplete s := rfl
@[simp] theorem exec_drained (port : Nat) (flit : Granule) (s : State) : exec (.drained port flit) s = execDrained port flit s := rfl
@[simp] theorem exec_swap (port : Nat) (flit : Granule) (s : State) : exec (.swap port flit) s = execSwap port flit s := rfl
@[simp] theorem exec_bankWrite (table : Nat) (s : State) : exec (.bankWrite table) s = execBankWrite table s := rfl
@[simp] theorem exec_swapped (port : Nat) (flit : Granule) (s : State) : exec (.swapped port flit) s = execSwapped port flit s := rfl
@[simp] theorem exec_commit (port : Nat) (flit : Granule) (s : State) : exec (.commit port flit) s = execCommit port flit s := rfl
@[simp] theorem exec_doneMsg (port : Nat) (flit : Granule) (s : State) : exec (.doneMsg port flit) s = execDoneMsg port flit s := rfl
@[simp] theorem exec_abortMsg (port : Nat) (flit : Granule) (s : State) : exec (.abortMsg port flit) s = execAbortMsg port flit s := rfl
@[simp] theorem exec_query (port : Nat) (flit : Granule) (s : State) : exec (.query port flit) s = execQuery port flit s := rfl
@[simp] theorem exec_outcome (port : Nat) (flit : Granule) (s : State) : exec (.outcome port flit) s = execOutcome port flit s := rfl
@[simp] theorem exec_queryRepeat (s : State) : exec (.queryRepeat) s = execQueryRepeat s := rfl
@[simp] theorem exec_journalWritten (s : State) : exec (.journalWritten) s = execJournalWritten s := rfl
@[simp] theorem exec_bedWriteAccept (tag : Nat) (err : Bool) (s : State) : exec (.bedWriteAccept tag err) s = execBedWriteAccept tag err s := rfl
@[simp] theorem exec_linkStateChange (port : Nat) (st : Nat) (s : State) : exec (.linkStateChange port st) s = execLinkStateChange port st s := rfl
@[simp] theorem exec_admitMsg (port : Nat) (flit : Granule) (s : State) : exec (.admitMsg port flit) s = execAdmitMsg port flit s := rfl
@[simp] theorem exec_ack (port : Nat) (flit : Granule) (s : State) : exec (.ack port flit) s = execAck port flit s := rfl
@[simp] theorem exec_nak (port : Nat) (flit : Granule) (s : State) : exec (.nak port flit) s = execNak port flit s := rfl
@[simp] theorem exec_replayBegin (port : Nat) (s : State) : exec (.replayBegin port) s = execReplayBegin port s := rfl
@[simp] theorem exec_credit (port : Nat) (flit : Granule) (s : State) : exec (.credit port flit) s = execCredit port flit s := rfl
@[simp] theorem exec_flitError (rx : Nat × BitVec 32 × Granule) (s : State) : exec (.flitError rx) s = execFlitError rx s := rfl
@[simp] theorem exec_linkProtocol (port : Nat) (s : State) : exec (.linkProtocol port) s = execLinkProtocol port s := rfl
@[simp] theorem exec_event (port : Nat) (flit : Granule) (s : State) : exec (.event port flit) s = execEvent port flit s := rfl
@[simp] theorem exec_ackTimer (port : Nat) (s : State) : exec (.ackTimer port) s = execAckTimer port s := rfl
@[simp] theorem exec_nakRepeat (port : Nat) (s : State) : exec (.nakRepeat port) s = execNakRepeat port s := rfl
@[simp] theorem exec_l1Idle (port : Nat) (s : State) : exec (.l1Idle port) s = execL1Idle port s := rfl
@[simp] theorem exec_linkTimeout (port : Nat) (s : State) : exec (.linkTimeout port) s = execLinkTimeout port s := rfl
@[simp] theorem exec_discoveryTimeout (port : Nat) (s : State) : exec (.discoveryTimeout port) s = execDiscoveryTimeout port s := rfl
@[simp] theorem exec_pgSample (sample : Word) (s : State) : exec (.pgSample sample) s = execPgSample sample s := rfl
@[simp] theorem exec_telemetryGap (s : State) : exec (.telemetryGap) s = execTelemetryGap s := rfl
@[simp] theorem exec_powerCap (data : Word) (s : State) : exec (.powerCap data) s = execPowerCap data s := rfl
@[simp] theorem exec_flush (data : Word) (s : State) : exec (.flush data) s = execFlush data s := rfl
@[simp] theorem exec_flushDone (s : State) : exec (.flushDone) s = execFlushDone s := rfl
@[simp] theorem exec_faultSel (data : Word) (s : State) : exec (.faultSel data) s = execFaultSel data s := rfl
@[simp] theorem exec_wsBypass (s : State) : exec (.wsBypass) s = execWsBypass s := rfl
@[simp] theorem exec_wsExtest (cells : Nat) (s : State) : exec (.wsExtest cells) s = execWsExtest cells s := rfl
@[simp] theorem exec_wsIntestScan (s : State) : exec (.wsIntestScan) s = execWsIntestScan s := rfl
@[simp] theorem exec_wsClamp (s : State) : exec (.wsClamp) s = execWsClamp s := rfl
@[simp] theorem exec_wsSafe (s : State) : exec (.wsSafe) s = execWsSafe s := rfl
@[simp] theorem exec_wbIdcode (s : State) : exec (.wbIdcode) s = execWbIdcode s := rfl
@[simp] theorem exec_wbMbist (data : Word) (s : State) : exec (.wbMbist data) s = execWbMbist data s := rfl
@[simp] theorem exec_wbFpaccess (data : BitVec 128) (s : State) : exec (.wbFpaccess data) s = execWbFpaccess data s := rfl
@[simp] theorem exec_clkFastStop (s : State) : exec (.clkFastStop) s = execClkFastStop s := rfl
@[simp] theorem exec_resetAssert (cold warm : Bool) (s : State) : exec (.resetAssert cold warm) s = execResetAssert cold warm s := rfl
@[simp] theorem exec_mbistDone (fail : Option Nat) (s : State) : exec (.mbistDone fail) s = execMbistDone fail s := rfl
@[simp] theorem exec_streamCacheFill (tag : Nat) (data : Granule) (err : Bool) (s : State) : exec (.streamCacheFill tag data err) s = execStreamCacheFill tag data err s := rfl
@[simp] theorem exec_ledgerCacheFill (tag : Nat) (data : Granule) (err : Bool) (s : State) : exec (.ledgerCacheFill tag data err) s = execLedgerCacheFill tag data err s := rfl

end Sys2Proof.Machine
end

