-- ==== Sys2Proof/Laws/State.lean ====
section
/-!
SUPPORT. What each update of the state leaves alone: one lemma for each field and update, true by definition.
-/
namespace Sys2Proof.Machine

@[simp] theorem modSlot_power (i : Nat) (f : Slot → Slot) (s : State) : (modSlot i f s).power = s.power := rfl
@[simp] theorem modSlot_face (i : Nat) (f : Slot → Slot) (s : State) : (modSlot i f s).face = s.face := rfl
@[simp] theorem modSlot_faults (i : Nat) (f : Slot → Slot) (s : State) : (modSlot i f s).faults = s.faults := rfl
@[simp] theorem modSlot_wrapper (i : Nat) (f : Slot → Slot) (s : State) : (modSlot i f s).wrapper = s.wrapper := rfl
@[simp] theorem modSlot_store (i : Nat) (f : Slot → Slot) (s : State) : (modSlot i f s).store = s.store := rfl
@[simp] theorem modSlot_held (i : Nat) (f : Slot → Slot) (s : State) : (modSlot i f s).held = s.held := rfl
@[simp] theorem modSlot_work (i : Nat) (f : Slot → Slot) (s : State) : (modSlot i f s).work = s.work := rfl
@[simp] theorem modSlot_outs (i : Nat) (f : Slot → Slot) (s : State) : (modSlot i f s).outs = s.outs := rfl
@[simp] theorem modSlot_pending (i : Nat) (f : Slot → Slot) (s : State) : (modSlot i f s).pending = s.pending := rfl
@[simp] theorem modSlot_jigs (i : Nat) (f : Slot → Slot) (s : State) : (modSlot i f s).jigs = s.jigs := rfl
@[simp] theorem modSlot_serves (i : Nat) (f : Slot → Slot) (s : State) : (modSlot i f s).serves = s.serves := rfl
@[simp] theorem modSlot_pages (i : Nat) (f : Slot → Slot) (s : State) : (modSlot i f s).pages = s.pages := rfl
@[simp] theorem modSlot_sync (i : Nat) (f : Slot → Slot) (s : State) : (modSlot i f s).sync = s.sync := rfl
@[simp] theorem modSlot_queues (i : Nat) (f : Slot → Slot) (s : State) : (modSlot i f s).queues = s.queues := rfl
@[simp] theorem modSlot_ctxs (i : Nat) (f : Slot → Slot) (s : State) : (modSlot i f s).ctxs = s.ctxs := rfl
@[simp] theorem modSlot_reduce (i : Nat) (f : Slot → Slot) (s : State) : (modSlot i f s).reduce = s.reduce := rfl
@[simp] theorem modSlot_dets (i : Nat) (f : Slot → Slot) (s : State) : (modSlot i f s).dets = s.dets := rfl
@[simp] theorem modSlot_image (i : Nat) (f : Slot → Slot) (s : State) : (modSlot i f s).image = s.image := rfl
@[simp] theorem modSlot_reshape (i : Nat) (f : Slot → Slot) (s : State) : (modSlot i f s).reshape = s.reshape := rfl
@[simp] theorem modSlot_ports (i : Nat) (f : Slot → Slot) (s : State) : (modSlot i f s).ports = s.ports := rfl
@[simp] theorem modSlot_bed (i : Nat) (f : Slot → Slot) (s : State) : (modSlot i f s).bed = s.bed := rfl
@[simp] theorem modSlot_clock (i : Nat) (f : Slot → Slot) (s : State) : (modSlot i f s).clock = s.clock := rfl
@[simp] theorem modSlot_build (i : Nat) (f : Slot → Slot) (s : State) : (modSlot i f s).build = s.build := rfl
@[simp] theorem modSlot_place (i : Nat) (f : Slot → Slot) (s : State) : (modSlot i f s).place = s.place := rfl
@[simp] theorem modSlot_fresh (i : Nat) (f : Slot → Slot) (s : State) : (modSlot i f s).fresh = s.fresh := rfl

@[simp] theorem setSlot_power (i : Nat) (x : Slot) (s : State) : (setSlot i x s).power = s.power := rfl
@[simp] theorem setSlot_face (i : Nat) (x : Slot) (s : State) : (setSlot i x s).face = s.face := rfl
@[simp] theorem setSlot_faults (i : Nat) (x : Slot) (s : State) : (setSlot i x s).faults = s.faults := rfl
@[simp] theorem setSlot_wrapper (i : Nat) (x : Slot) (s : State) : (setSlot i x s).wrapper = s.wrapper := rfl
@[simp] theorem setSlot_store (i : Nat) (x : Slot) (s : State) : (setSlot i x s).store = s.store := rfl
@[simp] theorem setSlot_held (i : Nat) (x : Slot) (s : State) : (setSlot i x s).held = s.held := rfl
@[simp] theorem setSlot_work (i : Nat) (x : Slot) (s : State) : (setSlot i x s).work = s.work := rfl
@[simp] theorem setSlot_outs (i : Nat) (x : Slot) (s : State) : (setSlot i x s).outs = s.outs := rfl
@[simp] theorem setSlot_pending (i : Nat) (x : Slot) (s : State) : (setSlot i x s).pending = s.pending := rfl
@[simp] theorem setSlot_jigs (i : Nat) (x : Slot) (s : State) : (setSlot i x s).jigs = s.jigs := rfl
@[simp] theorem setSlot_serves (i : Nat) (x : Slot) (s : State) : (setSlot i x s).serves = s.serves := rfl
@[simp] theorem setSlot_pages (i : Nat) (x : Slot) (s : State) : (setSlot i x s).pages = s.pages := rfl
@[simp] theorem setSlot_sync (i : Nat) (x : Slot) (s : State) : (setSlot i x s).sync = s.sync := rfl
@[simp] theorem setSlot_queues (i : Nat) (x : Slot) (s : State) : (setSlot i x s).queues = s.queues := rfl
@[simp] theorem setSlot_ctxs (i : Nat) (x : Slot) (s : State) : (setSlot i x s).ctxs = s.ctxs := rfl
@[simp] theorem setSlot_reduce (i : Nat) (x : Slot) (s : State) : (setSlot i x s).reduce = s.reduce := rfl
@[simp] theorem setSlot_dets (i : Nat) (x : Slot) (s : State) : (setSlot i x s).dets = s.dets := rfl
@[simp] theorem setSlot_image (i : Nat) (x : Slot) (s : State) : (setSlot i x s).image = s.image := rfl
@[simp] theorem setSlot_reshape (i : Nat) (x : Slot) (s : State) : (setSlot i x s).reshape = s.reshape := rfl
@[simp] theorem setSlot_ports (i : Nat) (x : Slot) (s : State) : (setSlot i x s).ports = s.ports := rfl
@[simp] theorem setSlot_bed (i : Nat) (x : Slot) (s : State) : (setSlot i x s).bed = s.bed := rfl
@[simp] theorem setSlot_clock (i : Nat) (x : Slot) (s : State) : (setSlot i x s).clock = s.clock := rfl
@[simp] theorem setSlot_build (i : Nat) (x : Slot) (s : State) : (setSlot i x s).build = s.build := rfl
@[simp] theorem setSlot_place (i : Nat) (x : Slot) (s : State) : (setSlot i x s).place = s.place := rfl
@[simp] theorem setSlot_fresh (i : Nat) (x : Slot) (s : State) : (setSlot i x s).fresh = s.fresh := rfl

@[simp] theorem modEngine_power (i : Nat) (f : Engine → Engine) (s : State) : (modEngine i f s).power = s.power := rfl
@[simp] theorem modEngine_face (i : Nat) (f : Engine → Engine) (s : State) : (modEngine i f s).face = s.face := rfl
@[simp] theorem modEngine_faults (i : Nat) (f : Engine → Engine) (s : State) : (modEngine i f s).faults = s.faults := rfl
@[simp] theorem modEngine_wrapper (i : Nat) (f : Engine → Engine) (s : State) : (modEngine i f s).wrapper = s.wrapper := rfl
@[simp] theorem modEngine_store (i : Nat) (f : Engine → Engine) (s : State) : (modEngine i f s).store = s.store := rfl
@[simp] theorem modEngine_held (i : Nat) (f : Engine → Engine) (s : State) : (modEngine i f s).held = s.held := rfl
@[simp] theorem modEngine_work (i : Nat) (f : Engine → Engine) (s : State) : (modEngine i f s).work = s.work := rfl
@[simp] theorem modEngine_outs (i : Nat) (f : Engine → Engine) (s : State) : (modEngine i f s).outs = s.outs := rfl
@[simp] theorem modEngine_pending (i : Nat) (f : Engine → Engine) (s : State) : (modEngine i f s).pending = s.pending := rfl
@[simp] theorem modEngine_jigs (i : Nat) (f : Engine → Engine) (s : State) : (modEngine i f s).jigs = s.jigs := rfl
@[simp] theorem modEngine_serves (i : Nat) (f : Engine → Engine) (s : State) : (modEngine i f s).serves = s.serves := rfl
@[simp] theorem modEngine_pages (i : Nat) (f : Engine → Engine) (s : State) : (modEngine i f s).pages = s.pages := rfl
@[simp] theorem modEngine_sync (i : Nat) (f : Engine → Engine) (s : State) : (modEngine i f s).sync = s.sync := rfl
@[simp] theorem modEngine_queues (i : Nat) (f : Engine → Engine) (s : State) : (modEngine i f s).queues = s.queues := rfl
@[simp] theorem modEngine_ctxs (i : Nat) (f : Engine → Engine) (s : State) : (modEngine i f s).ctxs = s.ctxs := rfl
@[simp] theorem modEngine_reduce (i : Nat) (f : Engine → Engine) (s : State) : (modEngine i f s).reduce = s.reduce := rfl
@[simp] theorem modEngine_dets (i : Nat) (f : Engine → Engine) (s : State) : (modEngine i f s).dets = s.dets := rfl
@[simp] theorem modEngine_image (i : Nat) (f : Engine → Engine) (s : State) : (modEngine i f s).image = s.image := rfl
@[simp] theorem modEngine_reshape (i : Nat) (f : Engine → Engine) (s : State) : (modEngine i f s).reshape = s.reshape := rfl
@[simp] theorem modEngine_ports (i : Nat) (f : Engine → Engine) (s : State) : (modEngine i f s).ports = s.ports := rfl
@[simp] theorem modEngine_bed (i : Nat) (f : Engine → Engine) (s : State) : (modEngine i f s).bed = s.bed := rfl
@[simp] theorem modEngine_clock (i : Nat) (f : Engine → Engine) (s : State) : (modEngine i f s).clock = s.clock := rfl
@[simp] theorem modEngine_build (i : Nat) (f : Engine → Engine) (s : State) : (modEngine i f s).build = s.build := rfl
@[simp] theorem modEngine_place (i : Nat) (f : Engine → Engine) (s : State) : (modEngine i f s).place = s.place := rfl
@[simp] theorem modEngine_fresh (i : Nat) (f : Engine → Engine) (s : State) : (modEngine i f s).fresh = s.fresh := rfl

@[simp] theorem modLaunch_power (i : Nat) (f : Launch → Launch) (s : State) : (modLaunch i f s).power = s.power := rfl
@[simp] theorem modLaunch_face (i : Nat) (f : Launch → Launch) (s : State) : (modLaunch i f s).face = s.face := rfl
@[simp] theorem modLaunch_faults (i : Nat) (f : Launch → Launch) (s : State) : (modLaunch i f s).faults = s.faults := rfl
@[simp] theorem modLaunch_wrapper (i : Nat) (f : Launch → Launch) (s : State) : (modLaunch i f s).wrapper = s.wrapper := rfl
@[simp] theorem modLaunch_store (i : Nat) (f : Launch → Launch) (s : State) : (modLaunch i f s).store = s.store := rfl
@[simp] theorem modLaunch_held (i : Nat) (f : Launch → Launch) (s : State) : (modLaunch i f s).held = s.held := rfl
@[simp] theorem modLaunch_work (i : Nat) (f : Launch → Launch) (s : State) : (modLaunch i f s).work = s.work := rfl
@[simp] theorem modLaunch_outs (i : Nat) (f : Launch → Launch) (s : State) : (modLaunch i f s).outs = s.outs := rfl
@[simp] theorem modLaunch_pending (i : Nat) (f : Launch → Launch) (s : State) : (modLaunch i f s).pending = s.pending := rfl
@[simp] theorem modLaunch_tasks (i : Nat) (f : Launch → Launch) (s : State) : (modLaunch i f s).tasks = s.tasks := rfl
@[simp] theorem modLaunch_serves (i : Nat) (f : Launch → Launch) (s : State) : (modLaunch i f s).serves = s.serves := rfl
@[simp] theorem modLaunch_pages (i : Nat) (f : Launch → Launch) (s : State) : (modLaunch i f s).pages = s.pages := rfl
@[simp] theorem modLaunch_sync (i : Nat) (f : Launch → Launch) (s : State) : (modLaunch i f s).sync = s.sync := rfl
@[simp] theorem modLaunch_queues (i : Nat) (f : Launch → Launch) (s : State) : (modLaunch i f s).queues = s.queues := rfl
@[simp] theorem modLaunch_ctxs (i : Nat) (f : Launch → Launch) (s : State) : (modLaunch i f s).ctxs = s.ctxs := rfl
@[simp] theorem modLaunch_reduce (i : Nat) (f : Launch → Launch) (s : State) : (modLaunch i f s).reduce = s.reduce := rfl
@[simp] theorem modLaunch_dets (i : Nat) (f : Launch → Launch) (s : State) : (modLaunch i f s).dets = s.dets := rfl
@[simp] theorem modLaunch_image (i : Nat) (f : Launch → Launch) (s : State) : (modLaunch i f s).image = s.image := rfl
@[simp] theorem modLaunch_reshape (i : Nat) (f : Launch → Launch) (s : State) : (modLaunch i f s).reshape = s.reshape := rfl
@[simp] theorem modLaunch_ports (i : Nat) (f : Launch → Launch) (s : State) : (modLaunch i f s).ports = s.ports := rfl
@[simp] theorem modLaunch_bed (i : Nat) (f : Launch → Launch) (s : State) : (modLaunch i f s).bed = s.bed := rfl
@[simp] theorem modLaunch_clock (i : Nat) (f : Launch → Launch) (s : State) : (modLaunch i f s).clock = s.clock := rfl
@[simp] theorem modLaunch_build (i : Nat) (f : Launch → Launch) (s : State) : (modLaunch i f s).build = s.build := rfl
@[simp] theorem modLaunch_place (i : Nat) (f : Launch → Launch) (s : State) : (modLaunch i f s).place = s.place := rfl
@[simp] theorem modLaunch_fresh (i : Nat) (f : Launch → Launch) (s : State) : (modLaunch i f s).fresh = s.fresh := rfl

@[simp] theorem setLaunch_power (i : Nat) (x : Launch) (s : State) : (setLaunch i x s).power = s.power := rfl
@[simp] theorem setLaunch_face (i : Nat) (x : Launch) (s : State) : (setLaunch i x s).face = s.face := rfl
@[simp] theorem setLaunch_faults (i : Nat) (x : Launch) (s : State) : (setLaunch i x s).faults = s.faults := rfl
@[simp] theorem setLaunch_wrapper (i : Nat) (x : Launch) (s : State) : (setLaunch i x s).wrapper = s.wrapper := rfl
@[simp] theorem setLaunch_store (i : Nat) (x : Launch) (s : State) : (setLaunch i x s).store = s.store := rfl
@[simp] theorem setLaunch_held (i : Nat) (x : Launch) (s : State) : (setLaunch i x s).held = s.held := rfl
@[simp] theorem setLaunch_work (i : Nat) (x : Launch) (s : State) : (setLaunch i x s).work = s.work := rfl
@[simp] theorem setLaunch_outs (i : Nat) (x : Launch) (s : State) : (setLaunch i x s).outs = s.outs := rfl
@[simp] theorem setLaunch_pending (i : Nat) (x : Launch) (s : State) : (setLaunch i x s).pending = s.pending := rfl
@[simp] theorem setLaunch_tasks (i : Nat) (x : Launch) (s : State) : (setLaunch i x s).tasks = s.tasks := rfl
@[simp] theorem setLaunch_serves (i : Nat) (x : Launch) (s : State) : (setLaunch i x s).serves = s.serves := rfl
@[simp] theorem setLaunch_pages (i : Nat) (x : Launch) (s : State) : (setLaunch i x s).pages = s.pages := rfl
@[simp] theorem setLaunch_sync (i : Nat) (x : Launch) (s : State) : (setLaunch i x s).sync = s.sync := rfl
@[simp] theorem setLaunch_queues (i : Nat) (x : Launch) (s : State) : (setLaunch i x s).queues = s.queues := rfl
@[simp] theorem setLaunch_ctxs (i : Nat) (x : Launch) (s : State) : (setLaunch i x s).ctxs = s.ctxs := rfl
@[simp] theorem setLaunch_reduce (i : Nat) (x : Launch) (s : State) : (setLaunch i x s).reduce = s.reduce := rfl
@[simp] theorem setLaunch_dets (i : Nat) (x : Launch) (s : State) : (setLaunch i x s).dets = s.dets := rfl
@[simp] theorem setLaunch_image (i : Nat) (x : Launch) (s : State) : (setLaunch i x s).image = s.image := rfl
@[simp] theorem setLaunch_reshape (i : Nat) (x : Launch) (s : State) : (setLaunch i x s).reshape = s.reshape := rfl
@[simp] theorem setLaunch_ports (i : Nat) (x : Launch) (s : State) : (setLaunch i x s).ports = s.ports := rfl
@[simp] theorem setLaunch_bed (i : Nat) (x : Launch) (s : State) : (setLaunch i x s).bed = s.bed := rfl
@[simp] theorem setLaunch_clock (i : Nat) (x : Launch) (s : State) : (setLaunch i x s).clock = s.clock := rfl
@[simp] theorem setLaunch_build (i : Nat) (x : Launch) (s : State) : (setLaunch i x s).build = s.build := rfl
@[simp] theorem setLaunch_place (i : Nat) (x : Launch) (s : State) : (setLaunch i x s).place = s.place := rfl
@[simp] theorem setLaunch_fresh (i : Nat) (x : Launch) (s : State) : (setLaunch i x s).fresh = s.fresh := rfl

@[simp] theorem modExchange_power (i : Nat) (f : Exchange → Exchange) (s : State) : (modExchange i f s).power = s.power := rfl
@[simp] theorem modExchange_face (i : Nat) (f : Exchange → Exchange) (s : State) : (modExchange i f s).face = s.face := rfl
@[simp] theorem modExchange_faults (i : Nat) (f : Exchange → Exchange) (s : State) : (modExchange i f s).faults = s.faults := rfl
@[simp] theorem modExchange_wrapper (i : Nat) (f : Exchange → Exchange) (s : State) : (modExchange i f s).wrapper = s.wrapper := rfl
@[simp] theorem modExchange_store (i : Nat) (f : Exchange → Exchange) (s : State) : (modExchange i f s).store = s.store := rfl
@[simp] theorem modExchange_held (i : Nat) (f : Exchange → Exchange) (s : State) : (modExchange i f s).held = s.held := rfl
@[simp] theorem modExchange_work (i : Nat) (f : Exchange → Exchange) (s : State) : (modExchange i f s).work = s.work := rfl
@[simp] theorem modExchange_outs (i : Nat) (f : Exchange → Exchange) (s : State) : (modExchange i f s).outs = s.outs := rfl
@[simp] theorem modExchange_pending (i : Nat) (f : Exchange → Exchange) (s : State) : (modExchange i f s).pending = s.pending := rfl
@[simp] theorem modExchange_tasks (i : Nat) (f : Exchange → Exchange) (s : State) : (modExchange i f s).tasks = s.tasks := rfl
@[simp] theorem modExchange_serves (i : Nat) (f : Exchange → Exchange) (s : State) : (modExchange i f s).serves = s.serves := rfl
@[simp] theorem modExchange_pages (i : Nat) (f : Exchange → Exchange) (s : State) : (modExchange i f s).pages = s.pages := rfl
@[simp] theorem modExchange_sync (i : Nat) (f : Exchange → Exchange) (s : State) : (modExchange i f s).sync = s.sync := rfl
@[simp] theorem modExchange_queues (i : Nat) (f : Exchange → Exchange) (s : State) : (modExchange i f s).queues = s.queues := rfl
@[simp] theorem modExchange_ctxs (i : Nat) (f : Exchange → Exchange) (s : State) : (modExchange i f s).ctxs = s.ctxs := rfl
@[simp] theorem modExchange_reduce (i : Nat) (f : Exchange → Exchange) (s : State) : (modExchange i f s).reduce = s.reduce := rfl
@[simp] theorem modExchange_dets (i : Nat) (f : Exchange → Exchange) (s : State) : (modExchange i f s).dets = s.dets := rfl
@[simp] theorem modExchange_image (i : Nat) (f : Exchange → Exchange) (s : State) : (modExchange i f s).image = s.image := rfl
@[simp] theorem modExchange_reshape (i : Nat) (f : Exchange → Exchange) (s : State) : (modExchange i f s).reshape = s.reshape := rfl
@[simp] theorem modExchange_ports (i : Nat) (f : Exchange → Exchange) (s : State) : (modExchange i f s).ports = s.ports := rfl
@[simp] theorem modExchange_bed (i : Nat) (f : Exchange → Exchange) (s : State) : (modExchange i f s).bed = s.bed := rfl
@[simp] theorem modExchange_clock (i : Nat) (f : Exchange → Exchange) (s : State) : (modExchange i f s).clock = s.clock := rfl
@[simp] theorem modExchange_build (i : Nat) (f : Exchange → Exchange) (s : State) : (modExchange i f s).build = s.build := rfl
@[simp] theorem modExchange_place (i : Nat) (f : Exchange → Exchange) (s : State) : (modExchange i f s).place = s.place := rfl
@[simp] theorem modExchange_fresh (i : Nat) (f : Exchange → Exchange) (s : State) : (modExchange i f s).fresh = s.fresh := rfl

@[simp] theorem modCold_power (p b : Nat) (f : Cold → Cold) (s : State) : (modCold p b f s).power = s.power := rfl
@[simp] theorem modCold_face (p b : Nat) (f : Cold → Cold) (s : State) : (modCold p b f s).face = s.face := rfl
@[simp] theorem modCold_faults (p b : Nat) (f : Cold → Cold) (s : State) : (modCold p b f s).faults = s.faults := rfl
@[simp] theorem modCold_wrapper (p b : Nat) (f : Cold → Cold) (s : State) : (modCold p b f s).wrapper = s.wrapper := rfl
@[simp] theorem modCold_store (p b : Nat) (f : Cold → Cold) (s : State) : (modCold p b f s).store = s.store := rfl
@[simp] theorem modCold_held (p b : Nat) (f : Cold → Cold) (s : State) : (modCold p b f s).held = s.held := rfl
@[simp] theorem modCold_work (p b : Nat) (f : Cold → Cold) (s : State) : (modCold p b f s).work = s.work := rfl
@[simp] theorem modCold_outs (p b : Nat) (f : Cold → Cold) (s : State) : (modCold p b f s).outs = s.outs := rfl
@[simp] theorem modCold_pending (p b : Nat) (f : Cold → Cold) (s : State) : (modCold p b f s).pending = s.pending := rfl
@[simp] theorem modCold_tasks (p b : Nat) (f : Cold → Cold) (s : State) : (modCold p b f s).tasks = s.tasks := rfl
@[simp] theorem modCold_serves (p b : Nat) (f : Cold → Cold) (s : State) : (modCold p b f s).serves = s.serves := rfl
@[simp] theorem modCold_pages (p b : Nat) (f : Cold → Cold) (s : State) : (modCold p b f s).pages = s.pages := rfl
@[simp] theorem modCold_sync (p b : Nat) (f : Cold → Cold) (s : State) : (modCold p b f s).sync = s.sync := rfl
@[simp] theorem modCold_queues (p b : Nat) (f : Cold → Cold) (s : State) : (modCold p b f s).queues = s.queues := rfl
@[simp] theorem modCold_ctxs (p b : Nat) (f : Cold → Cold) (s : State) : (modCold p b f s).ctxs = s.ctxs := rfl
@[simp] theorem modCold_reduce (p b : Nat) (f : Cold → Cold) (s : State) : (modCold p b f s).reduce = s.reduce := rfl
@[simp] theorem modCold_dets (p b : Nat) (f : Cold → Cold) (s : State) : (modCold p b f s).dets = s.dets := rfl
@[simp] theorem modCold_image (p b : Nat) (f : Cold → Cold) (s : State) : (modCold p b f s).image = s.image := rfl
@[simp] theorem modCold_reshape (p b : Nat) (f : Cold → Cold) (s : State) : (modCold p b f s).reshape = s.reshape := rfl
@[simp] theorem modCold_ports (p b : Nat) (f : Cold → Cold) (s : State) : (modCold p b f s).ports = s.ports := rfl
@[simp] theorem modCold_bed (p b : Nat) (f : Cold → Cold) (s : State) : (modCold p b f s).bed = s.bed := rfl
@[simp] theorem modCold_clock (p b : Nat) (f : Cold → Cold) (s : State) : (modCold p b f s).clock = s.clock := rfl
@[simp] theorem modCold_build (p b : Nat) (f : Cold → Cold) (s : State) : (modCold p b f s).build = s.build := rfl
@[simp] theorem modCold_place (p b : Nat) (f : Cold → Cold) (s : State) : (modCold p b f s).place = s.place := rfl
@[simp] theorem modCold_fresh (p b : Nat) (f : Cold → Cold) (s : State) : (modCold p b f s).fresh = s.fresh := rfl

@[simp] theorem modServe_power (p : Nat) (f : Serve → Serve) (s : State) : (modServe p f s).power = s.power := rfl
@[simp] theorem modServe_face (p : Nat) (f : Serve → Serve) (s : State) : (modServe p f s).face = s.face := rfl
@[simp] theorem modServe_faults (p : Nat) (f : Serve → Serve) (s : State) : (modServe p f s).faults = s.faults := rfl
@[simp] theorem modServe_wrapper (p : Nat) (f : Serve → Serve) (s : State) : (modServe p f s).wrapper = s.wrapper := rfl
@[simp] theorem modServe_store (p : Nat) (f : Serve → Serve) (s : State) : (modServe p f s).store = s.store := rfl
@[simp] theorem modServe_held (p : Nat) (f : Serve → Serve) (s : State) : (modServe p f s).held = s.held := rfl
@[simp] theorem modServe_work (p : Nat) (f : Serve → Serve) (s : State) : (modServe p f s).work = s.work := rfl
@[simp] theorem modServe_outs (p : Nat) (f : Serve → Serve) (s : State) : (modServe p f s).outs = s.outs := rfl
@[simp] theorem modServe_pending (p : Nat) (f : Serve → Serve) (s : State) : (modServe p f s).pending = s.pending := rfl
@[simp] theorem modServe_tasks (p : Nat) (f : Serve → Serve) (s : State) : (modServe p f s).tasks = s.tasks := rfl
@[simp] theorem modServe_jigs (p : Nat) (f : Serve → Serve) (s : State) : (modServe p f s).jigs = s.jigs := rfl
@[simp] theorem modServe_pages (p : Nat) (f : Serve → Serve) (s : State) : (modServe p f s).pages = s.pages := rfl
@[simp] theorem modServe_sync (p : Nat) (f : Serve → Serve) (s : State) : (modServe p f s).sync = s.sync := rfl
@[simp] theorem modServe_queues (p : Nat) (f : Serve → Serve) (s : State) : (modServe p f s).queues = s.queues := rfl
@[simp] theorem modServe_ctxs (p : Nat) (f : Serve → Serve) (s : State) : (modServe p f s).ctxs = s.ctxs := rfl
@[simp] theorem modServe_reduce (p : Nat) (f : Serve → Serve) (s : State) : (modServe p f s).reduce = s.reduce := rfl
@[simp] theorem modServe_dets (p : Nat) (f : Serve → Serve) (s : State) : (modServe p f s).dets = s.dets := rfl
@[simp] theorem modServe_image (p : Nat) (f : Serve → Serve) (s : State) : (modServe p f s).image = s.image := rfl
@[simp] theorem modServe_reshape (p : Nat) (f : Serve → Serve) (s : State) : (modServe p f s).reshape = s.reshape := rfl
@[simp] theorem modServe_ports (p : Nat) (f : Serve → Serve) (s : State) : (modServe p f s).ports = s.ports := rfl
@[simp] theorem modServe_bed (p : Nat) (f : Serve → Serve) (s : State) : (modServe p f s).bed = s.bed := rfl
@[simp] theorem modServe_clock (p : Nat) (f : Serve → Serve) (s : State) : (modServe p f s).clock = s.clock := rfl
@[simp] theorem modServe_build (p : Nat) (f : Serve → Serve) (s : State) : (modServe p f s).build = s.build := rfl
@[simp] theorem modServe_place (p : Nat) (f : Serve → Serve) (s : State) : (modServe p f s).place = s.place := rfl
@[simp] theorem modServe_fresh (p : Nat) (f : Serve → Serve) (s : State) : (modServe p f s).fresh = s.fresh := rfl

@[simp] theorem modStream_power (p i : Nat) (f : Stream → Stream) (s : State) : (modStream p i f s).power = s.power := rfl
@[simp] theorem modStream_face (p i : Nat) (f : Stream → Stream) (s : State) : (modStream p i f s).face = s.face := rfl
@[simp] theorem modStream_faults (p i : Nat) (f : Stream → Stream) (s : State) : (modStream p i f s).faults = s.faults := rfl
@[simp] theorem modStream_wrapper (p i : Nat) (f : Stream → Stream) (s : State) : (modStream p i f s).wrapper = s.wrapper := rfl
@[simp] theorem modStream_store (p i : Nat) (f : Stream → Stream) (s : State) : (modStream p i f s).store = s.store := rfl
@[simp] theorem modStream_held (p i : Nat) (f : Stream → Stream) (s : State) : (modStream p i f s).held = s.held := rfl
@[simp] theorem modStream_work (p i : Nat) (f : Stream → Stream) (s : State) : (modStream p i f s).work = s.work := rfl
@[simp] theorem modStream_outs (p i : Nat) (f : Stream → Stream) (s : State) : (modStream p i f s).outs = s.outs := rfl
@[simp] theorem modStream_pending (p i : Nat) (f : Stream → Stream) (s : State) : (modStream p i f s).pending = s.pending := rfl
@[simp] theorem modStream_tasks (p i : Nat) (f : Stream → Stream) (s : State) : (modStream p i f s).tasks = s.tasks := rfl
@[simp] theorem modStream_jigs (p i : Nat) (f : Stream → Stream) (s : State) : (modStream p i f s).jigs = s.jigs := rfl
@[simp] theorem modStream_pages (p i : Nat) (f : Stream → Stream) (s : State) : (modStream p i f s).pages = s.pages := rfl
@[simp] theorem modStream_sync (p i : Nat) (f : Stream → Stream) (s : State) : (modStream p i f s).sync = s.sync := rfl
@[simp] theorem modStream_queues (p i : Nat) (f : Stream → Stream) (s : State) : (modStream p i f s).queues = s.queues := rfl
@[simp] theorem modStream_ctxs (p i : Nat) (f : Stream → Stream) (s : State) : (modStream p i f s).ctxs = s.ctxs := rfl
@[simp] theorem modStream_reduce (p i : Nat) (f : Stream → Stream) (s : State) : (modStream p i f s).reduce = s.reduce := rfl
@[simp] theorem modStream_dets (p i : Nat) (f : Stream → Stream) (s : State) : (modStream p i f s).dets = s.dets := rfl
@[simp] theorem modStream_image (p i : Nat) (f : Stream → Stream) (s : State) : (modStream p i f s).image = s.image := rfl
@[simp] theorem modStream_reshape (p i : Nat) (f : Stream → Stream) (s : State) : (modStream p i f s).reshape = s.reshape := rfl
@[simp] theorem modStream_ports (p i : Nat) (f : Stream → Stream) (s : State) : (modStream p i f s).ports = s.ports := rfl
@[simp] theorem modStream_bed (p i : Nat) (f : Stream → Stream) (s : State) : (modStream p i f s).bed = s.bed := rfl
@[simp] theorem modStream_clock (p i : Nat) (f : Stream → Stream) (s : State) : (modStream p i f s).clock = s.clock := rfl
@[simp] theorem modStream_build (p i : Nat) (f : Stream → Stream) (s : State) : (modStream p i f s).build = s.build := rfl
@[simp] theorem modStream_place (p i : Nat) (f : Stream → Stream) (s : State) : (modStream p i f s).place = s.place := rfl
@[simp] theorem modStream_fresh (p i : Nat) (f : Stream → Stream) (s : State) : (modStream p i f s).fresh = s.fresh := rfl

@[simp] theorem modPages_power (p : Nat) (f : Pages → Pages) (s : State) : (modPages p f s).power = s.power := rfl
@[simp] theorem modPages_face (p : Nat) (f : Pages → Pages) (s : State) : (modPages p f s).face = s.face := rfl
@[simp] theorem modPages_faults (p : Nat) (f : Pages → Pages) (s : State) : (modPages p f s).faults = s.faults := rfl
@[simp] theorem modPages_wrapper (p : Nat) (f : Pages → Pages) (s : State) : (modPages p f s).wrapper = s.wrapper := rfl
@[simp] theorem modPages_store (p : Nat) (f : Pages → Pages) (s : State) : (modPages p f s).store = s.store := rfl
@[simp] theorem modPages_held (p : Nat) (f : Pages → Pages) (s : State) : (modPages p f s).held = s.held := rfl
@[simp] theorem modPages_work (p : Nat) (f : Pages → Pages) (s : State) : (modPages p f s).work = s.work := rfl
@[simp] theorem modPages_outs (p : Nat) (f : Pages → Pages) (s : State) : (modPages p f s).outs = s.outs := rfl
@[simp] theorem modPages_pending (p : Nat) (f : Pages → Pages) (s : State) : (modPages p f s).pending = s.pending := rfl
@[simp] theorem modPages_tasks (p : Nat) (f : Pages → Pages) (s : State) : (modPages p f s).tasks = s.tasks := rfl
@[simp] theorem modPages_jigs (p : Nat) (f : Pages → Pages) (s : State) : (modPages p f s).jigs = s.jigs := rfl
@[simp] theorem modPages_serves (p : Nat) (f : Pages → Pages) (s : State) : (modPages p f s).serves = s.serves := rfl
@[simp] theorem modPages_sync (p : Nat) (f : Pages → Pages) (s : State) : (modPages p f s).sync = s.sync := rfl
@[simp] theorem modPages_queues (p : Nat) (f : Pages → Pages) (s : State) : (modPages p f s).queues = s.queues := rfl
@[simp] theorem modPages_ctxs (p : Nat) (f : Pages → Pages) (s : State) : (modPages p f s).ctxs = s.ctxs := rfl
@[simp] theorem modPages_reduce (p : Nat) (f : Pages → Pages) (s : State) : (modPages p f s).reduce = s.reduce := rfl
@[simp] theorem modPages_dets (p : Nat) (f : Pages → Pages) (s : State) : (modPages p f s).dets = s.dets := rfl
@[simp] theorem modPages_image (p : Nat) (f : Pages → Pages) (s : State) : (modPages p f s).image = s.image := rfl
@[simp] theorem modPages_reshape (p : Nat) (f : Pages → Pages) (s : State) : (modPages p f s).reshape = s.reshape := rfl
@[simp] theorem modPages_ports (p : Nat) (f : Pages → Pages) (s : State) : (modPages p f s).ports = s.ports := rfl
@[simp] theorem modPages_bed (p : Nat) (f : Pages → Pages) (s : State) : (modPages p f s).bed = s.bed := rfl
@[simp] theorem modPages_clock (p : Nat) (f : Pages → Pages) (s : State) : (modPages p f s).clock = s.clock := rfl
@[simp] theorem modPages_build (p : Nat) (f : Pages → Pages) (s : State) : (modPages p f s).build = s.build := rfl
@[simp] theorem modPages_place (p : Nat) (f : Pages → Pages) (s : State) : (modPages p f s).place = s.place := rfl
@[simp] theorem modPages_fresh (p : Nat) (f : Pages → Pages) (s : State) : (modPages p f s).fresh = s.fresh := rfl

@[simp] theorem modEntry_power (p i : Nat) (f : Page → Page) (s : State) : (modEntry p i f s).power = s.power := rfl
@[simp] theorem modEntry_face (p i : Nat) (f : Page → Page) (s : State) : (modEntry p i f s).face = s.face := rfl
@[simp] theorem modEntry_faults (p i : Nat) (f : Page → Page) (s : State) : (modEntry p i f s).faults = s.faults := rfl
@[simp] theorem modEntry_wrapper (p i : Nat) (f : Page → Page) (s : State) : (modEntry p i f s).wrapper = s.wrapper := rfl
@[simp] theorem modEntry_store (p i : Nat) (f : Page → Page) (s : State) : (modEntry p i f s).store = s.store := rfl
@[simp] theorem modEntry_held (p i : Nat) (f : Page → Page) (s : State) : (modEntry p i f s).held = s.held := rfl
@[simp] theorem modEntry_work (p i : Nat) (f : Page → Page) (s : State) : (modEntry p i f s).work = s.work := rfl
@[simp] theorem modEntry_outs (p i : Nat) (f : Page → Page) (s : State) : (modEntry p i f s).outs = s.outs := rfl
@[simp] theorem modEntry_pending (p i : Nat) (f : Page → Page) (s : State) : (modEntry p i f s).pending = s.pending := rfl
@[simp] theorem modEntry_tasks (p i : Nat) (f : Page → Page) (s : State) : (modEntry p i f s).tasks = s.tasks := rfl
@[simp] theorem modEntry_jigs (p i : Nat) (f : Page → Page) (s : State) : (modEntry p i f s).jigs = s.jigs := rfl
@[simp] theorem modEntry_serves (p i : Nat) (f : Page → Page) (s : State) : (modEntry p i f s).serves = s.serves := rfl
@[simp] theorem modEntry_sync (p i : Nat) (f : Page → Page) (s : State) : (modEntry p i f s).sync = s.sync := rfl
@[simp] theorem modEntry_queues (p i : Nat) (f : Page → Page) (s : State) : (modEntry p i f s).queues = s.queues := rfl
@[simp] theorem modEntry_ctxs (p i : Nat) (f : Page → Page) (s : State) : (modEntry p i f s).ctxs = s.ctxs := rfl
@[simp] theorem modEntry_reduce (p i : Nat) (f : Page → Page) (s : State) : (modEntry p i f s).reduce = s.reduce := rfl
@[simp] theorem modEntry_dets (p i : Nat) (f : Page → Page) (s : State) : (modEntry p i f s).dets = s.dets := rfl
@[simp] theorem modEntry_image (p i : Nat) (f : Page → Page) (s : State) : (modEntry p i f s).image = s.image := rfl
@[simp] theorem modEntry_reshape (p i : Nat) (f : Page → Page) (s : State) : (modEntry p i f s).reshape = s.reshape := rfl
@[simp] theorem modEntry_ports (p i : Nat) (f : Page → Page) (s : State) : (modEntry p i f s).ports = s.ports := rfl
@[simp] theorem modEntry_bed (p i : Nat) (f : Page → Page) (s : State) : (modEntry p i f s).bed = s.bed := rfl
@[simp] theorem modEntry_clock (p i : Nat) (f : Page → Page) (s : State) : (modEntry p i f s).clock = s.clock := rfl
@[simp] theorem modEntry_build (p i : Nat) (f : Page → Page) (s : State) : (modEntry p i f s).build = s.build := rfl
@[simp] theorem modEntry_place (p i : Nat) (f : Page → Page) (s : State) : (modEntry p i f s).place = s.place := rfl
@[simp] theorem modEntry_fresh (p i : Nat) (f : Page → Page) (s : State) : (modEntry p i f s).fresh = s.fresh := rfl

@[simp] theorem modSem_power (i : Nat) (f : Sem → Sem) (s : State) : (modSem i f s).power = s.power := rfl
@[simp] theorem modSem_face (i : Nat) (f : Sem → Sem) (s : State) : (modSem i f s).face = s.face := rfl
@[simp] theorem modSem_faults (i : Nat) (f : Sem → Sem) (s : State) : (modSem i f s).faults = s.faults := rfl
@[simp] theorem modSem_wrapper (i : Nat) (f : Sem → Sem) (s : State) : (modSem i f s).wrapper = s.wrapper := rfl
@[simp] theorem modSem_store (i : Nat) (f : Sem → Sem) (s : State) : (modSem i f s).store = s.store := rfl
@[simp] theorem modSem_held (i : Nat) (f : Sem → Sem) (s : State) : (modSem i f s).held = s.held := rfl
@[simp] theorem modSem_work (i : Nat) (f : Sem → Sem) (s : State) : (modSem i f s).work = s.work := rfl
@[simp] theorem modSem_outs (i : Nat) (f : Sem → Sem) (s : State) : (modSem i f s).outs = s.outs := rfl
@[simp] theorem modSem_pending (i : Nat) (f : Sem → Sem) (s : State) : (modSem i f s).pending = s.pending := rfl
@[simp] theorem modSem_tasks (i : Nat) (f : Sem → Sem) (s : State) : (modSem i f s).tasks = s.tasks := rfl
@[simp] theorem modSem_jigs (i : Nat) (f : Sem → Sem) (s : State) : (modSem i f s).jigs = s.jigs := rfl
@[simp] theorem modSem_serves (i : Nat) (f : Sem → Sem) (s : State) : (modSem i f s).serves = s.serves := rfl
@[simp] theorem modSem_pages (i : Nat) (f : Sem → Sem) (s : State) : (modSem i f s).pages = s.pages := rfl
@[simp] theorem modSem_queues (i : Nat) (f : Sem → Sem) (s : State) : (modSem i f s).queues = s.queues := rfl
@[simp] theorem modSem_ctxs (i : Nat) (f : Sem → Sem) (s : State) : (modSem i f s).ctxs = s.ctxs := rfl
@[simp] theorem modSem_reduce (i : Nat) (f : Sem → Sem) (s : State) : (modSem i f s).reduce = s.reduce := rfl
@[simp] theorem modSem_dets (i : Nat) (f : Sem → Sem) (s : State) : (modSem i f s).dets = s.dets := rfl
@[simp] theorem modSem_image (i : Nat) (f : Sem → Sem) (s : State) : (modSem i f s).image = s.image := rfl
@[simp] theorem modSem_reshape (i : Nat) (f : Sem → Sem) (s : State) : (modSem i f s).reshape = s.reshape := rfl
@[simp] theorem modSem_ports (i : Nat) (f : Sem → Sem) (s : State) : (modSem i f s).ports = s.ports := rfl
@[simp] theorem modSem_bed (i : Nat) (f : Sem → Sem) (s : State) : (modSem i f s).bed = s.bed := rfl
@[simp] theorem modSem_clock (i : Nat) (f : Sem → Sem) (s : State) : (modSem i f s).clock = s.clock := rfl
@[simp] theorem modSem_build (i : Nat) (f : Sem → Sem) (s : State) : (modSem i f s).build = s.build := rfl
@[simp] theorem modSem_place (i : Nat) (f : Sem → Sem) (s : State) : (modSem i f s).place = s.place := rfl
@[simp] theorem modSem_fresh (i : Nat) (f : Sem → Sem) (s : State) : (modSem i f s).fresh = s.fresh := rfl

@[simp] theorem modBar_power (i : Nat) (f : Bar → Bar) (s : State) : (modBar i f s).power = s.power := rfl
@[simp] theorem modBar_face (i : Nat) (f : Bar → Bar) (s : State) : (modBar i f s).face = s.face := rfl
@[simp] theorem modBar_faults (i : Nat) (f : Bar → Bar) (s : State) : (modBar i f s).faults = s.faults := rfl
@[simp] theorem modBar_wrapper (i : Nat) (f : Bar → Bar) (s : State) : (modBar i f s).wrapper = s.wrapper := rfl
@[simp] theorem modBar_store (i : Nat) (f : Bar → Bar) (s : State) : (modBar i f s).store = s.store := rfl
@[simp] theorem modBar_held (i : Nat) (f : Bar → Bar) (s : State) : (modBar i f s).held = s.held := rfl
@[simp] theorem modBar_work (i : Nat) (f : Bar → Bar) (s : State) : (modBar i f s).work = s.work := rfl
@[simp] theorem modBar_outs (i : Nat) (f : Bar → Bar) (s : State) : (modBar i f s).outs = s.outs := rfl
@[simp] theorem modBar_pending (i : Nat) (f : Bar → Bar) (s : State) : (modBar i f s).pending = s.pending := rfl
@[simp] theorem modBar_tasks (i : Nat) (f : Bar → Bar) (s : State) : (modBar i f s).tasks = s.tasks := rfl
@[simp] theorem modBar_jigs (i : Nat) (f : Bar → Bar) (s : State) : (modBar i f s).jigs = s.jigs := rfl
@[simp] theorem modBar_serves (i : Nat) (f : Bar → Bar) (s : State) : (modBar i f s).serves = s.serves := rfl
@[simp] theorem modBar_pages (i : Nat) (f : Bar → Bar) (s : State) : (modBar i f s).pages = s.pages := rfl
@[simp] theorem modBar_queues (i : Nat) (f : Bar → Bar) (s : State) : (modBar i f s).queues = s.queues := rfl
@[simp] theorem modBar_ctxs (i : Nat) (f : Bar → Bar) (s : State) : (modBar i f s).ctxs = s.ctxs := rfl
@[simp] theorem modBar_reduce (i : Nat) (f : Bar → Bar) (s : State) : (modBar i f s).reduce = s.reduce := rfl
@[simp] theorem modBar_dets (i : Nat) (f : Bar → Bar) (s : State) : (modBar i f s).dets = s.dets := rfl
@[simp] theorem modBar_image (i : Nat) (f : Bar → Bar) (s : State) : (modBar i f s).image = s.image := rfl
@[simp] theorem modBar_reshape (i : Nat) (f : Bar → Bar) (s : State) : (modBar i f s).reshape = s.reshape := rfl
@[simp] theorem modBar_ports (i : Nat) (f : Bar → Bar) (s : State) : (modBar i f s).ports = s.ports := rfl
@[simp] theorem modBar_bed (i : Nat) (f : Bar → Bar) (s : State) : (modBar i f s).bed = s.bed := rfl
@[simp] theorem modBar_clock (i : Nat) (f : Bar → Bar) (s : State) : (modBar i f s).clock = s.clock := rfl
@[simp] theorem modBar_build (i : Nat) (f : Bar → Bar) (s : State) : (modBar i f s).build = s.build := rfl
@[simp] theorem modBar_place (i : Nat) (f : Bar → Bar) (s : State) : (modBar i f s).place = s.place := rfl
@[simp] theorem modBar_fresh (i : Nat) (f : Bar → Bar) (s : State) : (modBar i f s).fresh = s.fresh := rfl

@[simp] theorem setWaiter_power (i : Nat) (x : Waiter) (s : State) : (setWaiter i x s).power = s.power := rfl
@[simp] theorem setWaiter_face (i : Nat) (x : Waiter) (s : State) : (setWaiter i x s).face = s.face := rfl
@[simp] theorem setWaiter_faults (i : Nat) (x : Waiter) (s : State) : (setWaiter i x s).faults = s.faults := rfl
@[simp] theorem setWaiter_wrapper (i : Nat) (x : Waiter) (s : State) : (setWaiter i x s).wrapper = s.wrapper := rfl
@[simp] theorem setWaiter_store (i : Nat) (x : Waiter) (s : State) : (setWaiter i x s).store = s.store := rfl
@[simp] theorem setWaiter_held (i : Nat) (x : Waiter) (s : State) : (setWaiter i x s).held = s.held := rfl
@[simp] theorem setWaiter_work (i : Nat) (x : Waiter) (s : State) : (setWaiter i x s).work = s.work := rfl
@[simp] theorem setWaiter_outs (i : Nat) (x : Waiter) (s : State) : (setWaiter i x s).outs = s.outs := rfl
@[simp] theorem setWaiter_pending (i : Nat) (x : Waiter) (s : State) : (setWaiter i x s).pending = s.pending := rfl
@[simp] theorem setWaiter_tasks (i : Nat) (x : Waiter) (s : State) : (setWaiter i x s).tasks = s.tasks := rfl
@[simp] theorem setWaiter_jigs (i : Nat) (x : Waiter) (s : State) : (setWaiter i x s).jigs = s.jigs := rfl
@[simp] theorem setWaiter_serves (i : Nat) (x : Waiter) (s : State) : (setWaiter i x s).serves = s.serves := rfl
@[simp] theorem setWaiter_pages (i : Nat) (x : Waiter) (s : State) : (setWaiter i x s).pages = s.pages := rfl
@[simp] theorem setWaiter_queues (i : Nat) (x : Waiter) (s : State) : (setWaiter i x s).queues = s.queues := rfl
@[simp] theorem setWaiter_ctxs (i : Nat) (x : Waiter) (s : State) : (setWaiter i x s).ctxs = s.ctxs := rfl
@[simp] theorem setWaiter_reduce (i : Nat) (x : Waiter) (s : State) : (setWaiter i x s).reduce = s.reduce := rfl
@[simp] theorem setWaiter_dets (i : Nat) (x : Waiter) (s : State) : (setWaiter i x s).dets = s.dets := rfl
@[simp] theorem setWaiter_image (i : Nat) (x : Waiter) (s : State) : (setWaiter i x s).image = s.image := rfl
@[simp] theorem setWaiter_reshape (i : Nat) (x : Waiter) (s : State) : (setWaiter i x s).reshape = s.reshape := rfl
@[simp] theorem setWaiter_ports (i : Nat) (x : Waiter) (s : State) : (setWaiter i x s).ports = s.ports := rfl
@[simp] theorem setWaiter_bed (i : Nat) (x : Waiter) (s : State) : (setWaiter i x s).bed = s.bed := rfl
@[simp] theorem setWaiter_clock (i : Nat) (x : Waiter) (s : State) : (setWaiter i x s).clock = s.clock := rfl
@[simp] theorem setWaiter_build (i : Nat) (x : Waiter) (s : State) : (setWaiter i x s).build = s.build := rfl
@[simp] theorem setWaiter_place (i : Nat) (x : Waiter) (s : State) : (setWaiter i x s).place = s.place := rfl
@[simp] theorem setWaiter_fresh (i : Nat) (x : Waiter) (s : State) : (setWaiter i x s).fresh = s.fresh := rfl

@[simp] theorem modChan_power (i : Nat) (f : Chan → Chan) (s : State) : (modChan i f s).power = s.power := rfl
@[simp] theorem modChan_face (i : Nat) (f : Chan → Chan) (s : State) : (modChan i f s).face = s.face := rfl
@[simp] theorem modChan_faults (i : Nat) (f : Chan → Chan) (s : State) : (modChan i f s).faults = s.faults := rfl
@[simp] theorem modChan_wrapper (i : Nat) (f : Chan → Chan) (s : State) : (modChan i f s).wrapper = s.wrapper := rfl
@[simp] theorem modChan_store (i : Nat) (f : Chan → Chan) (s : State) : (modChan i f s).store = s.store := rfl
@[simp] theorem modChan_held (i : Nat) (f : Chan → Chan) (s : State) : (modChan i f s).held = s.held := rfl
@[simp] theorem modChan_work (i : Nat) (f : Chan → Chan) (s : State) : (modChan i f s).work = s.work := rfl
@[simp] theorem modChan_outs (i : Nat) (f : Chan → Chan) (s : State) : (modChan i f s).outs = s.outs := rfl
@[simp] theorem modChan_pending (i : Nat) (f : Chan → Chan) (s : State) : (modChan i f s).pending = s.pending := rfl
@[simp] theorem modChan_tasks (i : Nat) (f : Chan → Chan) (s : State) : (modChan i f s).tasks = s.tasks := rfl
@[simp] theorem modChan_jigs (i : Nat) (f : Chan → Chan) (s : State) : (modChan i f s).jigs = s.jigs := rfl
@[simp] theorem modChan_serves (i : Nat) (f : Chan → Chan) (s : State) : (modChan i f s).serves = s.serves := rfl
@[simp] theorem modChan_pages (i : Nat) (f : Chan → Chan) (s : State) : (modChan i f s).pages = s.pages := rfl
@[simp] theorem modChan_sync (i : Nat) (f : Chan → Chan) (s : State) : (modChan i f s).sync = s.sync := rfl
@[simp] theorem modChan_ctxs (i : Nat) (f : Chan → Chan) (s : State) : (modChan i f s).ctxs = s.ctxs := rfl
@[simp] theorem modChan_reduce (i : Nat) (f : Chan → Chan) (s : State) : (modChan i f s).reduce = s.reduce := rfl
@[simp] theorem modChan_dets (i : Nat) (f : Chan → Chan) (s : State) : (modChan i f s).dets = s.dets := rfl
@[simp] theorem modChan_image (i : Nat) (f : Chan → Chan) (s : State) : (modChan i f s).image = s.image := rfl
@[simp] theorem modChan_reshape (i : Nat) (f : Chan → Chan) (s : State) : (modChan i f s).reshape = s.reshape := rfl
@[simp] theorem modChan_ports (i : Nat) (f : Chan → Chan) (s : State) : (modChan i f s).ports = s.ports := rfl
@[simp] theorem modChan_bed (i : Nat) (f : Chan → Chan) (s : State) : (modChan i f s).bed = s.bed := rfl
@[simp] theorem modChan_clock (i : Nat) (f : Chan → Chan) (s : State) : (modChan i f s).clock = s.clock := rfl
@[simp] theorem modChan_build (i : Nat) (f : Chan → Chan) (s : State) : (modChan i f s).build = s.build := rfl
@[simp] theorem modChan_place (i : Nat) (f : Chan → Chan) (s : State) : (modChan i f s).place = s.place := rfl
@[simp] theorem modChan_fresh (i : Nat) (f : Chan → Chan) (s : State) : (modChan i f s).fresh = s.fresh := rfl

@[simp] theorem modQueue_power (i : Nat) (f : Queue → Queue) (s : State) : (modQueue i f s).power = s.power := rfl
@[simp] theorem modQueue_face (i : Nat) (f : Queue → Queue) (s : State) : (modQueue i f s).face = s.face := rfl
@[simp] theorem modQueue_faults (i : Nat) (f : Queue → Queue) (s : State) : (modQueue i f s).faults = s.faults := rfl
@[simp] theorem modQueue_wrapper (i : Nat) (f : Queue → Queue) (s : State) : (modQueue i f s).wrapper = s.wrapper := rfl
@[simp] theorem modQueue_store (i : Nat) (f : Queue → Queue) (s : State) : (modQueue i f s).store = s.store := rfl
@[simp] theorem modQueue_held (i : Nat) (f : Queue → Queue) (s : State) : (modQueue i f s).held = s.held := rfl
@[simp] theorem modQueue_work (i : Nat) (f : Queue → Queue) (s : State) : (modQueue i f s).work = s.work := rfl
@[simp] theorem modQueue_outs (i : Nat) (f : Queue → Queue) (s : State) : (modQueue i f s).outs = s.outs := rfl
@[simp] theorem modQueue_pending (i : Nat) (f : Queue → Queue) (s : State) : (modQueue i f s).pending = s.pending := rfl
@[simp] theorem modQueue_tasks (i : Nat) (f : Queue → Queue) (s : State) : (modQueue i f s).tasks = s.tasks := rfl
@[simp] theorem modQueue_jigs (i : Nat) (f : Queue → Queue) (s : State) : (modQueue i f s).jigs = s.jigs := rfl
@[simp] theorem modQueue_serves (i : Nat) (f : Queue → Queue) (s : State) : (modQueue i f s).serves = s.serves := rfl
@[simp] theorem modQueue_pages (i : Nat) (f : Queue → Queue) (s : State) : (modQueue i f s).pages = s.pages := rfl
@[simp] theorem modQueue_sync (i : Nat) (f : Queue → Queue) (s : State) : (modQueue i f s).sync = s.sync := rfl
@[simp] theorem modQueue_ctxs (i : Nat) (f : Queue → Queue) (s : State) : (modQueue i f s).ctxs = s.ctxs := rfl
@[simp] theorem modQueue_reduce (i : Nat) (f : Queue → Queue) (s : State) : (modQueue i f s).reduce = s.reduce := rfl
@[simp] theorem modQueue_dets (i : Nat) (f : Queue → Queue) (s : State) : (modQueue i f s).dets = s.dets := rfl
@[simp] theorem modQueue_image (i : Nat) (f : Queue → Queue) (s : State) : (modQueue i f s).image = s.image := rfl
@[simp] theorem modQueue_reshape (i : Nat) (f : Queue → Queue) (s : State) : (modQueue i f s).reshape = s.reshape := rfl
@[simp] theorem modQueue_ports (i : Nat) (f : Queue → Queue) (s : State) : (modQueue i f s).ports = s.ports := rfl
@[simp] theorem modQueue_bed (i : Nat) (f : Queue → Queue) (s : State) : (modQueue i f s).bed = s.bed := rfl
@[simp] theorem modQueue_clock (i : Nat) (f : Queue → Queue) (s : State) : (modQueue i f s).clock = s.clock := rfl
@[simp] theorem modQueue_build (i : Nat) (f : Queue → Queue) (s : State) : (modQueue i f s).build = s.build := rfl
@[simp] theorem modQueue_place (i : Nat) (f : Queue → Queue) (s : State) : (modQueue i f s).place = s.place := rfl
@[simp] theorem modQueue_fresh (i : Nat) (f : Queue → Queue) (s : State) : (modQueue i f s).fresh = s.fresh := rfl

@[simp] theorem modHostq_power (p : Nat) (f : HostQ → HostQ) (s : State) : (modHostq p f s).power = s.power := rfl
@[simp] theorem modHostq_face (p : Nat) (f : HostQ → HostQ) (s : State) : (modHostq p f s).face = s.face := rfl
@[simp] theorem modHostq_faults (p : Nat) (f : HostQ → HostQ) (s : State) : (modHostq p f s).faults = s.faults := rfl
@[simp] theorem modHostq_wrapper (p : Nat) (f : HostQ → HostQ) (s : State) : (modHostq p f s).wrapper = s.wrapper := rfl
@[simp] theorem modHostq_store (p : Nat) (f : HostQ → HostQ) (s : State) : (modHostq p f s).store = s.store := rfl
@[simp] theorem modHostq_held (p : Nat) (f : HostQ → HostQ) (s : State) : (modHostq p f s).held = s.held := rfl
@[simp] theorem modHostq_work (p : Nat) (f : HostQ → HostQ) (s : State) : (modHostq p f s).work = s.work := rfl
@[simp] theorem modHostq_outs (p : Nat) (f : HostQ → HostQ) (s : State) : (modHostq p f s).outs = s.outs := rfl
@[simp] theorem modHostq_pending (p : Nat) (f : HostQ → HostQ) (s : State) : (modHostq p f s).pending = s.pending := rfl
@[simp] theorem modHostq_tasks (p : Nat) (f : HostQ → HostQ) (s : State) : (modHostq p f s).tasks = s.tasks := rfl
@[simp] theorem modHostq_jigs (p : Nat) (f : HostQ → HostQ) (s : State) : (modHostq p f s).jigs = s.jigs := rfl
@[simp] theorem modHostq_serves (p : Nat) (f : HostQ → HostQ) (s : State) : (modHostq p f s).serves = s.serves := rfl
@[simp] theorem modHostq_pages (p : Nat) (f : HostQ → HostQ) (s : State) : (modHostq p f s).pages = s.pages := rfl
@[simp] theorem modHostq_sync (p : Nat) (f : HostQ → HostQ) (s : State) : (modHostq p f s).sync = s.sync := rfl
@[simp] theorem modHostq_ctxs (p : Nat) (f : HostQ → HostQ) (s : State) : (modHostq p f s).ctxs = s.ctxs := rfl
@[simp] theorem modHostq_reduce (p : Nat) (f : HostQ → HostQ) (s : State) : (modHostq p f s).reduce = s.reduce := rfl
@[simp] theorem modHostq_dets (p : Nat) (f : HostQ → HostQ) (s : State) : (modHostq p f s).dets = s.dets := rfl
@[simp] theorem modHostq_image (p : Nat) (f : HostQ → HostQ) (s : State) : (modHostq p f s).image = s.image := rfl
@[simp] theorem modHostq_reshape (p : Nat) (f : HostQ → HostQ) (s : State) : (modHostq p f s).reshape = s.reshape := rfl
@[simp] theorem modHostq_ports (p : Nat) (f : HostQ → HostQ) (s : State) : (modHostq p f s).ports = s.ports := rfl
@[simp] theorem modHostq_bed (p : Nat) (f : HostQ → HostQ) (s : State) : (modHostq p f s).bed = s.bed := rfl
@[simp] theorem modHostq_clock (p : Nat) (f : HostQ → HostQ) (s : State) : (modHostq p f s).clock = s.clock := rfl
@[simp] theorem modHostq_build (p : Nat) (f : HostQ → HostQ) (s : State) : (modHostq p f s).build = s.build := rfl
@[simp] theorem modHostq_place (p : Nat) (f : HostQ → HostQ) (s : State) : (modHostq p f s).place = s.place := rfl
@[simp] theorem modHostq_fresh (p : Nat) (f : HostQ → HostQ) (s : State) : (modHostq p f s).fresh = s.fresh := rfl

@[simp] theorem modCtx_power (p c : Nat) (f : Ctx → Ctx) (s : State) : (modCtx p c f s).power = s.power := rfl
@[simp] theorem modCtx_face (p c : Nat) (f : Ctx → Ctx) (s : State) : (modCtx p c f s).face = s.face := rfl
@[simp] theorem modCtx_faults (p c : Nat) (f : Ctx → Ctx) (s : State) : (modCtx p c f s).faults = s.faults := rfl
@[simp] theorem modCtx_wrapper (p c : Nat) (f : Ctx → Ctx) (s : State) : (modCtx p c f s).wrapper = s.wrapper := rfl
@[simp] theorem modCtx_store (p c : Nat) (f : Ctx → Ctx) (s : State) : (modCtx p c f s).store = s.store := rfl
@[simp] theorem modCtx_held (p c : Nat) (f : Ctx → Ctx) (s : State) : (modCtx p c f s).held = s.held := rfl
@[simp] theorem modCtx_work (p c : Nat) (f : Ctx → Ctx) (s : State) : (modCtx p c f s).work = s.work := rfl
@[simp] theorem modCtx_outs (p c : Nat) (f : Ctx → Ctx) (s : State) : (modCtx p c f s).outs = s.outs := rfl
@[simp] theorem modCtx_pending (p c : Nat) (f : Ctx → Ctx) (s : State) : (modCtx p c f s).pending = s.pending := rfl
@[simp] theorem modCtx_tasks (p c : Nat) (f : Ctx → Ctx) (s : State) : (modCtx p c f s).tasks = s.tasks := rfl
@[simp] theorem modCtx_jigs (p c : Nat) (f : Ctx → Ctx) (s : State) : (modCtx p c f s).jigs = s.jigs := rfl
@[simp] theorem modCtx_serves (p c : Nat) (f : Ctx → Ctx) (s : State) : (modCtx p c f s).serves = s.serves := rfl
@[simp] theorem modCtx_pages (p c : Nat) (f : Ctx → Ctx) (s : State) : (modCtx p c f s).pages = s.pages := rfl
@[simp] theorem modCtx_sync (p c : Nat) (f : Ctx → Ctx) (s : State) : (modCtx p c f s).sync = s.sync := rfl
@[simp] theorem modCtx_queues (p c : Nat) (f : Ctx → Ctx) (s : State) : (modCtx p c f s).queues = s.queues := rfl
@[simp] theorem modCtx_reduce (p c : Nat) (f : Ctx → Ctx) (s : State) : (modCtx p c f s).reduce = s.reduce := rfl
@[simp] theorem modCtx_dets (p c : Nat) (f : Ctx → Ctx) (s : State) : (modCtx p c f s).dets = s.dets := rfl
@[simp] theorem modCtx_image (p c : Nat) (f : Ctx → Ctx) (s : State) : (modCtx p c f s).image = s.image := rfl
@[simp] theorem modCtx_reshape (p c : Nat) (f : Ctx → Ctx) (s : State) : (modCtx p c f s).reshape = s.reshape := rfl
@[simp] theorem modCtx_ports (p c : Nat) (f : Ctx → Ctx) (s : State) : (modCtx p c f s).ports = s.ports := rfl
@[simp] theorem modCtx_bed (p c : Nat) (f : Ctx → Ctx) (s : State) : (modCtx p c f s).bed = s.bed := rfl
@[simp] theorem modCtx_clock (p c : Nat) (f : Ctx → Ctx) (s : State) : (modCtx p c f s).clock = s.clock := rfl
@[simp] theorem modCtx_build (p c : Nat) (f : Ctx → Ctx) (s : State) : (modCtx p c f s).build = s.build := rfl
@[simp] theorem modCtx_place (p c : Nat) (f : Ctx → Ctx) (s : State) : (modCtx p c f s).place = s.place := rfl
@[simp] theorem modCtx_fresh (p c : Nat) (f : Ctx → Ctx) (s : State) : (modCtx p c f s).fresh = s.fresh := rfl

@[simp] theorem modSlice_power (p : Nat) (f : Slice → Slice) (s : State) : (modSlice p f s).power = s.power := rfl
@[simp] theorem modSlice_face (p : Nat) (f : Slice → Slice) (s : State) : (modSlice p f s).face = s.face := rfl
@[simp] theorem modSlice_faults (p : Nat) (f : Slice → Slice) (s : State) : (modSlice p f s).faults = s.faults := rfl
@[simp] theorem modSlice_wrapper (p : Nat) (f : Slice → Slice) (s : State) : (modSlice p f s).wrapper = s.wrapper := rfl
@[simp] theorem modSlice_store (p : Nat) (f : Slice → Slice) (s : State) : (modSlice p f s).store = s.store := rfl
@[simp] theorem modSlice_held (p : Nat) (f : Slice → Slice) (s : State) : (modSlice p f s).held = s.held := rfl
@[simp] theorem modSlice_work (p : Nat) (f : Slice → Slice) (s : State) : (modSlice p f s).work = s.work := rfl
@[simp] theorem modSlice_outs (p : Nat) (f : Slice → Slice) (s : State) : (modSlice p f s).outs = s.outs := rfl
@[simp] theorem modSlice_pending (p : Nat) (f : Slice → Slice) (s : State) : (modSlice p f s).pending = s.pending := rfl
@[simp] theorem modSlice_tasks (p : Nat) (f : Slice → Slice) (s : State) : (modSlice p f s).tasks = s.tasks := rfl
@[simp] theorem modSlice_jigs (p : Nat) (f : Slice → Slice) (s : State) : (modSlice p f s).jigs = s.jigs := rfl
@[simp] theorem modSlice_serves (p : Nat) (f : Slice → Slice) (s : State) : (modSlice p f s).serves = s.serves := rfl
@[simp] theorem modSlice_pages (p : Nat) (f : Slice → Slice) (s : State) : (modSlice p f s).pages = s.pages := rfl
@[simp] theorem modSlice_sync (p : Nat) (f : Slice → Slice) (s : State) : (modSlice p f s).sync = s.sync := rfl
@[simp] theorem modSlice_queues (p : Nat) (f : Slice → Slice) (s : State) : (modSlice p f s).queues = s.queues := rfl
@[simp] theorem modSlice_reduce (p : Nat) (f : Slice → Slice) (s : State) : (modSlice p f s).reduce = s.reduce := rfl
@[simp] theorem modSlice_dets (p : Nat) (f : Slice → Slice) (s : State) : (modSlice p f s).dets = s.dets := rfl
@[simp] theorem modSlice_image (p : Nat) (f : Slice → Slice) (s : State) : (modSlice p f s).image = s.image := rfl
@[simp] theorem modSlice_reshape (p : Nat) (f : Slice → Slice) (s : State) : (modSlice p f s).reshape = s.reshape := rfl
@[simp] theorem modSlice_ports (p : Nat) (f : Slice → Slice) (s : State) : (modSlice p f s).ports = s.ports := rfl
@[simp] theorem modSlice_bed (p : Nat) (f : Slice → Slice) (s : State) : (modSlice p f s).bed = s.bed := rfl
@[simp] theorem modSlice_clock (p : Nat) (f : Slice → Slice) (s : State) : (modSlice p f s).clock = s.clock := rfl
@[simp] theorem modSlice_build (p : Nat) (f : Slice → Slice) (s : State) : (modSlice p f s).build = s.build := rfl
@[simp] theorem modSlice_place (p : Nat) (f : Slice → Slice) (s : State) : (modSlice p f s).place = s.place := rfl
@[simp] theorem modSlice_fresh (p : Nat) (f : Slice → Slice) (s : State) : (modSlice p f s).fresh = s.fresh := rfl

@[simp] theorem modBucket_power (i : Nat) (f : Bucket → Bucket) (s : State) : (modBucket i f s).power = s.power := rfl
@[simp] theorem modBucket_face (i : Nat) (f : Bucket → Bucket) (s : State) : (modBucket i f s).face = s.face := rfl
@[simp] theorem modBucket_faults (i : Nat) (f : Bucket → Bucket) (s : State) : (modBucket i f s).faults = s.faults := rfl
@[simp] theorem modBucket_wrapper (i : Nat) (f : Bucket → Bucket) (s : State) : (modBucket i f s).wrapper = s.wrapper := rfl
@[simp] theorem modBucket_store (i : Nat) (f : Bucket → Bucket) (s : State) : (modBucket i f s).store = s.store := rfl
@[simp] theorem modBucket_held (i : Nat) (f : Bucket → Bucket) (s : State) : (modBucket i f s).held = s.held := rfl
@[simp] theorem modBucket_work (i : Nat) (f : Bucket → Bucket) (s : State) : (modBucket i f s).work = s.work := rfl
@[simp] theorem modBucket_outs (i : Nat) (f : Bucket → Bucket) (s : State) : (modBucket i f s).outs = s.outs := rfl
@[simp] theorem modBucket_pending (i : Nat) (f : Bucket → Bucket) (s : State) : (modBucket i f s).pending = s.pending := rfl
@[simp] theorem modBucket_tasks (i : Nat) (f : Bucket → Bucket) (s : State) : (modBucket i f s).tasks = s.tasks := rfl
@[simp] theorem modBucket_jigs (i : Nat) (f : Bucket → Bucket) (s : State) : (modBucket i f s).jigs = s.jigs := rfl
@[simp] theorem modBucket_serves (i : Nat) (f : Bucket → Bucket) (s : State) : (modBucket i f s).serves = s.serves := rfl
@[simp] theorem modBucket_pages (i : Nat) (f : Bucket → Bucket) (s : State) : (modBucket i f s).pages = s.pages := rfl
@[simp] theorem modBucket_sync (i : Nat) (f : Bucket → Bucket) (s : State) : (modBucket i f s).sync = s.sync := rfl
@[simp] theorem modBucket_queues (i : Nat) (f : Bucket → Bucket) (s : State) : (modBucket i f s).queues = s.queues := rfl
@[simp] theorem modBucket_ctxs (i : Nat) (f : Bucket → Bucket) (s : State) : (modBucket i f s).ctxs = s.ctxs := rfl
@[simp] theorem modBucket_dets (i : Nat) (f : Bucket → Bucket) (s : State) : (modBucket i f s).dets = s.dets := rfl
@[simp] theorem modBucket_image (i : Nat) (f : Bucket → Bucket) (s : State) : (modBucket i f s).image = s.image := rfl
@[simp] theorem modBucket_reshape (i : Nat) (f : Bucket → Bucket) (s : State) : (modBucket i f s).reshape = s.reshape := rfl
@[simp] theorem modBucket_ports (i : Nat) (f : Bucket → Bucket) (s : State) : (modBucket i f s).ports = s.ports := rfl
@[simp] theorem modBucket_bed (i : Nat) (f : Bucket → Bucket) (s : State) : (modBucket i f s).bed = s.bed := rfl
@[simp] theorem modBucket_clock (i : Nat) (f : Bucket → Bucket) (s : State) : (modBucket i f s).clock = s.clock := rfl
@[simp] theorem modBucket_build (i : Nat) (f : Bucket → Bucket) (s : State) : (modBucket i f s).build = s.build := rfl
@[simp] theorem modBucket_place (i : Nat) (f : Bucket → Bucket) (s : State) : (modBucket i f s).place = s.place := rfl
@[simp] theorem modBucket_fresh (i : Nat) (f : Bucket → Bucket) (s : State) : (modBucket i f s).fresh = s.fresh := rfl

@[simp] theorem modOrder_power (g : Nat) (f : Order → Order) (s : State) : (modOrder g f s).power = s.power := rfl
@[simp] theorem modOrder_face (g : Nat) (f : Order → Order) (s : State) : (modOrder g f s).face = s.face := rfl
@[simp] theorem modOrder_faults (g : Nat) (f : Order → Order) (s : State) : (modOrder g f s).faults = s.faults := rfl
@[simp] theorem modOrder_wrapper (g : Nat) (f : Order → Order) (s : State) : (modOrder g f s).wrapper = s.wrapper := rfl
@[simp] theorem modOrder_store (g : Nat) (f : Order → Order) (s : State) : (modOrder g f s).store = s.store := rfl
@[simp] theorem modOrder_held (g : Nat) (f : Order → Order) (s : State) : (modOrder g f s).held = s.held := rfl
@[simp] theorem modOrder_work (g : Nat) (f : Order → Order) (s : State) : (modOrder g f s).work = s.work := rfl
@[simp] theorem modOrder_outs (g : Nat) (f : Order → Order) (s : State) : (modOrder g f s).outs = s.outs := rfl
@[simp] theorem modOrder_pending (g : Nat) (f : Order → Order) (s : State) : (modOrder g f s).pending = s.pending := rfl
@[simp] theorem modOrder_tasks (g : Nat) (f : Order → Order) (s : State) : (modOrder g f s).tasks = s.tasks := rfl
@[simp] theorem modOrder_jigs (g : Nat) (f : Order → Order) (s : State) : (modOrder g f s).jigs = s.jigs := rfl
@[simp] theorem modOrder_serves (g : Nat) (f : Order → Order) (s : State) : (modOrder g f s).serves = s.serves := rfl
@[simp] theorem modOrder_pages (g : Nat) (f : Order → Order) (s : State) : (modOrder g f s).pages = s.pages := rfl
@[simp] theorem modOrder_sync (g : Nat) (f : Order → Order) (s : State) : (modOrder g f s).sync = s.sync := rfl
@[simp] theorem modOrder_queues (g : Nat) (f : Order → Order) (s : State) : (modOrder g f s).queues = s.queues := rfl
@[simp] theorem modOrder_ctxs (g : Nat) (f : Order → Order) (s : State) : (modOrder g f s).ctxs = s.ctxs := rfl
@[simp] theorem modOrder_dets (g : Nat) (f : Order → Order) (s : State) : (modOrder g f s).dets = s.dets := rfl
@[simp] theorem modOrder_image (g : Nat) (f : Order → Order) (s : State) : (modOrder g f s).image = s.image := rfl
@[simp] theorem modOrder_reshape (g : Nat) (f : Order → Order) (s : State) : (modOrder g f s).reshape = s.reshape := rfl
@[simp] theorem modOrder_ports (g : Nat) (f : Order → Order) (s : State) : (modOrder g f s).ports = s.ports := rfl
@[simp] theorem modOrder_bed (g : Nat) (f : Order → Order) (s : State) : (modOrder g f s).bed = s.bed := rfl
@[simp] theorem modOrder_clock (g : Nat) (f : Order → Order) (s : State) : (modOrder g f s).clock = s.clock := rfl
@[simp] theorem modOrder_build (g : Nat) (f : Order → Order) (s : State) : (modOrder g f s).build = s.build := rfl
@[simp] theorem modOrder_place (g : Nat) (f : Order → Order) (s : State) : (modOrder g f s).place = s.place := rfl
@[simp] theorem modOrder_fresh (g : Nat) (f : Order → Order) (s : State) : (modOrder g f s).fresh = s.fresh := rfl

@[simp] theorem modDet_power (p : Nat) (f : Det → Det) (s : State) : (modDet p f s).power = s.power := rfl
@[simp] theorem modDet_face (p : Nat) (f : Det → Det) (s : State) : (modDet p f s).face = s.face := rfl
@[simp] theorem modDet_faults (p : Nat) (f : Det → Det) (s : State) : (modDet p f s).faults = s.faults := rfl
@[simp] theorem modDet_wrapper (p : Nat) (f : Det → Det) (s : State) : (modDet p f s).wrapper = s.wrapper := rfl
@[simp] theorem modDet_store (p : Nat) (f : Det → Det) (s : State) : (modDet p f s).store = s.store := rfl
@[simp] theorem modDet_held (p : Nat) (f : Det → Det) (s : State) : (modDet p f s).held = s.held := rfl
@[simp] theorem modDet_work (p : Nat) (f : Det → Det) (s : State) : (modDet p f s).work = s.work := rfl
@[simp] theorem modDet_outs (p : Nat) (f : Det → Det) (s : State) : (modDet p f s).outs = s.outs := rfl
@[simp] theorem modDet_pending (p : Nat) (f : Det → Det) (s : State) : (modDet p f s).pending = s.pending := rfl
@[simp] theorem modDet_tasks (p : Nat) (f : Det → Det) (s : State) : (modDet p f s).tasks = s.tasks := rfl
@[simp] theorem modDet_jigs (p : Nat) (f : Det → Det) (s : State) : (modDet p f s).jigs = s.jigs := rfl
@[simp] theorem modDet_serves (p : Nat) (f : Det → Det) (s : State) : (modDet p f s).serves = s.serves := rfl
@[simp] theorem modDet_pages (p : Nat) (f : Det → Det) (s : State) : (modDet p f s).pages = s.pages := rfl
@[simp] theorem modDet_sync (p : Nat) (f : Det → Det) (s : State) : (modDet p f s).sync = s.sync := rfl
@[simp] theorem modDet_queues (p : Nat) (f : Det → Det) (s : State) : (modDet p f s).queues = s.queues := rfl
@[simp] theorem modDet_ctxs (p : Nat) (f : Det → Det) (s : State) : (modDet p f s).ctxs = s.ctxs := rfl
@[simp] theorem modDet_reduce (p : Nat) (f : Det → Det) (s : State) : (modDet p f s).reduce = s.reduce := rfl
@[simp] theorem modDet_image (p : Nat) (f : Det → Det) (s : State) : (modDet p f s).image = s.image := rfl
@[simp] theorem modDet_reshape (p : Nat) (f : Det → Det) (s : State) : (modDet p f s).reshape = s.reshape := rfl
@[simp] theorem modDet_ports (p : Nat) (f : Det → Det) (s : State) : (modDet p f s).ports = s.ports := rfl
@[simp] theorem modDet_bed (p : Nat) (f : Det → Det) (s : State) : (modDet p f s).bed = s.bed := rfl
@[simp] theorem modDet_clock (p : Nat) (f : Det → Det) (s : State) : (modDet p f s).clock = s.clock := rfl
@[simp] theorem modDet_build (p : Nat) (f : Det → Det) (s : State) : (modDet p f s).build = s.build := rfl
@[simp] theorem modDet_place (p : Nat) (f : Det → Det) (s : State) : (modDet p f s).place = s.place := rfl
@[simp] theorem modDet_fresh (p : Nat) (f : Det → Det) (s : State) : (modDet p f s).fresh = s.fresh := rfl

@[simp] theorem modPort_power (x : Nat) (f : Port → Port) (s : State) : (modPort x f s).power = s.power := rfl
@[simp] theorem modPort_face (x : Nat) (f : Port → Port) (s : State) : (modPort x f s).face = s.face := rfl
@[simp] theorem modPort_faults (x : Nat) (f : Port → Port) (s : State) : (modPort x f s).faults = s.faults := rfl
@[simp] theorem modPort_wrapper (x : Nat) (f : Port → Port) (s : State) : (modPort x f s).wrapper = s.wrapper := rfl
@[simp] theorem modPort_store (x : Nat) (f : Port → Port) (s : State) : (modPort x f s).store = s.store := rfl
@[simp] theorem modPort_held (x : Nat) (f : Port → Port) (s : State) : (modPort x f s).held = s.held := rfl
@[simp] theorem modPort_work (x : Nat) (f : Port → Port) (s : State) : (modPort x f s).work = s.work := rfl
@[simp] theorem modPort_outs (x : Nat) (f : Port → Port) (s : State) : (modPort x f s).outs = s.outs := rfl
@[simp] theorem modPort_pending (x : Nat) (f : Port → Port) (s : State) : (modPort x f s).pending = s.pending := rfl
@[simp] theorem modPort_tasks (x : Nat) (f : Port → Port) (s : State) : (modPort x f s).tasks = s.tasks := rfl
@[simp] theorem modPort_jigs (x : Nat) (f : Port → Port) (s : State) : (modPort x f s).jigs = s.jigs := rfl
@[simp] theorem modPort_serves (x : Nat) (f : Port → Port) (s : State) : (modPort x f s).serves = s.serves := rfl
@[simp] theorem modPort_pages (x : Nat) (f : Port → Port) (s : State) : (modPort x f s).pages = s.pages := rfl
@[simp] theorem modPort_sync (x : Nat) (f : Port → Port) (s : State) : (modPort x f s).sync = s.sync := rfl
@[simp] theorem modPort_queues (x : Nat) (f : Port → Port) (s : State) : (modPort x f s).queues = s.queues := rfl
@[simp] theorem modPort_ctxs (x : Nat) (f : Port → Port) (s : State) : (modPort x f s).ctxs = s.ctxs := rfl
@[simp] theorem modPort_reduce (x : Nat) (f : Port → Port) (s : State) : (modPort x f s).reduce = s.reduce := rfl
@[simp] theorem modPort_dets (x : Nat) (f : Port → Port) (s : State) : (modPort x f s).dets = s.dets := rfl
@[simp] theorem modPort_image (x : Nat) (f : Port → Port) (s : State) : (modPort x f s).image = s.image := rfl
@[simp] theorem modPort_reshape (x : Nat) (f : Port → Port) (s : State) : (modPort x f s).reshape = s.reshape := rfl
@[simp] theorem modPort_bed (x : Nat) (f : Port → Port) (s : State) : (modPort x f s).bed = s.bed := rfl
@[simp] theorem modPort_clock (x : Nat) (f : Port → Port) (s : State) : (modPort x f s).clock = s.clock := rfl
@[simp] theorem modPort_build (x : Nat) (f : Port → Port) (s : State) : (modPort x f s).build = s.build := rfl
@[simp] theorem modPort_place (x : Nat) (f : Port → Port) (s : State) : (modPort x f s).place = s.place := rfl
@[simp] theorem modPort_fresh (x : Nat) (f : Port → Port) (s : State) : (modPort x f s).fresh = s.fresh := rfl

@[simp] theorem emit_power (o : Out) (s : State) : (emit o s).power = s.power := rfl
@[simp] theorem emit_face (o : Out) (s : State) : (emit o s).face = s.face := rfl
@[simp] theorem emit_faults (o : Out) (s : State) : (emit o s).faults = s.faults := rfl
@[simp] theorem emit_wrapper (o : Out) (s : State) : (emit o s).wrapper = s.wrapper := rfl
@[simp] theorem emit_store (o : Out) (s : State) : (emit o s).store = s.store := rfl
@[simp] theorem emit_held (o : Out) (s : State) : (emit o s).held = s.held := rfl
@[simp] theorem emit_work (o : Out) (s : State) : (emit o s).work = s.work := rfl
@[simp] theorem emit_pending (o : Out) (s : State) : (emit o s).pending = s.pending := rfl
@[simp] theorem emit_tasks (o : Out) (s : State) : (emit o s).tasks = s.tasks := rfl
@[simp] theorem emit_jigs (o : Out) (s : State) : (emit o s).jigs = s.jigs := rfl
@[simp] theorem emit_serves (o : Out) (s : State) : (emit o s).serves = s.serves := rfl
@[simp] theorem emit_pages (o : Out) (s : State) : (emit o s).pages = s.pages := rfl
@[simp] theorem emit_sync (o : Out) (s : State) : (emit o s).sync = s.sync := rfl
@[simp] theorem emit_queues (o : Out) (s : State) : (emit o s).queues = s.queues := rfl
@[simp] theorem emit_ctxs (o : Out) (s : State) : (emit o s).ctxs = s.ctxs := rfl
@[simp] theorem emit_reduce (o : Out) (s : State) : (emit o s).reduce = s.reduce := rfl
@[simp] theorem emit_dets (o : Out) (s : State) : (emit o s).dets = s.dets := rfl
@[simp] theorem emit_image (o : Out) (s : State) : (emit o s).image = s.image := rfl
@[simp] theorem emit_reshape (o : Out) (s : State) : (emit o s).reshape = s.reshape := rfl
@[simp] theorem emit_ports (o : Out) (s : State) : (emit o s).ports = s.ports := rfl
@[simp] theorem emit_bed (o : Out) (s : State) : (emit o s).bed = s.bed := rfl
@[simp] theorem emit_clock (o : Out) (s : State) : (emit o s).clock = s.clock := rfl
@[simp] theorem emit_build (o : Out) (s : State) : (emit o s).build = s.build := rfl
@[simp] theorem emit_place (o : Out) (s : State) : (emit o s).place = s.place := rfl
@[simp] theorem emit_fresh (o : Out) (s : State) : (emit o s).fresh = s.fresh := rfl

@[simp] theorem later_power (j : Job) (s : State) : (later j s).power = s.power := rfl
@[simp] theorem later_face (j : Job) (s : State) : (later j s).face = s.face := rfl
@[simp] theorem later_faults (j : Job) (s : State) : (later j s).faults = s.faults := rfl
@[simp] theorem later_wrapper (j : Job) (s : State) : (later j s).wrapper = s.wrapper := rfl
@[simp] theorem later_store (j : Job) (s : State) : (later j s).store = s.store := rfl
@[simp] theorem later_held (j : Job) (s : State) : (later j s).held = s.held := rfl
@[simp] theorem later_outs (j : Job) (s : State) : (later j s).outs = s.outs := rfl
@[simp] theorem later_pending (j : Job) (s : State) : (later j s).pending = s.pending := rfl
@[simp] theorem later_tasks (j : Job) (s : State) : (later j s).tasks = s.tasks := rfl
@[simp] theorem later_jigs (j : Job) (s : State) : (later j s).jigs = s.jigs := rfl
@[simp] theorem later_serves (j : Job) (s : State) : (later j s).serves = s.serves := rfl
@[simp] theorem later_pages (j : Job) (s : State) : (later j s).pages = s.pages := rfl
@[simp] theorem later_sync (j : Job) (s : State) : (later j s).sync = s.sync := rfl
@[simp] theorem later_queues (j : Job) (s : State) : (later j s).queues = s.queues := rfl
@[simp] theorem later_ctxs (j : Job) (s : State) : (later j s).ctxs = s.ctxs := rfl
@[simp] theorem later_reduce (j : Job) (s : State) : (later j s).reduce = s.reduce := rfl
@[simp] theorem later_dets (j : Job) (s : State) : (later j s).dets = s.dets := rfl
@[simp] theorem later_image (j : Job) (s : State) : (later j s).image = s.image := rfl
@[simp] theorem later_reshape (j : Job) (s : State) : (later j s).reshape = s.reshape := rfl
@[simp] theorem later_ports (j : Job) (s : State) : (later j s).ports = s.ports := rfl
@[simp] theorem later_bed (j : Job) (s : State) : (later j s).bed = s.bed := rfl
@[simp] theorem later_clock (j : Job) (s : State) : (later j s).clock = s.clock := rfl
@[simp] theorem later_build (j : Job) (s : State) : (later j s).build = s.build := rfl
@[simp] theorem later_place (j : Job) (s : State) : (later j s).place = s.place := rfl
@[simp] theorem later_fresh (j : Job) (s : State) : (later j s).fresh = s.fresh := rfl

@[simp] theorem laters_power (js : List Job) (s : State) : (laters js s).power = s.power := rfl
@[simp] theorem laters_face (js : List Job) (s : State) : (laters js s).face = s.face := rfl
@[simp] theorem laters_faults (js : List Job) (s : State) : (laters js s).faults = s.faults := rfl
@[simp] theorem laters_wrapper (js : List Job) (s : State) : (laters js s).wrapper = s.wrapper := rfl
@[simp] theorem laters_store (js : List Job) (s : State) : (laters js s).store = s.store := rfl
@[simp] theorem laters_held (js : List Job) (s : State) : (laters js s).held = s.held := rfl
@[simp] theorem laters_outs (js : List Job) (s : State) : (laters js s).outs = s.outs := rfl
@[simp] theorem laters_pending (js : List Job) (s : State) : (laters js s).pending = s.pending := rfl
@[simp] theorem laters_tasks (js : List Job) (s : State) : (laters js s).tasks = s.tasks := rfl
@[simp] theorem laters_jigs (js : List Job) (s : State) : (laters js s).jigs = s.jigs := rfl
@[simp] theorem laters_serves (js : List Job) (s : State) : (laters js s).serves = s.serves := rfl
@[simp] theorem laters_pages (js : List Job) (s : State) : (laters js s).pages = s.pages := rfl
@[simp] theorem laters_sync (js : List Job) (s : State) : (laters js s).sync = s.sync := rfl
@[simp] theorem laters_queues (js : List Job) (s : State) : (laters js s).queues = s.queues := rfl
@[simp] theorem laters_ctxs (js : List Job) (s : State) : (laters js s).ctxs = s.ctxs := rfl
@[simp] theorem laters_reduce (js : List Job) (s : State) : (laters js s).reduce = s.reduce := rfl
@[simp] theorem laters_dets (js : List Job) (s : State) : (laters js s).dets = s.dets := rfl
@[simp] theorem laters_image (js : List Job) (s : State) : (laters js s).image = s.image := rfl
@[simp] theorem laters_reshape (js : List Job) (s : State) : (laters js s).reshape = s.reshape := rfl
@[simp] theorem laters_ports (js : List Job) (s : State) : (laters js s).ports = s.ports := rfl
@[simp] theorem laters_bed (js : List Job) (s : State) : (laters js s).bed = s.bed := rfl
@[simp] theorem laters_clock (js : List Job) (s : State) : (laters js s).clock = s.clock := rfl
@[simp] theorem laters_build (js : List Job) (s : State) : (laters js s).build = s.build := rfl
@[simp] theorem laters_place (js : List Job) (s : State) : (laters js s).place = s.place := rfl
@[simp] theorem laters_fresh (js : List Job) (s : State) : (laters js s).fresh = s.fresh := rfl

@[simp] theorem wakeUp_face (d : Nat) (s : State) : (wakeUp d s).face = s.face := rfl
@[simp] theorem wakeUp_faults (d : Nat) (s : State) : (wakeUp d s).faults = s.faults := rfl
@[simp] theorem wakeUp_wrapper (d : Nat) (s : State) : (wakeUp d s).wrapper = s.wrapper := rfl
@[simp] theorem wakeUp_store (d : Nat) (s : State) : (wakeUp d s).store = s.store := rfl
@[simp] theorem wakeUp_held (d : Nat) (s : State) : (wakeUp d s).held = s.held := rfl
@[simp] theorem wakeUp_work (d : Nat) (s : State) : (wakeUp d s).work = s.work := rfl
@[simp] theorem wakeUp_outs (d : Nat) (s : State) : (wakeUp d s).outs = s.outs := rfl
@[simp] theorem wakeUp_pending (d : Nat) (s : State) : (wakeUp d s).pending = s.pending := rfl
@[simp] theorem wakeUp_tasks (d : Nat) (s : State) : (wakeUp d s).tasks = s.tasks := rfl
@[simp] theorem wakeUp_jigs (d : Nat) (s : State) : (wakeUp d s).jigs = s.jigs := rfl
@[simp] theorem wakeUp_serves (d : Nat) (s : State) : (wakeUp d s).serves = s.serves := rfl
@[simp] theorem wakeUp_pages (d : Nat) (s : State) : (wakeUp d s).pages = s.pages := rfl
@[simp] theorem wakeUp_sync (d : Nat) (s : State) : (wakeUp d s).sync = s.sync := rfl
@[simp] theorem wakeUp_queues (d : Nat) (s : State) : (wakeUp d s).queues = s.queues := rfl
@[simp] theorem wakeUp_ctxs (d : Nat) (s : State) : (wakeUp d s).ctxs = s.ctxs := rfl
@[simp] theorem wakeUp_reduce (d : Nat) (s : State) : (wakeUp d s).reduce = s.reduce := rfl
@[simp] theorem wakeUp_dets (d : Nat) (s : State) : (wakeUp d s).dets = s.dets := rfl
@[simp] theorem wakeUp_image (d : Nat) (s : State) : (wakeUp d s).image = s.image := rfl
@[simp] theorem wakeUp_reshape (d : Nat) (s : State) : (wakeUp d s).reshape = s.reshape := rfl
@[simp] theorem wakeUp_ports (d : Nat) (s : State) : (wakeUp d s).ports = s.ports := rfl
@[simp] theorem wakeUp_bed (d : Nat) (s : State) : (wakeUp d s).bed = s.bed := rfl
@[simp] theorem wakeUp_clock (d : Nat) (s : State) : (wakeUp d s).clock = s.clock := rfl
@[simp] theorem wakeUp_build (d : Nat) (s : State) : (wakeUp d s).build = s.build := rfl
@[simp] theorem wakeUp_place (d : Nat) (s : State) : (wakeUp d s).place = s.place := rfl
@[simp] theorem wakeUp_fresh (d : Nat) (s : State) : (wakeUp d s).fresh = s.fresh := rfl

end Sys2Proof.Machine
end

