-- ==== Sys2Proof/Laws/Tables.lean ====
section
/-!
SUPPORT. Reading a table, a list or the block store after it has been written, and the canonical form of the store.
-/
namespace Sys2Proof.Machine

/-! ### Sparse tables -/

@[simp] theorem Tbl.find_put_same {α : Type} (t : Tbl α) (i : Nat) (x : α) : Tbl.find (Tbl.put t i x) i = some x := by
  induction t with
  | nil => simp [Tbl.put, Tbl.find]
  | cons h t ih =>
    obtain ⟨j, y⟩ := h
    simp only [Tbl.put]
    split
    · simp [Tbl.find]
    · split
      · simp [Tbl.find]
      · simp only [Tbl.find]
        split
        · simp_all
        · simp_all

theorem Tbl.find_put_ne {α : Type} (t : Tbl α) (i k : Nat) (x : α) (h : k ≠ i) :
    Tbl.find (Tbl.put t i x) k = Tbl.find t k := by
  induction t with
  | nil => simp [Tbl.put, Tbl.find, Ne.symm h]
  | cons e t ih =>
    obtain ⟨j, y⟩ := e
    simp only [Tbl.put]
    split
    · rename_i hj
      have hj : j = i := by simpa using hj
      subst hj
      simp [Tbl.find, Ne.symm h]
    · split
      · rename_i h1 h2
        simp only [Tbl.find]
        have : ¬ i = k := fun e => h e.symm
        by_cases hk : k < i
        · have h3 : ¬ j = k := by omega
          have h4 : k < j := by omega
          simp [this, hk, h3, h4]
        · simp [this, hk]
      · simp only [Tbl.find, ih]

@[simp] theorem Tbl.at_put_same {α : Type} (t : Tbl α) (i : Nat) (x d : α) : Tbl.at (Tbl.put t i x) i d = x := by
  simp [Tbl.at]

theorem Tbl.at_put_ne {α : Type} (t : Tbl α) (i k : Nat) (x d : α) (h : k ≠ i) :
    Tbl.at (Tbl.put t i x) k d = Tbl.at t k d := by
  simp [Tbl.at, Tbl.find_put_ne t i k x h]

theorem Tbl.at_of_find {α : Type} (t : Tbl α) (i : Nat) (x d : α) (h : Tbl.find t i = some x) : Tbl.at t i d = x := by
  simp [Tbl.at, h]

/-! ### Lists by place -/

@[simp] theorem setAt_length {α : Type} (l : List α) (i : Nat) (x : α) : (setAt l i x).length = l.length := by
  induction l generalizing i with
  | nil => rfl
  | cons h t ih => cases i <;> simp [setAt, ih]

theorem getD_setAt_same {α : Type} (l : List α) (i : Nat) (x d : α) (h : i < l.length) : (setAt l i x).getD i d = x := by
  induction l generalizing i with
  | nil => simp at h
  | cons a t ih =>
    cases i with
    | zero => simp [setAt]
    | succ n =>
      simp only [List.length_cons, Nat.add_lt_add_iff_right] at h
      simpa [setAt] using ih n h

theorem getD_setAt_ne {α : Type} (l : List α) (i k : Nat) (x d : α) (h : k ≠ i) : (setAt l i x).getD k d = l.getD k d := by
  induction l generalizing i k with
  | nil => rfl
  | cons a t ih =>
    cases i with
    | zero =>
      cases k with
      | zero => exact absurd rfl h
      | succ m => simp [setAt]
    | succ n =>
      cases k with
      | zero => simp [setAt]
      | succ m =>
        have : m ≠ n := by omega
        simpa [setAt] using ih n m this

/-! ### Reading back what an update of one element has written -/

@[simp] theorem slot_modSlot_same (i : Nat) (f : Slot → Slot) (s : State) : (modSlot i f s).slot i = f (s.slot i) := by
  simp [modSlot, setSlot, State.slot]

theorem slot_modSlot_ne (i k : Nat) (f : Slot → Slot) (s : State) (h : k ≠ i) : (modSlot i f s).slot k = s.slot k := by
  simp [modSlot, setSlot, State.slot, Tbl.at_put_ne _ i k _ _ h]

@[simp] theorem engine_modEngine_same (i : Nat) (f : Engine → Engine) (s : State) :
    (modEngine i f s).engine i = f (s.engine i) := by
  simp [modEngine, State.engine]

theorem engine_modEngine_ne (i k : Nat) (f : Engine → Engine) (s : State) (h : k ≠ i) :
    (modEngine i f s).engine k = s.engine k := by
  simp [modEngine, State.engine, Tbl.at_put_ne _ i k _ _ h]

@[simp] theorem sem_modSem_same (i : Nat) (f : Sem → Sem) (s : State) : (modSem i f s).sem i = f (s.sem i) := by
  simp [modSem, State.sem]

theorem sem_modSem_ne (i k : Nat) (f : Sem → Sem) (s : State) (h : k ≠ i) : (modSem i f s).sem k = s.sem k := by
  simp [modSem, State.sem, Tbl.at_put_ne _ i k _ _ h]

@[simp] theorem bar_modSem (i k : Nat) (f : Sem → Sem) (s : State) : (modSem i f s).bar k = s.bar k := rfl

@[simp] theorem waiter_modSem (i k : Nat) (f : Sem → Sem) (s : State) : (modSem i f s).waiter k = s.waiter k := rfl

@[simp] theorem bar_modBar_same (i : Nat) (f : Bar → Bar) (s : State) : (modBar i f s).bar i = f (s.bar i) := by
  simp [modBar, State.bar]

theorem bar_modBar_ne (i k : Nat) (f : Bar → Bar) (s : State) (h : k ≠ i) : (modBar i f s).bar k = s.bar k := by
  simp [modBar, State.bar, Tbl.at_put_ne _ i k _ _ h]

@[simp] theorem chan_modChan_same (i : Nat) (f : Chan → Chan) (s : State) : (modChan i f s).chan i = f (s.chan i) := by
  simp [modChan, State.chan]

theorem chan_modChan_ne (i k : Nat) (f : Chan → Chan) (s : State) (h : k ≠ i) : (modChan i f s).chan k = s.chan k := by
  simp [modChan, State.chan, Tbl.at_put_ne _ i k _ _ h]

@[simp] theorem queue_modQueue_same (i : Nat) (f : Queue → Queue) (s : State) : (modQueue i f s).queue i = f (s.queue i) := by
  simp [modQueue, State.queue]

theorem queue_modQueue_ne (i k : Nat) (f : Queue → Queue) (s : State) (h : k ≠ i) :
    (modQueue i f s).queue k = s.queue k := by
  simp [modQueue, State.queue, Tbl.at_put_ne _ i k _ _ h]

@[simp] theorem hostq_modHostq_same (p : Nat) (f : HostQ → HostQ) (s : State) : (modHostq p f s).hostq p = f (s.hostq p) := by
  simp [modHostq, State.hostq]

@[simp] theorem serve_modServe_same (p : Nat) (f : Serve → Serve) (s : State) : (modServe p f s).serve p = f (s.serve p) := by
  simp [modServe, State.serve]

theorem serve_modServe_ne (p k : Nat) (f : Serve → Serve) (s : State) (h : k ≠ p) :
    (modServe p f s).serve k = s.serve k := by
  simp [modServe, State.serve, Tbl.at_put_ne _ p k _ _ h]

@[simp] theorem page_modPages_same (p : Nat) (f : Pages → Pages) (s : State) : (modPages p f s).page p = f (s.page p) := by
  simp [modPages, State.page]

@[simp] theorem det_modDet_same (p : Nat) (f : Det → Det) (s : State) : (modDet p f s).det p = f (s.det p) := by
  simp [modDet, State.det]

@[simp] theorem bucket_modBucket_same (i : Nat) (f : Bucket → Bucket) (s : State) :
    (modBucket i f s).bucket i = f (s.bucket i) := by
  simp [modBucket, State.bucket]

@[simp] theorem slice_modSlice_same (p : Nat) (f : Slice → Slice) (s : State) : (modSlice p f s).slice p = f (s.slice p) := by
  simp [modSlice, State.slice]

@[simp] theorem ctx_modCtx_same (p c : Nat) (f : Ctx → Ctx) (s : State) : (modCtx p c f s).ctx p c = f (s.ctx p c) := by
  simp [modCtx, State.ctx]

theorem port_modPort_same (i : Nat) (f : Port → Port) (s : State) (h : i < s.ports.length) :
    (modPort i f s).port i = f (s.port i) := by
  simp only [modPort, State.port]
  exact getD_setAt_same _ _ _ _ h

theorem port_modPort_ne (i k : Nat) (f : Port → Port) (s : State) (h : k ≠ i) : (modPort i f s).port k = s.port k := by
  simp only [modPort, State.port]
  exact getD_setAt_ne _ _ _ _ _ h

/-! ### The block store -/

theorem Memory.wfFrom_mono (m : List Host.Cell) (lo hi : Nat) (h : lo ≤ hi) (hm : Memory.wfFrom hi m = true) :
    Memory.wfFrom lo m = true := by
  cases m with
  | nil => rfl
  | cons e t =>
    obtain ⟨a, v⟩ := e
    simp only [Memory.wfFrom, Bool.and_eq_true, decide_eq_true_eq] at hm ⊢
    exact ⟨⟨⟨by omega, hm.1.1.2⟩, hm.1.2⟩, hm.2⟩

/-- Below its first address a canonical store reads 0. -/
theorem memRead_below (m : List Host.Cell) (lo a : Nat) (hm : Memory.wfFrom lo m = true) (h : a < lo) : memRead m a = 0 := by
  induction m generalizing lo with
  | nil => rfl
  | cons e t ih =>
    obtain ⟨b, v⟩ := e
    simp only [Memory.wfFrom, Bool.and_eq_true, decide_eq_true_eq] at hm
    have : ¬ b = a := by omega
    simp only [memRead, beq_iff_eq, this, if_false]
    exact ih (b + 1) hm.2 (by omega)

/-- Writing a byte keeps the canonical form. -/
theorem memWrite_wfFrom (m : List Host.Cell) (lo a : Nat) (v : Byte) (hm : Memory.wfFrom lo m = true) (hl : lo ≤ a)
    (ha : a < 0x10000) : Memory.wfFrom lo (memWrite m a v) = true := by
  induction m generalizing lo with
  | nil => by_cases hv : v = 0#8 <;> simp [memWrite, Memory.wfFrom, hv, hl, ha]
  | cons e t ih =>
    obtain ⟨b, x⟩ := e
    have hm' := hm
    simp only [Memory.wfFrom, Bool.and_eq_true, decide_eq_true_eq] at hm
    simp only [memWrite, beq_iff_eq]
    split
    · rename_i hb
      subst hb
      split
      · exact Memory.wfFrom_mono t lo (b + 1) (by omega) hm.2
      · rename_i hv
        have hv : ¬ v = 0#8 := hv
        simp [Memory.wfFrom, hl, ha, hv, hm.2]
    · split
      · split
        · exact hm'
        · rename_i hab hv
          have hv : ¬ v = 0#8 := hv
          have h1 : ¬ x = 0#8 := by simpa using hm.1.2
          have h2 : a + 1 ≤ b := by omega
          simp [Memory.wfFrom, hl, ha, hv, hm.1.1.2, hm.2, h1, h2]
      · rename_i h1 h2
        simp only [Memory.wfFrom, Bool.and_eq_true, decide_eq_true_eq]
        exact ⟨hm.1, ih (b + 1) hm.2 (by omega)⟩

/-- Writing a byte keeps the canonical form of the store. -/
theorem memWrite_wf (m : List Host.Cell) (a : Nat) (v : Byte) (hm : Memory.wf m = true) (ha : a < 0x10000) :
    Memory.wf (memWrite m a v) = true := memWrite_wfFrom m 0 a v hm (by omega) ha

/-- Writing bytes keeps the canonical form of the store. -/
theorem storeWrite_wf (m : List Host.Cell) (a n bits : Nat) (hm : Memory.wf m = true) :
    Memory.wf (storeWrite m a n bits) = true := by
  unfold storeWrite
  generalize List.range n = l
  induction l generalizing m with
  | nil => exact hm
  | cons i t ih =>
    simp only [List.foldl_cons]
    apply ih
    split
    · exact memWrite_wf m _ _ hm (by assumption)
    · exact hm

/-- A byte reads as written, and every other byte as before. -/
theorem memRead_memWrite (m : List Host.Cell) (lo a b : Nat) (v : Byte) (hm : Memory.wfFrom lo m = true) :
    memRead (memWrite m a v) b = if b = a then v else memRead m b := by
  induction m generalizing lo with
  | nil =>
    by_cases hv : v = 0#8
    · simp [memWrite, memRead, hv]
    · by_cases hb : b = a
      · simp [memWrite, memRead, hv, hb]
      · simp [memWrite, memRead, hv, hb, Ne.symm hb]
  | cons e t ih =>
    obtain ⟨c, x⟩ := e
    simp only [Memory.wfFrom, Bool.and_eq_true, decide_eq_true_eq] at hm
    simp only [memWrite, beq_iff_eq]
    split
    · rename_i hc
      subst hc
      split
      · rename_i hv
        by_cases hb : b = c
        · subst hb
          simp [memRead_below t (b + 1) b hm.2 (by omega), hv]
        · simp [memRead, hb, Ne.symm hb]
      · by_cases hb : b = c
        · simp [memRead, hb]
        · simp [memRead, hb, Ne.symm hb]
    · split
      · rename_i hac hlt
        split
        · rename_i hv
          by_cases hb : b = a
          · subst hb
            have : memRead t b = 0 := memRead_below t (c + 1) b hm.2 (by omega)
            simp [memRead, hac, this, hv]
          · simp [hb]
        · by_cases hb : b = a
          · simp [memRead, hb]
          · simp [memRead, hb, Ne.symm hb]
      · rename_i hac hlt
        by_cases hc : c = b
        · subst hc
          simp [memRead, hac]
        · simp only [memRead, beq_iff_eq, hc, if_false]
          exact ih (c + 1) hm.2

/-- The store at reset is in canonical form. -/
theorem reset_store_wf : Memory.wf State.reset.store = true := rfl

end Sys2Proof.Machine
end

