-- ==== Sys2Proof/Laws/Commands.lean ====
section
/-!
SUPPORT. What the shared beginnings and ends of commands do, once for all commands: a prover cites these and unfolds none.
-/
namespace Sys2Proof.Machine

@[simp] theorem finish_next (s : State) : finish s = .next (finished s) := rfl

@[simp] theorem endQuiet_idle (s : State) (h : s.work = []) : endQuiet s = .next s := by simp [endQuiet, h]

/-- A command always ends in a next state once its effect is known. -/
theorem endQuiet_next (s : State) : ∃ t, endQuiet s = .next t := ⟨_, rfl⟩

theorem endWrite_next (off : Nat) (s : State) : ∃ t, endWrite off s = .next t := by
  unfold endWrite
  split
  · exact ⟨_, rfl⟩
  · exact ⟨_, rfl⟩

theorem endWrite_quiet (off : Nat) (s : State) (hq : quietOff (alignOff off) = true) (h : s.work = []) :
    endWrite off s = .next s := by simp [endWrite, hq, h]

@[simp] theorem settle_none (k : Nat) (s : State) (h : s.work = []) : settle k s = s := by
  cases k with
  | zero => rfl
  | succ k => simp [settle, h]

/-! ### Functional commands -/

theorem functional_awake (s : State) (k : State → Result) (h : s.awake) : functional s k = k s.begun := by
  obtain ⟨h1, h2, h3⟩ := h
  simp [functional, h1, h2, h3, State.begun]

theorem functional_live (s : State) (k : State → Result) (h : s.live) : functional s k = k s.begun :=
  functional_awake s k h.1

/-- A command of the sapwood begins as any other, once its domains can run. -/
theorem sapwood_live (s : State) (k : State → Result) (h : s.live) : sapwood s k = k s.begun := by
  have hp : s.begun.power.stopped = false := h.2
  simp [sapwood, functional_live s _ h, hp]

/-- While no sapwood domain can run nothing comes of an event there. -/
theorem sapwood_stopped (s : State) (k : State → Result) (h : s.awake) (hp : s.power.stopped = true) :
    sapwood s k = .next s.begun := by
  simp [sapwood, functional_awake s _ h, hp, noEvent, State.begun]

/-- A command of the sapwood is a functional one. -/
theorem sapwood_functional (s : State) (k : State → Result) : ∃ k', sapwood s k = functional s k' := ⟨_, rfl⟩

/-- A timer that falls due while domains can run acts in its own. -/
theorem timerDue_runs (d : Nat) (s : State) (k : State → Result) (h : s.power.stopped = false) :
    timerDue d s k = k (wakeUp d s) := by simp [timerDue, h]

theorem functional_undefined (s : State) (k : State → Result) (h : s.wrapper.undefined = true) :
    functional s k = .fault .stateUndefined := by simp [functional, h]

theorem functional_inReset (s : State) (k : State → Result) (h : s.wrapper.undefined = false)
    (hr : s.power.inReset = true) : functional s k = .next { s with outs := [] } := by simp [functional, h, hr]

theorem functional_halted (s : State) (k : State → Result) (h : s.wrapper.undefined = false)
    (hp : s.power.phase = 5) : functional s k = .next { s with outs := [] } := by simp [functional, h, hp]

theorem atFace_live (s : State) (k : State → Result) (h : s.wrapper.undefined = false) (hr : s.power.inReset = false) :
    atFace s k = k s.begun := by simp [atFace, h, hr, State.begun]

/-! ### What a command finds when it begins -/

@[simp] theorem begun_power (s : State) : s.begun.power = s.power := rfl
@[simp] theorem begun_face (s : State) : s.begun.face = s.face := rfl
@[simp] theorem begun_faults (s : State) : s.begun.faults = s.faults := rfl
@[simp] theorem begun_tasks (s : State) : s.begun.tasks = s.tasks := rfl
@[simp] theorem begun_jigs (s : State) : s.begun.jigs = s.jigs := rfl
@[simp] theorem begun_serves (s : State) : s.begun.serves = s.serves := rfl
@[simp] theorem begun_pages (s : State) : s.begun.pages = s.pages := rfl
@[simp] theorem begun_sync (s : State) : s.begun.sync = s.sync := rfl
@[simp] theorem begun_queues (s : State) : s.begun.queues = s.queues := rfl
@[simp] theorem begun_ctxs (s : State) : s.begun.ctxs = s.ctxs := rfl
@[simp] theorem begun_reduce (s : State) : s.begun.reduce = s.reduce := rfl
@[simp] theorem begun_dets (s : State) : s.begun.dets = s.dets := rfl
@[simp] theorem begun_image (s : State) : s.begun.image = s.image := rfl
@[simp] theorem begun_reshape (s : State) : s.begun.reshape = s.reshape := rfl
@[simp] theorem begun_ports (s : State) : s.begun.ports = s.ports := rfl
@[simp] theorem begun_bed (s : State) : s.begun.bed = s.bed := rfl
@[simp] theorem begun_store (s : State) : s.begun.store = s.store := rfl
@[simp] theorem begun_wrapper (s : State) : s.begun.wrapper = s.wrapper := rfl
@[simp] theorem begun_held (s : State) : s.begun.held = s.held := rfl
@[simp] theorem begun_work (s : State) : s.begun.work = s.work := rfl
@[simp] theorem begun_outs (s : State) : s.begun.outs = [] := rfl
@[simp] theorem begun_pending (s : State) : s.begun.pending = s.pending := rfl
@[simp] theorem begun_build (s : State) : s.begun.build = s.build := rfl
@[simp] theorem begun_nodeFn (s : State) : s.begun.nodeFn = s.nodeFn := rfl
@[simp] theorem begun_place (s : State) : s.begun.place = s.place := rfl

/-! ### Ports, reads and lanes -/

/-- A message on a port that receives is accepted. -/
theorem onFlit_receives (x cls n : Nat) (s : State) (k : State → Result) (h : s.receives x) :
    onFlit x cls n s k = k (accepted x cls n s) := by
  obtain ⟨h1, h2, h3, h4, h5⟩ := h
  simp [onFlit, h1, h2, h3, h4, h5]

/-- A receiver that waits for a replay discards, and counts what it discards (12 R511). -/
theorem onFlit_waits (x cls n : Nat) (s : State) (k : State → Result) (h1 : s.hasPort x = true)
    (h2 : (s.port x).isl = 1) (h3 : (s.port x).state = 3) (h4 : s.isBridge x = false) (h5 : (s.port x).waiting = true) :
    onFlit x cls n s k = .next (discarded x n s) := by
  simp [onFlit, h1, h2, h3, h4, h5]

/-- A lane of a running SW_SYNC takes a request at once. -/
theorem atLane_runs (src : Nat) (i : Instr) (k : State → State) (s : State) (h : s.awake) (hl : s.hasLane src = true)
    (hr : s.runs swSync = true) (hd : s.sync.dumpBusy = false) : atLane src i k s = .next (finished (k s.begun)) := by
  have h1 : s.begun.hasLane src = true := hl
  have h2 : s.begun.runs swSync = true := hr
  simp [atLane, functional_awake s _ h, h1, h2, behindDump, hd]

/-- While a dump holds requests a lane holds what comes (06 R276; 12 R489). -/
theorem atLane_dumping (src : Nat) (i : Instr) (k : State → State) (s : State) (h : s.awake) (hl : s.hasLane src = true)
    (hr : s.runs swSync = true) (hd : s.sync.dumpBusy = true) :
    atLane src i k s = .next (finished { s.begun with held := s.held ++ [(8, i)] }) := by
  have h1 : s.begun.hasLane src = true := hl
  have h2 : s.begun.runs swSync = true := hr
  simp [atLane, functional_awake s _ h, h1, h2, behindDump, hd]

/-- A lane of a gated SW_SYNC holds the request, and asks the domain to run (01 R39). -/
theorem atLane_gated (src : Nat) (i : Instr) (k : State → State) (s : State) (h : s.awake) (hl : s.hasLane src = true)
    (hr : s.runs swSync = false) : atLane src i k s = .next (finished (hold swSync i s.begun)) := by
  have h1 : s.begun.hasLane src = true := hl
  have h2 : s.begun.runs swSync = false := hr
  simp [atLane, functional_awake s _ h, h1, h2]

/-! ### Faceplate writes -/

/-- With no work left over a faceplate write ends with its own effect, or with the follow-on work of it. -/
theorem endWrite_eq (off : Nat) (s : State) (h : s.work = []) :
    endWrite off s = .next (if quietOff (alignOff off) then s else finished s) := by
  unfold endWrite
  split
  · exact endQuiet_idle s h
  · rfl

/-- A command that is a write of a register carries out that write. -/
theorem exec_regWrite (c : Instr) (off data : Nat) (s : State) (h : regWriteOf c = some (off, data)) :
    exec c s = writeCommand off data s := by
  cases c
  case fpWrite off' data' =>
    have h' : (if isRead off' then none else some (off', data'.toNat)) = some (off, data) := h
    cases hr : isRead off' <;> simp only [hr, Bool.false_eq_true, if_false, if_true, Option.some.injEq, Prod.mk.injEq, reduceCtorEq] at h'
    obtain ⟨rfl, rfl⟩ := h'
    unfold exec execFpWrite
    simp [hr]
  all_goals simp only [regWriteOf, Option.some.injEq, Prod.mk.injEq, reduceCtorEq] at h
  all_goals (obtain ⟨rfl, rfl⟩ := h; rfl)

/-- An access that is not carried out is refused as it was judged, when no accepted request waits. -/
theorem fpWrite_refused (off d : Nat) (s : State) (h : ∀ x, s.judge (alignOff off) true ≠ .reach x)
    (hw : s.faceWaits = false) :
    fpWrite off d s = refuseWrite (s.judge (alignOff off) true).queue off s := by
  cases hj : s.judge (alignOff off) true with
  | reach x => exact absurd hj (h x)
  | unmapped => simp [fpWrite, hj, hw, State.gatedFor, writeAs, Access.queue, domFaceplate]
  | closed => simp [fpWrite, hj, hw, State.gatedFor, writeAs, Access.queue, domFaceplate]
  | unserved => simp [fpWrite, hj, hw, State.gatedFor, writeAs, Access.queue, domFaceplate]

/-- A write behind accepted requests, or to a gated domain, waits. -/
theorem fpWrite_waits (off d : Nat) (s : State)
    (h : (s.faceWaits || (s.gatedFor (s.judge (alignOff off) true)).isSome) = true) :
    fpWrite off d s = queueAccess (s.judge (alignOff off) true) (.fpWrite off (BitVec.ofNat 64 d)) s := by
  simp [fpWrite, h]

/-- A write that can be carried out takes effect at once. -/
theorem fpWrite_reaches (off data : Nat) (s : State) (h : s.reaches off) : fpWrite off data s.begun = s.written off data := by
  obtain ⟨d, hj, hd, hh⟩ := h
  have hb : s.begun.judge (alignOff off) true = .reach d := hj
  have hh' : s.begun.faceWaits = false := hh
  have hr : (d != domHeart && !s.begun.runs d) = false := by
    rcases hd with h | h
    · simp [h]
    · have : s.begun.runs d = true := h
      simp [this]
  simp [fpWrite, hb, hh', State.gatedFor, hr, writeAs, Access.queue, writeNow, State.written]

/-- A write to a gated domain waits. -/
theorem fpWrite_gated (off d : Nat) (data : Word) (s : State) (hj : s.judge (alignOff off) true = .reach d) (hd : d ≠ domHeart)
    (hr : s.runs d = false) (hn : (s.held.filter State.isAccepted).length < 16) :
    fpWrite off data.toNat s = { s with
      held := s.held ++ [(domFaceplate, .fpWrite off data)]
      power := { s.power with ungating := setAt s.power.ungating d true } } := by
  have hg : s.gatedFor (.reach d) = some d := by simp [State.gatedFor, hd, hr]
  rw [fpWrite_waits off data.toNat s (by simp [hj, hg])]
  have hg' : State.gatedFor { s with held := s.held ++ [(domFaceplate, .fpWrite off data)] } (.reach d) = some d := hg
  simp only [hj, queueAccess, Nat.not_le.mpr hn, if_false, askDomain, Access.queue, BitVec.ofNat_toNat, BitVec.setWidth_eq, hg']

/-! ### Where a command begins -/

/-- A synchronisation request is a functional command. -/
theorem atSyncLane_functional (src : Nat) (i : Instr) (k : State → State) (s : State) :
    ∃ k', atSyncLane src i k s = functional s k' := by
  unfold atSyncLane
  split
  · exact ⟨_, rfl⟩
  · exact ⟨_, rfl⟩

/-- Every command but those that act in a halted block too is a functional one. -/
theorem exec_functional (c : Instr) (s : State) (h : inHaltToo c = false) : ∃ k, exec c s = functional s k := by
  cases c
  case fpWrite => exact absurd h Bool.noConfusion
  case rstCold => exact absurd h Bool.noConfusion
  case rstWarm => exact absurd h Bool.noConfusion
  case domainUngate => exact absurd h Bool.noConfusion
  case domainGate => unfold exec execDomainGate; exact ⟨_, rfl⟩
  case clockLoss => exact absurd h Bool.noConfusion
  case fastStableRise => exact absurd h Bool.noConfusion
  case supervisorParity => unfold exec execSupervisorParity; exact ⟨_, rfl⟩
  case statusRecord => unfold exec execStatusRecord; exact ⟨_, rfl⟩
  case edgeGranuleArrive => unfold exec execEdgeGranuleArrive; exact ⟨_, rfl⟩
  case seasonFetchArrive => unfold exec execSeasonFetchArrive; exact ⟨_, rfl⟩
  case descFetchArrive => unfold exec execDescFetchArrive; exact ⟨_, rfl⟩
  case fetchGrant => unfold exec execFetchGrant; exact ⟨_, rfl⟩
  case predicateArrive => unfold exec execPredicateArrive; exact ⟨_, rfl⟩
  case taskDispatch => unfold exec execTaskDispatch; exact ⟨_, rfl⟩
  case taskTimeout => unfold exec execTaskTimeout; exact ⟨_, rfl⟩
  case engineRelease => exact absurd h Bool.noConfusion
  case engineSuspectClear => exact absurd h Bool.noConfusion
  case dispatch => unfold exec execDispatch; exact ⟨_, rfl⟩
  case completion => unfold exec execCompletion; exact ⟨_, rfl⟩
  case launchRecordArrive => unfold exec execLaunchRecordArrive; exact ⟨_, rfl⟩
  case jigCacheFill => unfold exec execJigCacheFill; exact ⟨_, rfl⟩
  case paramWordsArrive => unfold exec execParamWordsArrive; exact ⟨_, rfl⟩
  case launchReserve => unfold exec execLaunchReserve; exact ⟨_, rfl⟩
  case launchDoorbell => exact absurd h Bool.noConfusion
  case cmdlistReadArrive => unfold exec execCmdlistReadArrive; exact ⟨_, rfl⟩
  case segment => unfold exec execSegment; exact ⟨_, rfl⟩
  case segmentResend => unfold exec execSegmentResend; exact ⟨_, rfl⟩
  case intakeFrame => unfold exec execIntakeFrame; exact ⟨_, rfl⟩
  case newStream => unfold exec execNewStream applyTyped; exact ⟨_, rfl⟩
  case appendTokens => unfold exec execAppendTokens applyTyped; exact ⟨_, rfl⟩
  case endStream => unfold exec execEndStream applyTyped; exact ⟨_, rfl⟩
  case cancel => unfold exec execCancel applyTyped; exact ⟨_, rfl⟩
  case setDeadline => unfold exec execSetDeadline applyTyped; exact ⟨_, rfl⟩
  case intake => unfold exec execIntake; exact ⟨_, rfl⟩
  case intakeDoorbell => exact absurd h Bool.noConfusion
  case stepComplete => unfold exec execStepComplete; exact ⟨_, rfl⟩
  case stepFloorExpire => unfold exec execStepFloorExpire; exact ⟨_, rfl⟩
  case stepForm => unfold exec execStepForm; exact ⟨_, rfl⟩
  case digestDone => unfold exec execDigestDone; exact ⟨_, rfl⟩
  case serveFence => exact absurd h Bool.noConfusion
  case stepRelease => exact absurd h Bool.noConfusion
  case moveComplete => unfold exec execMoveComplete; exact ⟨_, rfl⟩
  case pageWarm => exact absurd h Bool.noConfusion
  case signal => unfold exec execSignal; exact atSyncLane_functional _ _ _ s
  case wait => unfold exec execWait; exact atSyncLane_functional _ _ _ s
  case tryTake => unfold exec execTryTake; exact atSyncLane_functional _ _ _ s
  case take => unfold exec execTake; exact atSyncLane_functional _ _ _ s
  case syncRead => unfold exec execSyncRead; exact atSyncLane_functional _ _ _ s
  case arrive => unfold exec execArrive; exact atSyncLane_functional _ _ _ s
  case arriveWait => unfold exec execArriveWait; exact atSyncLane_functional _ _ _ s
  case bwait => unfold exec execBwait; exact atSyncLane_functional _ _ _ s
  case switchCtx => unfold exec execSwitchCtx; exact atSyncLane_functional _ _ _ s
  case remoteSync => unfold exec execRemoteSync; exact ⟨_, rfl⟩
  case syncDbgSel => exact absurd h Bool.noConfusion
  case syncDump => exact absurd h Bool.noConfusion
  case syncDumpDone => unfold exec execSyncDumpDone; exact ⟨_, rfl⟩
  case send => unfold exec execSend; exact ⟨_, rfl⟩
  case sendPayloadReady => unfold exec execSendPayloadReady; exact ⟨_, rfl⟩
  case message => unfold exec execMessage; exact ⟨_, rfl⟩
  case messageRingWritten => unfold exec execMessageRingWritten; exact ⟨_, rfl⟩
  case answer => unfold exec execAnswer; exact ⟨_, rfl⟩
  case answerTimeout => unfold exec execAnswerTimeout; exact ⟨_, rfl⟩
  case messageResend => unfold exec execMessageResend; exact ⟨_, rfl⟩
  case queueWrite => unfold exec execQueueWrite; exact ⟨_, rfl⟩
  case queueRead => unfold exec execQueueRead; exact ⟨_, rfl⟩
  case mark => unfold exec execMark; exact ⟨_, rfl⟩
  case rewind => unfold exec execRewind; exact ⟨_, rfl⟩
  case queueRelease => unfold exec execQueueRelease; exact ⟨_, rfl⟩
  case pktBegin => unfold exec execPktBegin; exact ⟨_, rfl⟩
  case pktEnd => unfold exec execPktEnd; exact ⟨_, rfl⟩
  case queueStatus => unfold exec execQueueStatus; exact ⟨_, rfl⟩
  case queueRefillArrive => unfold exec execQueueRefillArrive; exact ⟨_, rfl⟩
  case queueTimeout => unfold exec execQueueTimeout; exact ⟨_, rfl⟩
  case hostqAck => exact absurd h Bool.noConfusion
  case hostqRecordAccepted => exact absurd h Bool.noConfusion
  case hostqRecordRetry => unfold exec execHostqRecordRetry; exact ⟨_, rfl⟩
  case quantumExpire => unfold exec execQuantumExpire; exact ⟨_, rfl⟩
  case ctxBringIn => exact absurd h Bool.noConfusion
  case ctxDemote => exact absurd h Bool.noConfusion
  case ctxPart => exact absurd h Bool.noConfusion
  case ctxRestore => exact absurd h Bool.noConfusion
  case part => unfold exec execPart; exact ⟨_, rfl⟩
  case restore => unfold exec execRestore; exact ⟨_, rfl⟩
  case borrow => unfold exec execBorrow; exact ⟨_, rfl⟩
  case returnRun => unfold exec execReturnRun; exact ⟨_, rfl⟩
  case holdLimit => unfold exec execHoldLimit; exact ⟨_, rfl⟩
  case contributeRecordArrive => unfold exec execContributeRecordArrive; exact ⟨_, rfl⟩
  case partialMsg => unfold exec execPartialMsg onReduce; exact ⟨_, rfl⟩
  case ready => unfold exec execReady onReduce; exact ⟨_, rfl⟩
  case result => unfold exec execResult onReduce; exact ⟨_, rfl⟩
  case shard => unfold exec execShard onReduce; exact ⟨_, rfl⟩
  case update => unfold exec execUpdate onReduce; exact ⟨_, rfl⟩
  case reduceDeadline => unfold exec execReduceDeadline; exact ⟨_, rfl⟩
  case deliveryDone => unfold exec execDeliveryDone; exact ⟨_, rfl⟩
  case detBoundary => exact absurd h Bool.noConfusion
  case boundaryTaken => unfold exec execBoundaryTaken; exact ⟨_, rfl⟩
  case member => unfold exec execMember; exact ⟨_, rfl⟩
  case memberAck => unfold exec execMemberAck; exact ⟨_, rfl⟩
  case imageLoad => exact absurd h Bool.noConfusion
  case imageLoadDone => unfold exec execImageLoadDone; exact ⟨_, rfl⟩
  case reshapeStart => exact absurd h Bool.noConfusion
  case reshapeAbort => exact absurd h Bool.noConfusion
  case prepare => unfold exec execPrepare onReshape; exact ⟨_, rfl⟩
  case reshapeValidateDone => unfold exec execReshapeValidateDone; exact ⟨_, rfl⟩
  case vote => unfold exec execVote onReshape; exact ⟨_, rfl⟩
  case drain => unfold exec execDrain onReshape; exact ⟨_, rfl⟩
  case drainComplete => unfold exec execDrainComplete; exact ⟨_, rfl⟩
  case drained => unfold exec execDrained onReshape; exact ⟨_, rfl⟩
  case swap => unfold exec execSwap onReshape; exact ⟨_, rfl⟩
  case bankWrite => unfold exec execBankWrite; exact ⟨_, rfl⟩
  case swapped => unfold exec execSwapped onReshape; exact ⟨_, rfl⟩
  case commit => unfold exec execCommit onReshape; exact ⟨_, rfl⟩
  case doneMsg => unfold exec execDoneMsg onReshape; exact ⟨_, rfl⟩
  case abortMsg => unfold exec execAbortMsg onReshape; exact ⟨_, rfl⟩
  case query => unfold exec execQuery onReshape; exact ⟨_, rfl⟩
  case outcome => unfold exec execOutcome onReshape; exact ⟨_, rfl⟩
  case queryRepeat => unfold exec execQueryRepeat; exact ⟨_, rfl⟩
  case journalWritten => unfold exec execJournalWritten; exact ⟨_, rfl⟩
  case bedWriteAccept => exact absurd h Bool.noConfusion
  case linkStateChange => exact absurd h Bool.noConfusion
  case admitMsg => unfold exec execAdmitMsg; exact ⟨_, rfl⟩
  case ack => unfold exec execAck; exact ⟨_, rfl⟩
  case nak => unfold exec execNak; exact ⟨_, rfl⟩
  case replayBegin => unfold exec execReplayBegin; exact ⟨_, rfl⟩
  case credit => unfold exec execCredit; exact ⟨_, rfl⟩
  case flitError => unfold exec execFlitError; exact ⟨_, rfl⟩
  case linkProtocol => unfold exec execLinkProtocol; exact ⟨_, rfl⟩
  case event => unfold exec execEvent; exact ⟨_, rfl⟩
  case ackTimer => unfold exec execAckTimer; exact ⟨_, rfl⟩
  case nakRepeat => unfold exec execNakRepeat; exact ⟨_, rfl⟩
  case l1Idle => unfold exec execL1Idle; exact ⟨_, rfl⟩
  case linkTimeout => unfold exec execLinkTimeout; exact ⟨_, rfl⟩
  case discoveryTimeout => unfold exec execDiscoveryTimeout; exact ⟨_, rfl⟩
  case pgSample => unfold exec execPgSample; exact ⟨_, rfl⟩
  case telemetryGap => unfold exec execTelemetryGap; exact ⟨_, rfl⟩
  case powerCap => exact absurd h Bool.noConfusion
  case flush => exact absurd h Bool.noConfusion
  case flushDone => unfold exec execFlushDone; exact ⟨_, rfl⟩
  case faultSel => exact absurd h Bool.noConfusion
  case wsBypass => exact absurd h Bool.noConfusion
  case wsExtest => exact absurd h Bool.noConfusion
  case wsIntestScan => exact absurd h Bool.noConfusion
  case wsClamp => exact absurd h Bool.noConfusion
  case wsSafe => exact absurd h Bool.noConfusion
  case wbIdcode => exact absurd h Bool.noConfusion
  case wbMbist => exact absurd h Bool.noConfusion
  case wbFpaccess => exact absurd h Bool.noConfusion
  case clkFastStop => exact absurd h Bool.noConfusion
  case resetAssert => exact absurd h Bool.noConfusion
  case mbistDone => exact absurd h Bool.noConfusion
  case streamCacheFill => unfold exec execStreamCacheFill; exact ⟨_, rfl⟩
  case ledgerCacheFill => unfold exec execLedgerCacheFill; exact ⟨_, rfl⟩

/-! ### The loss of the clock -/

/-- What a loss of the clock leaves of the block store is in the canonical form (log entry 78). -/
theorem lostStore_wf (n : Nat) : Memory.wf (lostStore n) = true := by
  unfold lostStore
  suffices h : ∀ (l : List Nat) (m : List Host.Cell), Memory.wf m = true →
      Memory.wf (l.foldl (fun m k => storeWrite m (8 * k) 8 (Sys2Proof.Config.freeValue (n + k))) m) = true from
    h _ _ rfl
  intro l
  induction l with
  | nil => exact fun _ h => h
  | cons k l ih => exact fun m h => ih _ (storeWrite_wf m _ _ _ h)

/-- A loss of the clock leaves the heartwood as it is, and the domains that did not run. -/
theorem clockLost_frame (s : State) :
    { clockLost s with
      power := s.power, tasks := s.tasks, jigs := s.jigs, reduce := s.reduce, serves := s.serves, queues := s.queues
      store := s.store, free := s.free } = s := rfl

end Sys2Proof.Machine
end

