-- ==== Sys2Proof/Laws/Cycle.lean ====
section
/-!
SUPPORT. What a heartwood cycle does: one lemma for each part of it.
-/
namespace Sys2Proof.Machine

/-- The window onto the ledger changes the ledger's registers only. -/
theorem showFault_shape (s : State) : ∃ f, showFault s = { s with faults := f } := by
  unfold showFault
  split <;> exact ⟨_, rfl⟩

/-- With nothing to number, numbering only shows the selected entry anew. -/
theorem numberFaults_none (s : State) (h : s.faults.unnumbered = []) : ∃ f, numberFaults s = { s with faults := f } := by
  obtain ⟨f, hf⟩ := showFault_shape { s with faults := { s.faults with unnumbered := [] } }
  exact ⟨f, by simp only [numberFaults, h, sortBy, List.foldl_nil]; exact hf⟩

/-- The start sequence is over once the phase is past CLEAR. -/
theorem startSequence_over (s : State) (h : 2 ≤ s.power.phase) : startSequence s = s := by
  have h0 : (s.power.phase == 0) = false := by simp; omega
  have h1 : (s.power.phase == 1) = false := by simp; omega
  simp only [startSequence, h0, h1, Bool.false_eq_true, if_false, Bool.false_and]

/-- A cycle in which nothing is left to do, in a block that has started: the timer, the ledger's registers, and the times for which
its domains have been idle. -/
theorem tick_idle (s : State) (hu : s.wrapper.undefined = false) (hr : s.power.inReset = false) (hw : s.work = [])
    (hf : s.faults.unnumbered = []) (hp : 2 ≤ s.power.phase) :
    ∃ f i, tick s = { s with
      outs := [], faults := f, fresh := []
      power := { s.power with heart := wrapAdd s.power.heart 1 64, idleFor := i } } := by
  obtain ⟨f, hs⟩ := numberFaults_none { s with outs := [] } hf
  refine ⟨f, (idleTimes { s with outs := [], faults := f }).power.idleFor, ?_⟩
  have he : endCycle { s with outs := [] } = { s with
      outs := [], faults := f, fresh := []
      power := { s.power with
        heart := wrapAdd s.power.heart 1 64
        idleFor := (idleTimes { s with outs := [], faults := f }).power.idleFor } } := by
    unfold endCycle
    rw [hs]
    exact startSequence_over _ hp
  have hg : (s.wrapper.undefined || s.power.inReset) = false := by rw [hu, hr]; rfl
  unfold tick
  rw [hg, settle_none _ { s with outs := [] } hw, he]
  exact settle_none _ _ hw

end Sys2Proof.Machine
end

