-- ==== Sys2Proof/WellFormed.lean ====
section
/-!
DEFINITION. Which terms of Instr stand for commands: every operand lies in the range that its port signal or its register
field has in spec/. A meaning does not ask for it: an operand outside its range names an event that cannot occur, or is cut
to its width, where the meaning looks at it.
-/
namespace Sys2Proof

/-- A string of bytes has no bits beyond its length (00 R8). -/
def Blob.wf (b : Blob) : Bool := decide (b.bits < 2 ^ (8 * b.len))

/-- A link port: 0 the parent, 1 to 8 the children (12 R525). -/
def okPort (x : Nat) : Bool := decide (x < 9)

/-- A bed tag of nine bits (12 R492). -/
def okTag (t : Nat) : Bool := decide (t < 512)

/-- A partition of six bits, a context of five (00, table of limits). -/
def okPart (p : Nat) : Bool := decide (p < 64)

def okCtx (c : Nat) : Bool := decide (c < 32)

/-- A requester id of ten bits (06 R245). -/
def okSrc (i : Nat) : Bool := decide (i < 1024)

/-- The term stands for a command. -/
def Instr.wf (i : Instr) : Bool :=
  match i with
  | .fpWrite off _ => decide (off < 2 ^ 25)
  | .rstCold => true
  | .rstWarm journal image => journal.wf && image.wf && journal.len == 4096
  | .domainUngate d => decide (d < 8)
  | .domainGate d => decide (d < 8)
  | .clockLoss => true
  | .fastStableRise => true
  | .supervisorParity => true
  | .statusRecord port _ => decide (port < 512)
  | .edgeGranuleArrive tag _ _ => okTag tag
  | .seasonFetchArrive tag _ _ => okTag tag
  | .descFetchArrive tag _ _ => okTag tag
  | .fetchGrant => true
  | .predicateArrive tag _ _ => okTag tag
  | .taskDispatch => true
  | .taskTimeout delegated idx => if delegated then decide (idx < 2 ^ 18) else decide (idx < 512)
  | .engineRelease port => decide (port < 512)
  | .engineSuspectClear port => decide (port < 512)
  | .dispatch port _ => okPort port
  | .completion port _ => okPort port
  | .launchRecordArrive tag _ _ => okTag tag
  | .jigCacheFill tag _ _ => okTag tag
  | .paramWordsArrive tag _ _ => okTag tag
  | .launchReserve p => okPart p
  | .launchDoorbell p _ => okPart p
  | .cmdlistReadArrive tag _ _ => okTag tag
  | .segment port _ => okPort port
  | .segmentResend exch _ _ => decide (exch < 256)
  | .intakeFrame _ _ => true
  | .newStream p => okPart p
  | .appendTokens p => okPart p
  | .endStream p => okPart p
  | .cancel p => okPart p
  | .setDeadline p => okPart p
  | .intake port _ => okPort port
  | .intakeDoorbell p _ => okPart p
  | .stepComplete p _ => okPart p
  | .stepFloorExpire p => okPart p
  | .stepForm p => okPart p
  | .digestDone p => okPart p
  | .serveFence p _ => okPart p
  | .stepRelease p _ => okPart p
  | .moveComplete p ledger => okPart p && decide (ledger < 2 ^ 20)
  | .pageWarm p _ => okPart p
  | .signal src _ => okSrc src
  | .wait src _ => okSrc src
  | .tryTake src _ => okSrc src
  | .take src _ => okSrc src
  | .syncRead src _ => okSrc src
  | .arrive src _ => okSrc src
  | .arriveWait src _ => okSrc src
  | .bwait src _ => okSrc src
  | .switchCtx src _ => okSrc src
  | .remoteSync port _ => okPort port
  | .syncDbgSel _ => true
  | .syncDump _ => true
  | .syncDumpDone _ => true
  | .send src _ => okSrc src
  | .sendPayloadReady tag _ _ => okTag tag
  | .message port _ payload => okPort port && payload.wf
  | .messageRingWritten chan seq => decide (chan < 4096) && decide (seq < 2 ^ 32)
  | .answer port _ => okPort port
  | .answerTimeout chan seq => decide (chan < 4096) && decide (seq < 2 ^ 32)
  | .messageResend chan seq => decide (chan < 4096) && decide (seq < 2 ^ 32)
  | .queueWrite src _ => okSrc src
  | .queueRead src _ => okSrc src
  | .mark src _ => okSrc src
  | .rewind src _ => okSrc src
  | .queueRelease src _ => okSrc src
  | .pktBegin src _ => okSrc src
  | .pktEnd src _ => okSrc src
  | .queueStatus src _ => okSrc src
  | .queueRefillArrive tag _ _ _ => okTag tag
  | .queueTimeout q => decide (q < 256)
  | .hostqAck p _ _ => okPart p
  | .hostqRecordAccepted p _ => okPart p
  | .hostqRecordRetry p => okPart p
  | .quantumExpire p => okPart p
  | .ctxBringIn p c => okPart p && okCtx c
  | .ctxDemote p c => okPart p && okCtx c
  | .ctxPart p c => okPart p && okCtx c
  | .ctxRestore p c => okPart p && okCtx c
  | .part port _ => okPort port
  | .restore port _ => okPort port
  | .borrow src _ => okSrc src
  | .returnRun src _ => okSrc src
  | .holdLimit sem c => decide (sem < 2 ^ 16) && okCtx c
  | .contributeRecordArrive tag _ _ => okTag tag
  | .partialMsg port _ mask data => okPort port && mask.wf && data.wf
  | .ready port _ => okPort port
  | .result port _ mask data => okPort port && mask.wf && data.wf
  | .shard port _ mask data => okPort port && mask.wf && data.wf
  | .update port _ data => okPort port && data.wf
  | .reduceDeadline slot => decide (slot < 4096)
  | .deliveryDone slot => decide (slot < 4096)
  | .detBoundary p _ => okPart p
  | .boundaryTaken p banks => okPart p && banks.all (fun b => b.2.1.wf && b.2.2.wf)
  | .member port _ bank => okPort port && bank.wf && bank.len == 576
  | .memberAck port _ => okPort port
  | .imageLoad _ => true
  | .imageLoadDone img => img.wf
  | .reshapeStart _ => true
  | .reshapeAbort _ => true
  | .prepare port _ => okPort port
  | .reshapeValidateDone img => img.wf
  | .vote port _ => okPort port
  | .drain port _ => okPort port
  | .drainComplete => true
  | .drained port _ => okPort port
  | .swap port _ => okPort port
  | .bankWrite table => decide (table < 4)
  | .swapped port _ => okPort port
  | .commit port _ => okPort port
  | .doneMsg port _ => okPort port
  | .abortMsg port _ => okPort port
  | .query port _ => okPort port
  | .outcome port _ => okPort port
  | .queryRepeat => true
  | .journalWritten => true
  | .bedWriteAccept tag _ => okTag tag
  | .linkStateChange port st => okPort port && decide (st < 4)
  | .admitMsg port _ => okPort port
  | .ack port _ => okPort port
  | .nak port _ => okPort port
  | .replayBegin port => okPort port
  | .credit port _ => okPort port
  | .flitError rx => okPort rx.1
  | .linkProtocol port => okPort port
  | .event port _ => okPort port
  | .ackTimer port => okPort port
  | .nakRepeat port => okPort port
  | .l1Idle port => okPort port
  | .linkTimeout port => okPort port
  | .discoveryTimeout port => okPort port
  | .pgSample _ => true
  | .telemetryGap => true
  | .powerCap _ => true
  | .flush _ => true
  | .flushDone => true
  | .faultSel _ => true
  | .wsBypass => true
  | .wsExtest _ => true
  | .wsIntestScan => true
  | .wsClamp => true
  | .wsSafe => true
  | .wbIdcode => true
  | .wbMbist _ => true
  | .wbFpaccess _ => true
  | .clkFastStop => true
  | .resetAssert cold warm => cold || warm
  | .mbistDone fail => fail.all (fun k => decide (k < 2 ^ 13))
  | .streamCacheFill tag _ _ => okTag tag
  | .ledgerCacheFill tag _ _ => okTag tag

end Sys2Proof
end

