-- ==== Sys2Proof/Tests/Slice0.lean ====
section
/-!
SUPPORT. Small tests, each of one command on a small state, and states that meet the hypotheses of the statements.
-/
namespace Sys2Proof.Tests

open Sys2Proof Sys2Proof.Machine

-- One proof at a time: the proofs of this file are kernel evaluations, and side by side they take much memory.
set_option Elab.async false

/-! ### Small states -/

/-- The bytes of a record: (byte offset, value) each. -/
def body (fs : List (Nat × Nat)) : Nat := fs.foldl (fun n f => n + f.2 * 2 ^ (8 * f.1)) 0

/-- A record kept by every instance (11 R427). -/
def record (ty k0 k1 : Nat) (fs : List (Nat × Nat)) : Rec :=
  { type := ty, scope := 2 ^ 15, key0 := k0, key1 := k1, bits := body fs }

/-- Partition 2 whose home is the path code `home`, with context 3 of class 0. -/
def partRecs (home : Nat) : List Rec :=
  [record tyPartition 2 0 [(16, home), (20, 100)], record tyContext 2 3 [(20, 0)]]

/-- A block that runs, with every domain running and no role. -/
def bare : State :=
  { State.reset with
    power := { State.reset.power with phase := 4, running := List.replicate 8 true, fastStable := true, heart := 2000000 } }

/-- A root leaf of the full build with the records. -/
def leaf (rs : List Rec) : State :=
  { bare with face := { bare.face with role := 1 }, image := { bare.image with state := 2, recs := rs, bank0 := rs } }

/-- The leaf at child 0 of its parent: TREE_ROLE names the parent port as connected, and the port is UP. -/
def child (rs : List Rec) : State :=
  let l := leaf (record tyTreeRole 0 0 [(17, 1), (32, 0x10000)] :: rs)
  { l with
    face := { l.face with depth := 1, path := [0] }
    ports := setAt l.ports 0 { isl := 1, state := 3, lastRx := 2000000 } }

/-- The leaf at child 0 with every link of its own node function up too: its parent and child 1. -/
def middle (rs : List Rec) : State :=
  let l := leaf (record tyTreeRole 0 0 [(17, 1), (18, 3)] :: rs)
  { l with
    nodeFn := true, face := { l.face with role := 2, depth := 1, path := [0] }
    ports := [{ isl := 1, state := 3, lastRx := 2000000 }, { isl := 1, state := 3, lastRx := 2000000 }] ++
      List.replicate 7 {} }

/-! ### States that meet the hypotheses of the statements -/

theorem witness_StepRunsFrontCommand :
    ({ bare with pending := [.clockLoss] } : State).pending = [.clockLoss] ∧ bare.pending = [] := by decide +kernel

/-- A block that runs; and the three phases of the start, CLEAR with clk_fast stable and not. -/
theorem witness_IdleCycles :
    (bare.pending = [] ∧ bare.wrapper.undefined = false ∧ bare.power.inReset = false ∧ bare.work = [] ∧
      bare.faults.unnumbered = [] ∧ 2 ≤ bare.power.phase) ∧
    (let start (ph : Nat) (fast : Bool) : State :=
        { State.reset with power := { State.reset.power with phase := ph, fastStable := fast } };
      ∀ s ∈ [start 0 false, start 1 false, start 1 true, start 2 true],
        s.pending = [] ∧ s.wrapper.undefined = false ∧ s.power.inReset = false ∧ s.work = [] ∧ s.faults.unnumbered = [] ∧
          s.power.replayIn = none ∧ s.held = [] ∧ s.bed.readWait = [] ∧ s.bed.writeWait = [] ∧
          (s.power.phase = 0 ∨ s.power.phase = 1 ∨ 2 ≤ s.power.phase)) := by decide +kernel

/-- The idle times of the first and the last domain. -/
theorem witness_IdleCycles_domains : 0 < 8 ∧ 7 < 8 ∧ bare.idle 7 = true := by decide +kernel

/-- Each reset and both; a warm reset that is released while the cold one is asserted, and after a reset by both. -/
theorem witness_ColdResetFromAnyState :
    ((true || false) = true ∧ (false || true) = true ∧ (true || true) = true) ∧
      ({ bare.power with coldReset := true } : Power).coldReset = true ∧
      (({ bare.power with bothResets := true } : Power).coldReset = false ∧
        ({ bare.power with bothResets := true } : Power).bothResets = true) := by decide +kernel

theorem witness_ClosedStatesTakeNoCommand :
    (let s : State := { bare with power := { bare.power with inReset := true } };
      s.wrapper.undefined = false ∧ s.power.inReset = true ∧ inEveryState .taskDispatch = false ∧ atPins .taskDispatch = false ∧
        s.hasPort 0 = true ∧ (3 : Nat) < 4 ∧ (s.port 0).isl ≠ 1 ∧ (s.port 0).isl ≠ 3) ∧
    (let s : State := { bare with power := { bare.power with phase := 5 } };
      s.wrapper.undefined = false ∧ s.power.phase = 5 ∧ s.power.inReset = false ∧ inHaltToo .taskDispatch = false) ∧
    (let s : State := { bare with wrapper := { bare.wrapper with undefined := true } };
      s.wrapper.undefined = true ∧ inEveryState .taskDispatch = false ∧ inEveryState (.rstWarm ⟨4096, 0⟩ ⟨0, 0⟩) = false ∧
        s.power.coldReset = false ∧ s.power.bothResets = false) ∧
    (∀ s ∈ [{ bare with wrapper := { bare.wrapper with undefined := true } },
        { bare with power := { bare.power with inReset := true } }, { bare with power := { bare.power with phase := 5 } }],
      (s.wrapper.undefined = true ∨ s.power.inReset = true ∨ s.power.phase = 5) ∧ s.power.warmReset = false) := by decide +kernel

/-- A functional command is none that a reset, a test instruction or a halt lets through. -/
theorem witness_ClosedStatesTakeNoCommand_command :
    (∀ j i, Instr.taskDispatch ≠ .rstWarm j i) ∧ (∀ d, Instr.taskDispatch ≠ .wbFpaccess d) :=
  ⟨fun _ _ h => (nomatch h), fun _ h => (nomatch h)⟩

/-- A halted block that holds a read of a faceplate register, and takes a write at its port. -/
theorem witness_HaltedBlockStandsStill :
    let s : State := { bare with
      power := { bare.power with phase := 5 }, held := [(domFaceplate, .fpWrite (2 ^ 24 + 0x18) 0)], pending := [.powerCap 1] };
    s.power.phase = 5 ∧ s.held.all heldInHalt = true ∧
      (∀ c ∈ s.pending, c ≠ .rstCold ∧ c ≠ .clockLoss ∧ ∀ j i, c ≠ .rstWarm j i) ∧ ∃ s', step s = .next s' := by
  refine ⟨rfl, by decide +kernel, by simp, ?_⟩
  exact ⟨_, rfl⟩

/-- A test instruction, with no reset and after a reset by both whose cold one has been released. -/
theorem witness_UndefinedUntilColdReset :
    ∀ both ∈ [false, true],
      let s : State := { bare with
        wrapper := { bare.wrapper with undefined := true }, power := { bare.power with bothResets := both }, pending := [.wsSafe] };
      s.wrapper.undefined = true ∧ (∀ c ∈ s.pending, c ≠ .rstCold) ∧ s.power.bothResets = both ∧ s.power.coldReset = false ∧
        (∀ j i rest, s.pending ≠ .rstWarm j i :: rest) ∧ ∃ s', step s = .next s' := by
  intro both _
  refine ⟨rfl, by simp, rfl, rfl, by simp, ?_⟩
  exact ⟨_, rfl⟩

theorem witness_WrapperInstructions :
    ({ bare with wrapper := { bare.wrapper with mbist := 1 } } : State).wrapper.mbist = 1 ∧
      (1 : Word).toNat % 2 = 1 ∧ (0 : Word).toNat % 2 = 0 ∧
      ∀ i ∈ [0x00, 0x01, 0x03, 0x04, 0x10, 0x12], ({ bare.wrapper with instr := i } : Wrapper).instr = i := by decide +kernel

/-- A write, a read of FP_STATUS, and a read at the faceplate port of that register and of one of a domain that runs. -/
theorem witness_WrapperAccessIsFaceplateAccess :
    bare.wrapper.undefined = false ∧ bare.power.inReset = false ∧ bare.work = [] ∧
      (BitVec.ofNat 128 (2 ^ 17)).toNat / 2 ^ 17 % 2 = 1 ∧ (BitVec.ofNat 128 3).toNat / 2 ^ 17 % 2 = 0 ∧
      bare.judge (alignOff (8 * fld (BitVec.ofNat 128 3).toNat 0 17)) false = .reach domHeart ∧
      bare.faceWaits = false ∧
      (isRead (2 ^ 24 + 0x18) = true ∧ bare.judge (alignOff (2 ^ 24 + 0x18)) false = .reach domHeart) ∧
      (isRead (2 ^ 24 + 0x50000) = true ∧ (leaf []).judge (alignOff (2 ^ 24 + 0x50000)) false = .reach swSync ∧
        (leaf []).runs swSync = true) := by decide +kernel

/-- An offset without a register, a region closed without a role, and a partition that is not configured; at once, behind an
accepted request, behind 16 of them, and for a command of its own in a halted block; written and read. -/
theorem witness_AccessNotCarriedOut :
    let s : State := { bare with held := [(domFaceplate, .fpWrite 0x50000 0)] };
    let full : State := { bare with held := List.replicate 16 (domFaceplate, .fpWrite 0x50000 0) };
    let h : State := { leaf [] with power := { bare.power with phase := 5 } };
    (bare.wrapper.undefined = false ∧ bare.power.inReset = false ∧ bare.work = [] ∧
      bare.judge (alignOff 0xF00) true = .unmapped ∧ bare.judge (alignOff 0x1018) true = .closed ∧
      (leaf []).judge (alignOff 0x10000) true = .unserved ∧ bare.faceWaits = false ∧ (leaf []).faceWaits = false ∧
      regWriteOf (.fpWrite 0xF00 0) = some (0xF00, 0)) ∧
    (∀ t ∈ [s, full], t.wrapper.undefined = false ∧ t.power.inReset = false ∧ t.work = [] ∧
      t.judge (alignOff 0xF00) true = .unmapped ∧ t.faceWaits = true) ∧ 16 ≤ (full.held.filter State.isAccepted).length ∧
    (h.wrapper.undefined = false ∧ h.power.inReset = false ∧ h.work = [] ∧ h.judge (alignOff 0x1018) true = .closed ∧
      h.faceWaits = false ∧ regWriteOf (.powerCap 1) = some (0x1018, 1)) ∧
    (let r := 2 ^ 24;
      isRead (r + 0xF00) = true ∧ bare.judge (alignOff (r + 0xF00)) false = .unmapped ∧
        bare.judge (alignOff (r + 0x1018)) false = .closed ∧ (leaf []).judge (alignOff (r + 0x10000)) false = .unserved) := by
  decide +kernel

theorem witness_GatedRegisterWriteWaits :
    let s : State := { leaf [] with
      power := { bare.power with running := List.replicate 8 false }, held := List.replicate 15 (domFaceplate, .fpWrite 0x50000 0) };
    s.awake ∧ s.work = [] ∧ s.judge (alignOff 0x50000) true = .reach swSync ∧ swSync ≠ domHeart ∧ s.runs swSync = false ∧
      isRead 0x50000 = false ∧ (s.held.filter State.isAccepted).length < 16 := by decide +kernel

/-- Engine 0, a partition's block at its home, a register of the synchronisation unit, and one of the heartwood domain. -/
theorem witness_RegisterCommandsWriteTheirRegister :
    let s := leaf (partRecs 0);
    (s.wrapper.undefined = false ∧ s.power.inReset = false ∧ s.power.phase ≠ 5) ∧ s.work = [] ∧
      s.judge (alignOff 0xE1000) true = .reach swDispatch ∧ s.runs swDispatch = true ∧
      s.judge (alignOff 0x12018) true = .reach swServe ∧ s.runs swServe = true ∧
      s.judge (alignOff 0x50000) true = .reach swSync ∧ s.runs swSync = true ∧
      s.judge (alignOff 0x1018) true = .reach domHeart ∧ s.faceWaits = false ∧
      regWriteOf (.engineRelease 0) = some (0xE1000, 2 ^ 30) ∧ regWriteOf (.powerCap 1) = some (0x1018, 1) := by
  decide +kernel

/-- LAUNCH_DOORBELL for a context that stands, is parted, and is not configured, and in a partition that drains, with 15 and with
16 doorbells waiting; a record that the window holds. -/
theorem witness_RegisterCommandsWriteTheirRegister_doorbell :
    let s := leaf (record tyTreeRole 0 0 [(32, 0x100000)] :: partRecs 0);
    let drains (n : Nat) : State := { s with reshape := { s.reshape with phase := 2, affected := 4, doorbells := List.replicate n (2, 0) } };
    63 < 64 ∧ (s.draining 2 = false ∧ s.ctxConfigured 2 3 = true ∧ s.gone 2 3 = false ∧ s.inWindow 0x1000 32 = true) ∧
      s.ctxConfigured 2 9 = false ∧ (modCtx 2 3 (fun x => { x with st := .parted }) s).gone 2 3 = true ∧
      ∀ n ∈ [15, 16], (drains n).draining 2 = true ∧ (drains n).reshape.doorbells.length = n := by decide +kernel

/-- DET_BOUNDARY at a home, with a serving partition and without, and with DET; CTX_CTRL.restore of a PARTED, a PARTING and another
context; a step's block that runs. -/
theorem witness_RegisterCommandsWriteTheirRegister_partition :
    let s := leaf (partRecs 0);
    let inSt (x : CtxSt) := modCtx 2 3 (fun c => { c with st := x }) s;
    let det : State := { s with dets := [(2, { det := true })] };
    let served := leaf (record tyServe 2 0 [] :: partRecs 0);
    let runs : State := { s with serves := [(2, { running := true, step := 5, blocks := [(0, 5)] })] };
    (s.isHome 2 = true ∧ s.serves? 2 = false ∧ s.detOf 2 = false ∧ det.detOf 2 = true ∧ served.serves? 2 = true) ∧
      (31 < 32 ∧ s.ctxConfigured 2 3 = true ∧ ((inSt .parted).ctx 2 3).st = .parted ∧ ((inSt .parting).ctx 2 3).st = .parting) ∧
      ((s.ctx 2 3).st ≠ .parted ∧ (s.ctx 2 3).st ≠ .parting ∧ s.ctxConfigured 2 9 = false ∧ (leaf (partRecs 1)).isHome 2 = false) ∧
      ((runs.serve 2).running = true ∧ (runs.serve 2).step = 5) := by decide +kernel

/-- SYNC_DUMP while a dump runs, out of place, outside the window, and where it goes; FAULT_SEL of an entry that is there and of one
that is not. -/
theorem witness_RegisterCommandsWriteTheirRegister_dump :
    let s : State := { leaf [record tyTreeRole 0 0 [(32, 0x8000000)]] with build := .b64 };
    let busy : State := { s with sync := { s.sync with dumpBusy := true } };
    let f : State := { s with faults := { s.faults with ledger := [{ seq := 5 }] } };
    (busy.sync.dumpBusy = true ∧ s.sync.dumpBusy = false) ∧ fld 64 0 52 % 4096 ≠ 0 ∧ s.inWindow 0 s.build.dumpSize = true ∧
      (leaf []).inWindow (2 ^ 51) (leaf []).build.dumpSize = false ∧ fld 0 0 52 % 4096 = 0 ∧ s.hasBed = true ∧
      (f.faults.ledger.find? (fun e => e.seq == 5)).isSome = true ∧ f.faults.ledger.find? (fun e => e.seq == 6) = none ∧
      bit 0 16 = false ∧ bit (2 ^ 16) 16 = true := by decide +kernel

/-- IMAGE_LOAD with a role and without; a reshape that starts, at once and behind older tasks, and that cannot; one that is aborted
while it waits and in its last phase before the commit, and one that is not. -/
theorem witness_RegisterCommandsWriteTheirRegister_reshape :
    let r (f : Reshape → Reshape) : State := { leaf [] with reshape := f State.reset.reshape };
    let older : State := { leaf [] with image := { (leaf []).image with older := 5 } };
    ((leaf []).hasRole = true ∧ bare.hasRole = false ∧ bare.image.loading = false) ∧
      (∀ s ∈ [leaf [], older], s.isRoot = true ∧ s.reshape.phase = 0 ∧ s.reshape.olderWait = false ∧ s.reshape.querying = false) ∧
      ((leaf []).image.older = 0 ∧ (leaf []).liveKids = [] ∧ older.image.older ≠ 0) ∧
      ((child []).isRoot = false ∧ (r (fun x => { x with phase := 1 })).reshape.phase ≠ 0 ∧
        (r (fun x => { x with olderWait := true })).reshape.olderWait = true ∧
        (r (fun x => { x with querying := true })).reshape.querying = true) ∧
      ((r (fun x => { x with olderWait := true })).isRoot = true ∧
        ∀ ph ∈ [1, 3], (r (fun x => { x with phase := ph })).isRoot = true ∧ 1 ≤ ph ∧ ph ≤ 3) ∧
      (∀ ph ∈ [0, 4], (r (fun x => { x with phase := ph })).reshape.olderWait = false ∧ ¬ (1 ≤ ph ∧ ph ≤ 3)) := by decide +kernel

theorem witness_EngineRegisterWrites :
    511 < 512 ∧ (bit 0 30 && (bare.engine 0).timedOut) = false ∧ bit 0 11 = false := by decide +kernel

/-- The first and the last partition of the array. -/
theorem witness_partition_range : 0 < 64 ∧ 63 < 64 := by decide

/-- The first and the last register of the block store of Bolrok 8. -/
theorem witness_BlockStoreWriteStores :
    let s : State := { bare with build := .b8 };
    s.awake ∧ s.power.phase ≠ 5 ∧ s.work = [] ∧ s.hasBed = false ∧ 0 < 8192 ∧ 8191 < 8192 ∧ s.runs swBed = true ∧
      s.faceWaits = false ∧ Memory.wf s.store = true := by decide +kernel

/-- Context 3 stands, and is parted. -/
theorem witness_HostPartingParts :
    let s := leaf (partRecs 0);
    let t := modCtx 2 3 (fun x => { x with st := .parted }) s;
    s.partConfigured 2 = true ∧ s.ctxConfigured 2 3 = true ∧ s.gone 2 3 = false ∧
      t.partConfigured 2 = true ∧ t.ctxConfigured 2 3 = true ∧ t.gone 2 3 = true := by decide +kernel

/-- DORMANT, PARTED, RESIDENT with nothing that holds it, and RESIDENT with a task. -/
theorem witness_BringInAndDemote :
    let s := leaf (partRecs 0);
    let t := modCtx 2 3 (fun x => { x with st := .resident }) s;
    let u := setSlot 5 { st := .pending, part := 2, ctx := 3 } t;
    (s.ctxConfigured 2 3 = true ∧ (s.ctx 2 3).st = .dormant) ∧ (t.ctx 2 3).st ≠ .dormant ∧
      (t.ctxConfigured 2 3 = true ∧ (t.ctx 2 3).st = .resident ∧ t.holding 2 3 = false ∧ t.pinsHeld 2 3 = false ∧
        t.guarCount 2 3 = 0 ∧ t.tasks.slots.any (fun e => e.2.st != .free && e.2.part == 2 && e.2.ctx == 3) = false) ∧
      (u.ctxConfigured 2 3 = true ∧ (u.ctx 2 3).st = .resident ∧
        u.tasks.slots.any (fun e => e.2.st != .free && e.2.part == 2 && e.2.ctx == 3) = true) := by decide +kernel

/-- RESIDENT with units of a shared object, with pins, and with guaranteed lines beyond the spill range. -/
theorem witness_BringInAndDemote_refused :
    let s := modCtx 2 3 (fun x => { x with st := .resident }) (leaf (partRecs 0));
    let t : State := { s with sync := { s.sync with sems := [(0, { part := 2, shared := true, holds := [(3, 1, 0)] })] } };
    let pins : State := { s with
      serves := [(2, { entries := [{ stream := 1, ctx := 3, tokens := 1 }] })], pages := [(2, { stepPins := [(1, 4)] })] };
    let g := modCtx 2 3 (fun x => { x with st := .resident })
      (leaf [record tyPartition 2 0 [(16, 0), (20, 100)], record tyContext 2 3 [(16, 1), (20, 5), (24, 100), (22, 3)]]);
    (∀ u ∈ [t, pins, g], 2 < 64 ∧ 3 < 32 ∧ u.ctxConfigured 2 3 = true ∧ (u.ctx 2 3).st = .resident) ∧ t.holding 2 3 = true ∧
      pins.pinsHeld 2 3 = true ∧ (g.guarCount 2 3 ≠ 0 ∧ g.inSpill (g.guarFirst 2 3, g.guarCount 2 3) = false) := by decide +kernel

/-- A domain that has been idle for the hold, and one whose ungate is pending. -/
theorem witness_GatingKeepsState :
    let idle : State := { bare with power := { bare.power with idleHold := 5, idleFor := List.replicate 8 5 } };
    let asks : State := { bare with power := { bare.power with ungating := List.replicate 8 true } };
    (idle.live ∧ idle.runs swJig = true ∧ idle.idle swJig = true ∧ bit idle.power.forceOn swJig = false ∧
      idle.power.idleHold ≤ idle.power.idleFor.getD swJig 0) ∧
      (asks.live ∧ asks.power.ungating.getD swSync false = true ∧
        asks.held.all (fun h => h.1 != swSync && decide (h.1 < domFaceplate)) = true) := by decide +kernel

/-- clk_fast that becomes stable, and one that nobody asks for. -/
theorem witness_GatingKeepsState_clk_fast :
    (let s : State := { bare with power := { bare.power with fastStable := false, ungating := List.replicate 8 true } };
      s.awake ∧ s.power.fastStable = false ∧ 2 ≤ s.power.phase ∧ s.held = [] ∧ s.bed.readWait = [] ∧ s.bed.writeWait = []) ∧
    (let s : State := { bare with power := { bare.power with running := List.replicate 8 false } };
      s.awake ∧ s.power.fastStable = true ∧ s.fastReq = false) := by decide +kernel

theorem witness_BlockFaultHalts :
    let s : State := { bare with power := { bare.power with running := (List.range 8).map (· == swGov) } };
    bare.awake ∧ bare.work = [] ∧ bare.held = [] ∧ bare.power.fastStable = true ∧ bare.power.running.any id = true ∧
      (s.power.running.any id = true ∧ s.runs swServe = false ∧ s.runs swSync = false ∧ s.runs swDispatch = false ∧
        s.runs swCombine = false) ∧ bare.hasPort 0 = true := by decide +kernel

/-- A power cap of 1,000: samples with the bus out of range (39,999 and 60,001), above the cap, well below it, and between; and a gap
without a cap. -/
theorem witness_TelemetrySetsGangWidth :
    let s : State := { bare with power := { bare.power with cap := 1000 } };
    s.awake ∧ s.runs swGov = true ∧ s.power.cap ≠ 0 ∧
      (∀ w ∈ [39999, 60001, 40000, 60000, 40000 + 1001 * 2 ^ 32, 40000 + 899 * 2 ^ 32, 40000 + 900 * 2 ^ 32,
          40000 + 1000 * 2 ^ 32], s.gapSample w = false) ∧
      s.power.busRange = false ∧ s.power.gap = false ∧ s.power.cap < 1001 ∧ 899 + s.power.hyst < s.power.cap ∧
      1000 ≤ s.power.cap ∧ s.power.cap ≤ 900 + s.power.hyst ∧ s.power.sampleAt + 200 ≤ s.power.heart ∧
      bare.power.cap = 0 ∧ bare.power.sampleAt + 200 ≤ bare.power.heart := by decide +kernel

theorem witness_PowerCapAndFlush :
    (let s : State := { bare with power := { bare.power with flushing := true } };
      s.live ∧ s.power.flushing = true ∧ s.serves.all (fun e => e.2.dirty.isEmpty) = true ∧
        s.pages.all (fun e => e.2.dirty.isEmpty) = true ∧ s.bed.writes = [] ∧ s.bed.writeWait = []) ∧
      (let s : State := { leaf (record tyTreeRole 0 0 [(32, 0x8000000)] :: record tyServe 2 0 [] :: partRecs 0) with
          serves := [(2, { dirty := [1] })] };
        2 ∈ s.parts ∧ 1 ∈ (s.serve 2).dirty ∧ s.hasBed = true ∧ s.inWindow (s.streamAddr 2 1) 64 = true) ∧
      fld 0 0 16 = 0 ∧ fld 1 0 16 ≠ 0 := by decide +kernel
/-- Two ports that are UP: the first and the last virtual channel and pool of a credit, flits that are right and that are not, and
what an idle port asks for. -/
theorem witness_links :
    let s := middle [];
    s.live ∧ s.work = [] ∧ s.held = [] ∧ s.portActive 0 = true ∧ s.portActive 1 = true ∧ 0 < s.ports.length ∧ 1 < s.ports.length ∧
      2 ≤ (s.port 0).state ∧ (s.port 0).waiting = false ∧ (s.port 0).unacked < 31 ∧ (s.port 0).replay = [] ∧
      (s.port 0).queue = [] ∧ (s.port 0).lastBusy + 400 ≤ s.power.heart ∧ 7 < 8 ∧ 127 < 128 ∧ 63 < 64 ∧
      s.flitRight 0 (envelope 0 0 2 7) 7 = true ∧ s.flitRight 0 (envelope 0 1 2 7) 7 = false ∧ s.flitRight 0 0 7 = false := by
  decide +kernel

/-- The parent port with a flit to be acknowledged, having received three NAKs, and with a receiver that waits. -/
def nakked : State :=
  let s := middle [];
  { s with ports := setAt s.ports 0 { s.port 0 with
      replay := [{ cls := 0, seq := 0, kind := 2, content := 7 }, { cls := 0, seq := 1, kind := 2, content := 8 }]
      naks := 3, waiting := true } }

theorem witness_AckAndNak :
    nakked.live ∧ nakked.work = [] ∧ nakked.portActive 0 = true ∧ 0 < nakked.ports.length ∧
      (freeAcked 0xFFFF (nakked.port 0).replay).length = (nakked.port 0).replay.length ∧ 4 ≤ (nakked.port 0).naks + 1 ∧
      (freeAcked 0 (nakked.port 0).replay).length < (nakked.port 0).replay.length ∧ (nakked.port 0).waiting = true ∧
      ((middle []).port 0).naks + 1 < 4 := by decide +kernel

/-- A link that has been silent for 64 µs, with nothing that came by its port waiting elsewhere, and a connected child that never
came. -/
theorem witness_LinkLossTakesPortDown :
    let s := middle [];
    let t : State := { s with ports := setAt s.ports 0 { s.port 0 with lastRx := s.power.heart - 6400, queue := [{ cls := 0, kind := 4 }] } };
    let u : State := { s with ports := setAt s.ports 1 { state := 1, since := s.power.heart - 1000000 } };
    (t.live ∧ t.timeoutDue 0 = true ∧ 0 < t.ports.length ∧ ¬ (t.face.role = 3 ∧ 0 = 1)) ∧
      (u.live ∧ u.discoveryDue 1 = true ∧ 1 < u.ports.length ∧ ¬ (u.face.role = 3 ∧ 1 = 1)) ∧
      (t.port 0).queue.all (fun m => m.back.isNone) = true ∧ t.jigs.exchanges = [] ∧ t.queues.chans = [] := by decide +kernel

/-- An UP port; and one that has been down, of which the link controller is told. -/
theorem witness_LinkStateFollows :
    let s := middle [];
    let t : State := { s with ports := setAt s.ports 1 {} };
    s.awake ∧ s.hasPort 0 = true ∧ 0 < 4 ∧ 3 < 4 ∧ (s.port 0).isl ≠ 2 ∧ (s.port 0).isl ≠ 3 ∧ (s.port 0).isl ≠ 0 ∧
      (s.port 0).state = 3 ∧ 0 < s.ports.length ∧ 1 < t.ports.length ∧ t.portUp 1 = false ∧ t.hasRole = true ∧
      t.connected 1 = true ∧ t.isBridge 1 = false ∧ s.portUp 0 = true := by decide +kernel

/-- A port being admitted: the partner's ADMIT and its path, another path, and verdicts. -/
def admitting : State :=
  let s := middle [];
  { s with ports := setAt s.ports 1 { isl := 1, state := 2, ours := some true } }

/-- The partner's ADMIT that is right and one that is not, with a verdict that has come, and without; its verdicts, with a verdict of
this side and without. -/
theorem witness_AdmissionJudges :
    let good : Granule := BitVec.ofNat 512 (pathCode [0, 0] * 2 ^ 48);
    let at' (o t : Option Bool) : State := { admitting with
      ports := setAt admitting.ports 1 { admitting.port 1 with ours := o, theirs := t } };
    (∀ s ∈ [at' none none, at' none (some true), at' none (some false), at' (some true) none, at' (some false) none],
      s.live ∧ s.portActive 1 = true ∧ s.connected 1 = true ∧ s.isBridge 1 = false ∧ (s.port 1).state = 2 ∧
        (s.port 1).waiting = false ∧ 1 < s.ports.length ∧ (s.port 1).unacked < 31 ∧ bit good.toNat 64 = false ∧
        s.admits 1 good.toNat = true ∧ s.admits 1 0 = false) ∧
      ((at' none (some true)).port 1).theirs = some true ∧ ((at' none (some false)).port 1).theirs = some false ∧
      ((at' (some true) none).port 1).ours = some true ∧ ((at' (some false) none).port 1).ours = some false ∧
      (∀ v ∈ [2 ^ 64 + 2 ^ 65, 2 ^ 64], bit (BitVec.ofNat 512 v).toNat 64 = true) ∧
      bit (BitVec.ofNat 512 (2 ^ 64 + 2 ^ 65)).toNat 65 = true ∧ bit (BitVec.ofNat 512 (2 ^ 64)).toNat 65 = false := by decide +kernel

/-- An EVENT for the home of its partition that comes from a child is passed on to the parent; an ANSWER for this instance is
taken, and so is a READY; a receiver that waits discards. -/
theorem witness_MessagesAreDiscardedPassedOnOrTaken :
    let s := middle (partRecs 0);
    let ev : Granule := BitVec.ofNat 512 (2 * 2 ^ 40);
    let an : Granule := BitVec.ofNat 512 (s.route s.selfCode 2 false * 2 ^ 448);
    s.live ∧ s.receives 1 ∧ nakked.live ∧
      flitsOf (.event 1 ev) = some (1, 1, 1) ∧ (relayed s (.event 1 ev)).map (·.1) = some 0 ∧
      0 ≠ s.selfCode ∧ s.nextHop 0 = some 0 ∧ s.hasPort 0 = true ∧ (0 : Nat) ≠ 1 ∧ 1 < s.ports.length ∧ 0 < s.ports.length ∧
      (s.port 1).unacked + 1 < 32 ∧
      flitsOf (.answer 1 an) = some (1, 0, 1) ∧ (relayed s (.answer 1 an)).map (·.1) = some s.selfCode ∧
      (nakked.hasPort 0 = true ∧ (nakked.port 0).waiting = true ∧ (nakked.port 0).isl = 1 ∧ (nakked.port 0).state = 3 ∧
        nakked.isBridge 0 = false) ∧
      ((reduceTake (.ready 1 an)).isSome = true ∧ routeBridge an = false ∧ routeDest an = s.selfCode) := by decide +kernel

/-- A READY for another member, one for the bridge from below the root, and one that the bridge gives the root. -/
theorem witness_MessagesAreDiscardedPassedOnOrTaken_reduce :
    let g := record tyReduce 1 0 [(16, 2), (18, 2), (20, 1), (26, 8), (32, 10), (64, 0), (66, 1)];
    let role (path : List Nat) (kind : Nat) : Rec :=
      { record tyTreeRole 0 0 [(16, kind), (17, 1), (18, 3)] with scope := pathCode path };
    let mid := middle (g :: partRecs 0);
    let top := middle ([role [] 2, role [0] 1, role [1] 1, g] ++ partRecs (pathCode [0]));
    let root : State := { top with face := { top.face with path := [], depth := 0, treeDepth := 1 } };
    let rm (dest : Nat) (br : Bool) : Granule :=
      BitVec.ofNat 512 (5 + 2 ^ 8 + 3 * 2 ^ 16 + 2 ^ 32 + 2 * 2 ^ 40 + 2 ^ 84 +
        (routeWord 9 dest 2 false + (if br then 2 ^ 15 else 0)) * 2 ^ 448);
    (∀ s ∈ [mid, root], s.live ∧ (∀ x ∈ [0, 1], s.hasPort x = true ∧ (s.port x).isl = 1 ∧ (s.port x).state = 3 ∧
        (s.port x).waiting = false ∧ (s.port x).unacked + 1 < 32 ∧ x < s.ports.length)) ∧
      flitsOf (.ready 1 (rm 0 false)) = some (1, 3, 1) ∧ (reduceTake (.ready 1 (rm 0 false))).map (·.1) = some (rm 0 false) ∧
      (routeBridge (rm 0 false) = false ∧ routeDest (rm 0 false) ≠ mid.selfCode ∧ mid.nextHop (routeDest (rm 0 false)) = some 0) ∧
      (routeBridge (rm 0 true) = true ∧ mid.isRoot = false ∧ (1 : Nat) ≠ 0) ∧
      (root.isRoot = true ∧ root.rdCode (rmsgOf (rm 0 true).toNat).group 0 = some (pathCode [0]) ∧
        pathCode [0] ≠ root.selfCode ∧ root.nextHop (pathCode [0]) = some 1) := by decide +kernel

/-- The read of a granule under tag 0, in its first issue or in its second. -/
def theRead (why : ReadFor) (retried : Bool) : BedRead := { len := 64, why := why, part := 2, ctx := 3, retried := retried }

/-- That read is outstanding; `left` granules of its transfer of `len` bytes have not come yet. -/
def readingOf (why : ReadFor) (retried : Bool) (len left : Nat) : State :=
  { leaf (partRecs 0) with
    bed := { State.reset.bed with reads := [(0, theRead why retried)], readXfers := [(0, { len := len, left := left })], nextXfer := 1 } }

/-- It is the last of its transfer. -/
def reading (why : ReadFor) (retried : Bool) : State := readingOf why retried 64 1

/-- A write of one granule under tag 0, in its first issue or in its second. -/
def writing (why : WriteFor) (retried : Bool) : State :=
  { leaf (partRecs 0) with
    bed := { State.reset.bed with
      writes := [(0, { data := ⟨64, 5⟩, why := why, part := 2, ctx := 3, retried := retried })]
      writeXfers := [(0, { len := 64, left := 1 })], nextXfer := 1 } }

theorem witness_FailedBedRequestsGoOnceMore :
    let wants := fun w : ReadFor => match w with | .season _ _ => true | _ => false;
    (∀ again ∈ [false, true],
      readOf (.seasonFetchArrive 0 0 true) = some (0, 0, true, wants) ∧
        (let s := reading (.season 1 0) again;
          s.live ∧ s.hasBed = true ∧ Tbl.find s.bed.reads 0 = some (theRead (.season 1 0) again) ∧ wants (.season 1 0) = true ∧
            s.bed.readWait = []) ∧
        (let s := writing (.task 1) again;
          s.wrapper.undefined = false ∧ s.power.inReset = false ∧ (Tbl.find s.bed.writes 0).map (·.retried) = some again ∧
            s.bed.readWait = [] ∧ s.bed.writeWait = [])) := by
  intro wants again h
  simp only [List.mem_cons, List.not_mem_nil, or_false] at h
  rcases h with rfl | rfl
  · exact ⟨rfl, by decide +kernel⟩
  · exact ⟨rfl, by decide +kernel⟩

/-- One read of each kind, and one that is the first of two. -/
theorem witness_ReadDataReachTheirUnit :
    (∀ why ∈ [ReadFor.season 1 0, .desc 1 0, .pred 1 0, .edge 1 0, .jigDir 1, .jigHead 1, .jigBody 1, .params 0 [0],
        .cmdlist 0, .payload 1 0, .refill 1 0, .contribute 1 0, .stream 2 1, .ledger 2 1, .launch 0],
      let s := reading why false;
      s.live ∧ Tbl.find s.bed.reads 0 = some (theRead why false) ∧ s.lastGranule (theRead why false) ∧ (theRead why false).why = why) ∧
    (let s := reading (.launch 0) false;
      let t : State := { s with jigs := { s.jigs with launches := [(0, {})] } };
      (Tbl.find (t.answered 0 (theRead (.launch 0) false) 0).jigs.launches 0).isSome = true) ∧
    (let s := readingOf (.season 1 0) false 128 2;
      s.live ∧ Tbl.find s.bed.reads 0 = some (theRead (.season 1 0) false) ∧ (theRead (.season 1 0) false).retried = false ∧
        s.bed.readWait = [] ∧ 2 ≤ (Tbl.at s.bed.readXfers (theRead (.season 1 0) false).xfer {}).left) := by decide +kernel

/-- What the units hold when their data come: a launch that reads its parameters and one with a command list, a word of a queue on its
way, a task that contributes, and records that are not in their caches. -/
theorem witness_ReadDataReachTheirUnit_units :
    let g := record tyReduce 1 0 [(16, 2), (18, 2), (20, 1), (26, 8), (32, 10), (64, 0), (66, 1)];
    let base := leaf ([record tyTreeRole 0 0 [(16, 1), (32, 0x8000000)], g] ++ partRecs 0);
    let u : State := { base with
      jigs := { base.jigs with launches := [(0, { part := 2, ctx := 3, phase := .params, paramPtr := 0x100 })] }
      tasks := { base.tasks with slots := [(1, { st := .issued, part := 2, ctx := 3 })] }
      queues := { base.queues with queues := [(1, { wr := 2, words := [{ place := 2 }, { place := 2 }] })] }
      serves := [(2, { uncached := [1] })], pages := [(2, { uncached := [1] })] };
    let busy : State := { u with reduce := { u.reduce with buckets := [(3, { isOpen := true, tag := 4099, group := 1, task := some 9 })] } };
    let crec : Nat := 3 + 2 ^ 16 + 64 * 2 ^ 32 + 0x1000 * 2 ^ 128 + 0x2000 * 2 ^ 192 + 0x3000 * 2 ^ 256 + 0x4000 * 2 ^ 320;
    let list : Nat := 1 + 2 ^ 512 * (0xFFFE * 2 ^ 68);
    ((Tbl.find u.jigs.launches 0).map (·.paramPtr) = some 0x100 ∧ 0x100 % 4 = 0) ∧
      (1 ≤ fld list 0 13 ∧ fld list 0 13 ≤ 4096 ∧ (64 : Nat) ≠ 96 ∧ u.listOk ⟨96, list⟩ = true ∧ listCount ⟨96, list⟩ ≤ u.build.taskSlots ∧
        listGranules ⟨96, list⟩ ≤ u.edgePool 2 ∧ u.listOk ⟨96, 0⟩ = false) ∧
      (((u.queue 1).words[sub32 0 (u.queue 1).rel]?).map (·.place) = some 2 ∧ (u.queue 1).reading = none) ∧
      (u.holdsTask 1 0 = true ∧ (u.checkContribute (u.slot 1).part 0).isSome = true) ∧
      (busy.holdsTask 1 0 = true ∧ busy.checkContribute (busy.slot 1).part crec = none ∧ (tryContribute 1 crec busy).isNone = true) ∧
      (1 ∈ (u.serve 2).uncached ∧ 0 ∉ (u.serve 2).uncached ∧ 1 ∈ (u.page 2).uncached ∧ 0 ∉ (u.page 2).uncached ∧
        (reading (.stream 2 1) false).filling 2 = true) := by decide +kernel

/-- Slot 1 with a task of generation 0 for which a read is outstanding under tag 0. -/
def reads (why : ReadFor) (x : Slot) : State := setSlot 1 x (reading why false)

theorem witness_TaskReadsChangeTheirSlot :
    (∀ w ∈ [ReadFor.season 1 0, .desc 1 0, .pred 1 0, .edge 1 0],
      let s := reads w { st := .fetching };
      s.live ∧ Tbl.find s.bed.reads 0 = some (theRead w false) ∧ s.lastGranule (theRead w false) ∧ s.holdsTask 1 0 = true) ∧
      ((reads (.season 1 0) { st := .seasoning }).holdsTask 1 0 = true ∧
        ((reads (.season 1 0) { st := .seasoning }).slot 1).st = .seasoning) ∧
      (∀ w ∈ [ReadFor.season 1 0, .desc 1 0], ((reads w { st := .fetching }).slot 1).st = .fetching ∧
        ((reads w { st := .fetching }).slot 1).skipAt = none) ∧
      (let s := reads (.pred 1 0) { st := .fetching, desc := some {}, skipAt := some 0 };
        s.holdsTask 1 0 = true ∧ (s.slot 1).st = .fetching ∧ (s.slot 1).desc.isSome = true) ∧
      ((reads (.edge 1 0) { st := .issued }).holdsTask 1 0 = true ∧ ((reads (.edge 1 0) { st := .issued }).slot 1).st ≠ .retiring) ∧
      (∀ w ∈ [ReadFor.season 1 0, .desc 1 0, .pred 1 0, .edge 1 0],
        (reads w {}).holdsTask 1 0 = false ∧ (reads w { st := .seasoning, gen := 1 }).holdsTask 1 0 = false) := by
  decide +kernel

/-- A granule of edges that names the granule `next`, with its reserved field, and entries of successor, kind and generation. -/
def edgeGranule (n next reserved : Nat) (es : List (Nat × Nat × Nat)) : Nat :=
  let word (e : Nat × Nat × Nat) : Nat := e.1 + e.2.1 * 2 ^ 18 + e.2.2 * 2 ^ 20;
  n + next * 2 ^ 4 + reserved * 2 ^ 36 + es.foldr (fun e w => word e * 2 ^ 64 + w * 2 ^ 32) 0

/-- Slot 1 is RETIRING, and the granule of its edges is being read; slots 2 and 3 have counts of 2 and 1, slot 6 one of 0. -/
def walking (c : CtxSt) (released : Bool) : State :=
  let s := modCtx 2 3 (fun z => { z with st := c }) (reading (.edge 1 0) false)
  let waits (n : Nat) : Slot := { st := .pending, part := 2, ctx := 3, count := n }
  { s with tasks := { s.tasks with
      granules := [(5, 1)]
      slots := [(1, { st := .retiring, part := 2, ctx := 3, fin := some (stOk, true), granules := [5], released := released
                      desc := some { taskId := 1, ordered := true, detKey := 0x1003 } }), (2, waits 2), (3, waits 1), (6, waits 0)] } }

/-- 15 entries, a reserved field that is not 0, the last granule and one before it, one and two entries of kind 1, one of each other
kind, one for a slot that is free and one of an older generation, one for a count of 0. -/
theorem witness_TaskReadsChangeTheirSlot_walk :
    let s := walking .resident false;
    let n (es : List (Nat × Nat × Nat)) : Nat := edgeGranule es.length 0 0 es;
    let k1 (n i : Nat) : Bool := fld (fld n (64 + 32 * i) 32) 18 2 == 1;
    let target (n i : Nat) : Nat := fld (fld n (64 + 32 * i) 32) 0 18;
    let gen (n i : Nat) : Nat := fld (fld n (64 + 32 * i) 32) 20 12;
    (∀ t ∈ [s, walking .parted false, walking .resident true],
      t.live ∧ Tbl.find t.bed.reads 0 = some (theRead (.edge 1 0) false) ∧ t.lastGranule (theRead (.edge 1 0) false) ∧
        t.holdsTask 1 0 = true ∧ (t.slot 1).st = .retiring) ∧
      fld (edgeGranule 15 0 0 []) 0 4 = 15 ∧ fld (edgeGranule 0 0 1 []) 36 28 ≠ 0 ∧
      (fld (n []) 0 4 = 0 ∧ fld (n []) 36 28 = 0 ∧ fld (n []) 4 32 = 0) ∧
      (let m := edgeGranule 0 9 0 []; let w := leaf (record tyTreeRole 0 0 [(32, 0x8000000)] :: partRecs 0);
        fld m 4 32 ≠ 0 ∧ w.hasBed = true ∧ w.edgeRegion % 64 = 0 ∧ w.inWindow (w.edgeRegion + 64 * fld m 4 32) 64 = true) ∧
      (let m := n [(2, 1, 0), (3, 1, 0)];
        fld m 0 4 = 2 ∧ fld m 36 28 = 0 ∧
          (∀ k ∈ [0, 1], k1 m k = true ∧ target m k ≠ 1 ∧ s.counts (target m k) (gen m k) = true) ∧ target m 0 = 2 ∧ target m 1 = 3) ∧
      (∀ kind ∈ [0, 2, 3], fld (n [(2, kind, 0)]) 0 4 = 1 ∧ fld (fld (n [(2, kind, 0)]) 64 32) 18 2 = kind) ∧
      ((s.slot 1).released = false ∧ ((walking .resident true).slot 1).released = true) ∧
      (k1 (n [(4, 1, 0)]) 0 = true ∧ target (n [(4, 1, 0)]) 0 = 4 ∧ (s.slot 4).st = .free) ∧
      (gen (n [(2, 1, 1)]) 0 = 1 ∧ (s.slot 2).gen % 4096 ≠ 1 ∧ s.gone 2 3 = false ∧ (walking .parted false).gone 2 3 = true) ∧
      (target (n [(6, 1, 0)]) 0 = 6 ∧ (s.slot 6).st ≠ .free ∧ (s.slot 6).gen % 4096 = 0 ∧ (s.slot 6).count = 0) := by decide +kernel

/-- A task that waits for an entry in a cache with room. -/
def fetching : State := setSlot 1 { st := .fetching, since := 4 } (setSlot 2 { st := .fetching, since := 5 } (leaf []))

/-- A full cache of Bolrok 64, with two entries that may go back to PENDING. -/
def fullCache : State :=
  { leaf [] with
    build := .b64
    tasks := { State.reset.tasks with
      slots := [(1, { st := .fetching }), (2, { st := .seasoned, entry := true, count := 2, desc := some {} }),
        (3, { st := .seasoned, entry := true, count := 1, desc := some {} })] ++
          List.replicate 2046 (4, { st := .issued, entry := true }) } }

theorem witness_FetchGrantTakesAnEntry :
    fetching.live ∧ fetching.waitsEntry = some 1 ∧ fetching.cached < fetching.build.cacheSlots ∧
      ({ fetching with build := .b8 } : State).hasBed = false ∧ ({ fetching with build := .b8 } : State).waitsEntry = some 1 ∧
      fullCache.live := by
  refine ⟨by decide +kernel, by decide +kernel, by decide +kernel, rfl, by decide +kernel, by decide +kernel⟩

theorem witness_FetchGrantTakesAnEntry_full :
    fullCache.waitsEntry = some 1 ∧ fullCache.hasBed = true ∧ fullCache.build.cacheSlots ≤ fullCache.cached ∧
      fullCache.evictee = some 2 ∧ (2 : Nat) ≠ 1 := by
  refine ⟨?_, rfl, ?_, ?_, by decide⟩
  · simp only [State.waitsEntry, fullCache, List.filter_append, List.filter_replicate]
    decide
  · simp only [State.cached, fullCache, List.filter_append, List.filter_replicate, List.length_append, if_true,
      List.length_replicate]
    decide
  · simp only [State.evictee, fullCache, List.filter_append, List.filter_replicate]
    decide

theorem witness_DispatchKeepsToTheLanes :
    fetching.live ∧ fetching.runs swDispatch = true ∧ ∀ p, fetching.candidates p = [] := by
  refine ⟨by decide +kernel, by decide +kernel, fun p => ?_⟩
  rfl

/-- Slot 1 holds a READY task of context 3, whose class runs, and engine 0 of core 0 is free for it. -/
def selecting : State :=
  let s := modCtx 2 3 (fun x => { x with st := .resident })
    (leaf ([record tyAlloc 2 0 [(16, 1)], record tyEngineMap 0 0 [(16, 0)]] ++ partRecs 0));
  { s with
    ctxs := { s.ctxs with slices := [(2, { running := some 0 })], started := [2] }
    tasks := { s.tasks with slots := [(1, { st := .ready, part := 2, ctx := 3, desc := some { taskId := 1, vgroup := 0xFFFF } })] } }

theorem witness_DispatchKeepsToTheLanes_single :
    let x : Slot := { st := .ready, part := 2, ctx := 3, desc := some { taskId := 1, vgroup := 0xFFFF } };
    let d : Desc := { taskId := 1, vgroup := 0xFFFF };
    selecting.live ∧ selecting.runs swDispatch = true ∧
    2 ∈ selecting.parts ∧ selecting.candidates 2 = [(1, x, d)] ∧ (∀ q, q ≠ 2 → selecting.candidates q = []) ∧
      (selecting.tasks.slots.map (·.1)).Nodup ∧ d.gang = false ∧ d.engineClass = 0 ∧ 0 < selecting.power.width ∧
      selecting.delegates x d = false ∧ selecting.placeOne x d = some 0 := by
  refine ⟨by decide +kernel, by decide +kernel, by decide +kernel, by decide +kernel, fun q h => ?_, by decide +kernel, rfl, rfl,
    by decide +kernel, by decide +kernel, by decide +kernel⟩
  simp [State.candidates, selecting, modCtx, leaf, bare, h.symm, sortBy]

/-- Engine 0 runs task 1 of generation 0 of context 3 in partition 2. -/
def busy : State :=
  { leaf (partRecs 0) with
    tasks := { State.reset.tasks with
      slots := [(1, { st := .issued, part := 2, ctx := 3, desc := some {} })]
      engines := [(0, { busy := true, taskId := 1, part := 2, ctx := 3, lasting := 2 })] } }

theorem witness_StatusRecordFreesEngine :
    let gated : State := { busy with power := { busy.power with running := List.replicate 8 false } };
    let parted := modCtx 2 3 (fun x => { x with st := .parting }) busy;
    let since := modEngine 0 (fun e => { e with parted := true }) busy;
    let released := noteBit 0xE1008 30 busy;
    let w := 1 + stOk * 2 ^ 32;
    busy.live ∧ gated.live ∧ 0 < busy.build.enginePorts ∧ 511 < busy.build.enginePorts ∧ (busy.slot 1).firstFail ≠ some (7, 0x21) ∧
      gated.runs swDispatch = false ∧ busy.runs swDispatch = true ∧
      ((busy.engine 1).busy = false ∧ busy.noted (0xE1000 + 8 * 1) 30 = false) ∧
      ((released.engine 1).busy = false ∧ released.noted (0xE1000 + 8 * 1) 30 = true) ∧
      ((since.engine 0).busy = true ∧ (since.engine 0).parted = true) ∧
      ((parted.engine 0).busy = true ∧ parted.gone 2 3 = true) ∧
      ((busy.engine 0).busy = true ∧ (busy.engine 0).parted = false ∧ busy.gone 2 3 = false ∧ (busy.engine 0).taskId = fld w 0 32 ∧ idSlot (fld w 0 32) = 1 ∧
        (busy.slot 1).st = .issued ∧ (busy.slot 1).gen = idGen (fld w 0 32) ∧ fld w 42 8 = (busy.slot 1).epoch ∧
        busy.retiredEpoch 2 (fld w 42 8) = false ∧ fld w 32 8 = stOk ∧ (busy.slot 1).firstFail = none ∧
        ((busy.slot 1).desc.getD {}).gang = false) := by decide +kernel

/-- An engine's task, with lasting at 2 and at 0 and with a write that took it to 0 in the same hc; and a delegated task. -/
theorem witness_TaskTimeoutCharges :
    busy.live ∧ (busy.engine 0).busy = true ∧ (busy.engine 0).timedOut = false ∧ (busy.engine 0).lasting = 2 ∧
      busy.noted (0xE1000 + 8 * 0) 12 = false ∧
      ((modEngine 0 (fun e => { e with lasting := 0 }) busy).engine 0).lasting ≠ 2 ∧
      (noteBit 0xE1000 12 busy).noted (0xE1000 + 8 * 0) 12 = true ∧
      (let s := modSlot 1 (fun x => { x with child := some 1 }) busy;
        (s.slot 1).st = .issued ∧ (s.slot 1).child.isSome = true ∧ (s.slot 1).timedOut = false) := by decide +kernel

/-- A leaf below its parent that maps context 3 of partition 2. -/
def mapping : State := child (record tyAlloc 2 0 [(84, 16)] :: partRecs 0)

/-- Slot 1 holds a task that has been delegated to child 1; its context stands, or has been parted since. -/
def delegated (parted : Bool) : State :=
  let s := middle (partRecs 0);
  { s with tasks := { s.tasks with
      slots := [(1, { st := .issued, part := 2, ctx := 3, desc := some {}, child := some 1 })]
      delegated := [{ child := 1, taskId := 1, part := 2, ctx := 3, parted := parted }] } }

theorem witness_DelegatedTasksArrive_completion :
    let gone := modCtx 2 3 (fun x => { x with st := .parted }) (delegated false);
    let w := 1 + stOk * 2 ^ 32 + 2 ^ 40;
    (∀ parted ∈ [false, true],
      let s := delegated parted;
      s.live ∧ s.receives 1 ∧ (1 : Nat) ≠ 0 ∧ 1 < s.ports.length ∧ fld w 0 32 = 1 ∧
        s.tasks.delegated.find? (fun t => t.child == 1 && t.taskId == fld w 0 32) =
          some { child := 1, taskId := 1, part := 2, ctx := 3, parted := parted }) ∧
      gone.gone 2 3 = true ∧ (delegated false).gone 2 3 = false ∧
      (let s := delegated false;
        idSlot 1 = 1 ∧ (s.slot 1).st = .issued ∧ (s.slot 1).gen = idGen (fld w 0 32) ∧ (s.slot 1).child = some 1 ∧
          fld w 42 8 = (s.slot 1).epoch ∧ s.retiredEpoch (s.slot 1).part (fld w 42 8) = false ∧ fld w 32 8 = stOk) := by
  decide +kernel

theorem witness_DelegatedTasksArrive :
    let parted := modCtx 2 3 (fun x => { x with st := .parted }) mapping;
    let s := middle [];
    mapping.live ∧ mapping.receives 0 ∧
      mapping.mapped 0 0 = false ∧ (mapping.mapped 2 3 = true ∧ mapping.gone 2 3 = false) ∧
      (parted.mapped 2 3 = true ∧ parted.gone 2 3 = true) ∧
      (s.live ∧ s.receives 1 ∧ (1 : Nat) ≠ 0 ∧ s.tasks.delegated.any (fun t => t.child == 1 && t.taskId == fld 7 0 32) = false) := by decide +kernel

/-- A launch whose command list holds one task, with its reservation due. -/
def waits : State :=
  let s := leaf (record tyAlloc 2 0 [(84, 16)] :: partRecs 0);
  { s with
    ctxs := { s.ctxs with started := [2] }
    jigs := { s.jigs with
      launches := [(0, { part := 2, ctx := 3, phase := .waiting, record := 2 ^ 13, list := ⟨128, 1⟩ })], nextLaunch := 1 } }

theorem witness_ReservationTakesFreeSlots :
    waits.live ∧ waits.started 2 = true ∧ waits.nextWaiter 2 = some 0 ∧ (Tbl.find waits.jigs.launches 0).isSome = true ∧
      (tryReserve 0 waits.begun).isSome = true ∧
      (let l := waits.launch 0;
        waits.coldOf l = ([], []) ∧ (∀ g ∈ (waits.needs l).1, g.length = 1) ∧ (waits.needs l).1.length ≤ waits.slotsFree ∧
          waits.granulesHeld l.part + (waits.needs l).2 ≤ waits.edgePool l.part ∧
          (waits.freeGranules (waits.needs l).2).length = (waits.needs l).2) ∧
      (((tryReserve 0 waits.begun).getD {}).launch 0).todo.length = 1 := by decide +kernel

/-- A header of exchange 5 for its second leaf, NACKed 640 ns ago: that leaf is this instance, or its child 0. -/
def nackedHeader (dest : Nat) : State :=
  let role (path : List Nat) (kind : Nat) : Rec := { record tyTreeRole 0 0 [(16, kind)] with scope := pathCode path };
  let s := middle ([record tyExchange 5 0 [(16, 2), (22, 1), (24, 0x3000), (32, 0), (34, dest)], role [0] 3, role [0, 1] 1] ++
    partRecs 0);
  { s with
    face := { s.face with treeDepth := 2 }
    jigs := { s.jigs with exchanges := [(5, { outs := [{ pos := 1, since := some (s.power.heart - 64) }] })] } }

/-- Both headers are due. -/
theorem witness_ReservationTakesFreeSlots_header :
    ∀ dest ∈ [0, 1],
      let s := nackedHeader dest;
      let o : HeaderOut := { pos := 1, since := some (s.power.heart - 64) };
      s.live ∧ s.headerDue 5 1 0 = true ∧ (s.exchange 5).outs.find? (fun x => x.pos == 1 && x.gen == 0) = some o ∧
        s.leafCode (s.recU tyExchange 5 0 (32 + 2 * 1) 2) = some (if dest = 0 then s.selfCode else pathCode [0, 1]) ∧
        (dest = 1 → s.nextHop (pathCode [0, 1]) = some 2 ∧ s.hasPort 2 = true ∧ 2 < s.ports.length) := by decide +kernel

/-- The launch of a doorbell whose record is being read, with jig 7 in the cache. -/
def launched (cache : Tbl Blob) : State :=
  let s := reading (.launch 0) false;
  { s with jigs := { s.jigs with
      launches := [(0, { part := 2, ctx := 3, owner := .doorbell 0 })], nextLaunch := 1, cache := cache } }

theorem witness_JigDataArrive :
    (∀ cache ∈ [[], [(7, (⟨64, 0⟩ : Blob))]],
      let s := launched cache;
      s.live ∧ Tbl.find s.bed.reads 0 = some (theRead (.launch 0) false) ∧ s.lastGranule (theRead (.launch 0) false) ∧
        (Tbl.find s.jigs.launches 0).map (·.owner) = some (.doorbell 0) ∧
        badRecord (s.gathered (theRead (.launch 0) false) 7) false = false ∧
        recKind (s.gathered (theRead (.launch 0) false) 7) = 0 ∧
        recJig (s.gathered (theRead (.launch 0) false) 7) = 7 ∧ 7 < s.build.jigSlots) ∧
    (Tbl.find (launched [(7, ⟨64, 0⟩)]).jigs.cache 7).isSome = true ∧ (Tbl.find (launched []).jigs.cache 7).isSome = false ∧
      badRecord ((launched []).gathered (theRead (.launch 0) false) (2 ^ 15)) false = true := by decide +kernel

/-- The directory entry of jig 7 with an address and without, its header, and its body, with a launch that waits for it. -/
theorem witness_JigDataArrive_fills :
    let fill (why : ReadFor) (f : Nat × Option Nat) : State :=
      let s := reading why false
      { s with jigs := { s.jigs with filling := [(7, f)], launches := [(1, { part := 2, ctx := 3, owner := .doorbell 5, phase := .jig, record := 7 })] } };
    (∀ e ∈ [(ReadFor.jigDir 7, (0, none)), (.jigHead 7, (0x1000, none)), (.jigBody 7, (0x1000, some 5))],
      let s := fill e.1 e.2;
      s.live ∧ Tbl.find s.bed.reads 0 = some (theRead e.1 false) ∧ s.lastGranule (theRead e.1 false) ∧
        s.jigs.stale.contains 7 = false ∧ Tbl.find s.jigs.filling 7 = some e.2) ∧
      (fill (.jigDir 7) (0, none)).waitJig 7 = [1] ∧
      (let s := fill (.jigDir 7) (0, none);
        bit (s.gathered (theRead (.jigDir 7) false) (BitVec.ofNat 512 (2 ^ 52 + 0x4000))) 52 = true ∧
          bit (s.gathered (theRead (.jigDir 7) false) 0) 52 = false) := by decide +kernel

/-- Partition 2 serves four streams on context 3, in steps of 1,000 µs. -/
def servingRecs : List Rec :=
  [record tyPartition 2 0 [(16, 0), (20, 100)], record tyContext 2 3 [(16, 32)], record tyAlloc 2 0 [(84, 16)],
    record tyServe 2 0 [(20, 4), (36, 8), (48, 1000), (50, 2), (51, 4), (52, 8), (56, 1000), (64, 1000), (72, 0x20000)],
    record tyPageFormat 2 0 [(16, 16), (20, 64), (40, 8)]]

/-- The home of the serving partition, with stream 1 in its state, and records that wait. -/
def serving (x : Stream) (rs : List (BitVec 512)) : State :=
  let s := leaf servingRecs;
  { s with
    ctxs := { s.ctxs with started := [2] }
    serves := [(2, { enable := true, streams := [(1, x)], queues := if x.state == 2 then [(0, [1])] else [] })]
    queues := { s.queues with intake := rs.map (fun r => (2, r, none)) } }

/-- An intake record of stream 1: type, sequence number, and its further bits. -/
def intakeRec (k seq more : Nat) : BitVec 512 := BitVec.ofNat 512 (seq + k * 2 ^ 32 + 2 ^ 64 + more * 2 ^ 96)

/-- Context 3 and fallback 3, a ring of 2^10 words, 5 tokens. -/
def newBits : Nat := 3 + 3 * 2 ^ 5 + 10 * 2 ^ 14 + 5 * 2 ^ 32

/-- A frame while SW_SERVE is gated, one without room, one behind a record that waits; none, one that is whole and one that is not; and
at an instance above the home. -/
theorem witness_IntakeReachesTheBuffer :
    let s := leaf (partRecs 0);
    let gated : State := { s with power := { s.power with running := List.replicate 8 false } };
    let behind : State := { s with held := [(9, .intakeFrame none [])] };
    let above : State :=
      let t := middle (partRecs (pathCode [0]))
      { t with face := { t.face with path := [], depth := 0 } };
    let h : BitVec 256 := BitVec.ofNat 256 (1 + 2 * 2 ^ 8 + 2 ^ 32);
    s.live ∧ (gated.live ∧ gated.runs swServe = false) ∧ s.runs swServe = true ∧ s.held.any (fun h => h.1 == 9) = false ∧
      (behind.live ∧ behind.runs swServe = true ∧ behind.held.any (fun h => h.1 == 9) = true) ∧
      s.badFrame none 0 = true ∧ s.badFrame (some h) 2 = false ∧ s.badFrame (some h) 1 = true ∧ s.isHome 2 = true ∧
      s.queues.intake.length + frameNeeds (some h) ≤ 1024 ∧ frameNeeds (some h) = 1 ∧
      (above.live ∧ above.runs swServe = true ∧ above.badFrame (some h) 2 = false ∧ above.isHome 2 = false ∧
        above.nextHop (above.homeCode 2) = some 1 ∧ above.hasPort 1 = true ∧ 1 < above.ports.length) := by
  decide +kernel

theorem witness_IntakeReachesTheBuffer_full :
    let s := leaf (partRecs 0);
    let full : State := { s with queues := { s.queues with intake := List.replicate 1024 (2, 0, none) } };
    full.live ∧ full.runs swServe = true ∧
      1024 < full.queues.intake.length + frameNeeds (some (BitVec.ofNat 256 (1 + 2 * 2 ^ 8 + 2 ^ 32))) ∧
      1024 ≤ full.queues.intake.length ∧ full.isHome 2 = true := by
  refine ⟨by decide +kernel, by decide +kernel, ?_, ?_, by decide +kernel⟩
  · simp only [List.length_replicate]
    decide +kernel
  · simp only [List.length_replicate]
    decide

theorem witness_IntakeReachesTheBuffer_link :
    let s := child (partRecs (pathCode [0]));
    let behind : State := { s with held := [(9, .intakeFrame none [])] };
    let t := middle (partRecs (pathCode [0, 0]));
    let flit : Granule := BitVec.ofNat 512 (2 * 2 ^ 42);
    (∀ u ∈ [s, behind, t], u.live ∧ u.receives 0 ∧ 0 < u.ports.length ∧ (u.port 0).unacked < 31) ∧ fld flit.toNat 42 6 = 2 ∧
      (s.isHome 2 = true ∧ s.held.any (fun h => h.1 == 9) = false ∧ s.queues.intake.length < 1024) ∧
      (behind.isHome 2 = true ∧ behind.held.any (fun h => h.1 == 9) = true) ∧
      t.isHome 2 = false ∧ t.nextHop (t.homeCode 2) = some 1 ∧ t.hasPort 1 = true ∧ (1 : Nat) ≠ 0 ∧ 1 < t.ports.length := by
  decide +kernel

/-- A record of each type that is due, with write-through off and on. -/
theorem witness_IntakeRecordsAct :
    let x : Stream := { state := 1, context := 3, fallback := 3, ringLog2 := 10, pending := 4 };
    (∀ e ∈ [(1, ({} : Stream), newBits), (2, x, 5 * 2 ^ 32), (3, x, 0), (4, x, 0), (5, x, 9), (2, { x with state := 4 }, 5 * 2 ^ 32),
        (3, { x with state := 3 }, 0), (4, { x with inStep := true }, 0)],
      let r := intakeRec e.1 0 e.2.2;
      let s := serving e.2.1 [r];
      (s.live ∧ s.recordReady 2 e.1 r ∧ sub32 (s.serve 2).expected (fld r.toNat 0 32) = 0 ∧ s.checkIntake 2 r.toNat = none ∧
        (s.serve 2).expected < 2 ^ 32 ∧ s.power.writeThrough = false ∧ (s.page 2).outside = [] ∧ (s.nextRecord 2).isSome = true)) := by
  intro x e h
  simp only [List.mem_cons, List.not_mem_nil, or_false] at h
  rcases h with rfl | rfl | rfl | rfl | rfl | rfl | rfl | rfl <;> decide +kernel

theorem witness_IntakeRecordsAct_commands :
    intakeType (.newStream 2) = some (2, 1) ∧ intakeType (.appendTokens 2) = some (2, 2) ∧ intakeType (.endStream 2) = some (2, 3) ∧
      intakeType (.cancel 2) = some (2, 4) ∧ intakeType (.setDeadline 2) = some (2, 5) := by decide

/-- A duplicate, a record that fails a check, one of each that follows a gap, and one that is written through. -/
theorem witness_IntakeRecordsAct_others :
    let dup := serving {} [intakeRec 1 0xFFFFFFFF newBits];
    let bad := serving {} [intakeRec 2 0 0];
    let gap := serving {} [intakeRec 2 3 0];
    let good := serving {} [intakeRec 1 3 newBits];
    let through : State := { good with power := { good.power with writeThrough := true } };
    (dup.recordReady 2 1 (intakeRec 1 0xFFFFFFFF newBits) ∧ 1 ≤ sub32 (dup.serve 2).expected 0xFFFFFFFF ∧
        sub32 (dup.serve 2).expected 0xFFFFFFFF ≤ 2 ^ 31) ∧
      (bad.recordReady 2 2 (intakeRec 2 0 0) ∧ sub32 (bad.serve 2).expected 0 = 0 ∧
        bad.checkIntake 2 (intakeRec 2 0 0).toNat = some 4) ∧
      (good.recordReady 2 1 (intakeRec 1 3 newBits) ∧ 2 ^ 31 < sub32 (good.serve 2).expected 3 ∧
        good.checkIntake 2 (intakeRec 1 3 newBits).toNat = none) ∧
      (through.recordReady 2 1 (intakeRec 1 3 newBits) ∧ through.power.writeThrough = true) ∧
      (gap.recordReady 2 2 (intakeRec 2 3 0) ∧ 2 ^ 31 < sub32 (gap.serve 2).expected 3 ∧
        gap.checkIntake 2 (intakeRec 2 3 0).toNat = some 4) := by
  decide +kernel

/-- A step of the partition with one entry; its launch task has retired. -/
def stepping (lacks : List Nat) : State :=
  modServe 2 (fun v =>
    { v with
      running := true, entries := [{ stream := 1, ctx := 3, tokens := 1 }], sections := [{ ctx := 3, fin := some (stOk, false) }]
      uncached := lacks, formedAt := 2, floorDone := false, done := [{ step := 7 }] })
    (serving { state := 2, context := 3, fallback := 3, genLeft := 9, inStep := true } [])

theorem witness_StepsAreFormedAndEnd_completion :
    (∀ lacks ∈ [[], [1]],
      (stepping lacks).live ∧ (stepping lacks).stepOver 2 = true ∧ ((stepping lacks).serve 2).entries.length = 1 ∧
        ((stepping lacks).serve 2).misses.contains 2 = false ∧
        (fillFor 2 2 [1] ((stepping lacks).pagesOfAll 2 [1]) (stepping lacks)).isNone = lacks.isEmpty) ∧
      ((stepping []).serve 2).floorDone = false ∧ ((stepping []).serve 2).formedAt + 40000 ≤ (stepping []).power.heart ∧
      ((stepping []).serve 2).done = [{ step := 7 }] ∧ (stepping []).hasHostq 2 = false ∧
      ((stepping []).serve 2).autoRelease = true ∧ (stepping []).detOf 2 = false ∧
      ((modServe 2 (fun v => { v with autoRelease := false }) (stepping [])).serve 2).autoRelease = false ∧
      (stepping []).power.writeThrough = false ∧
      (let s : State := { stepping [] with power := { (stepping []).power with writeThrough := true } };
        s.power.writeThrough = true ∧ s.writingBack 2 = false) ∧
      (let s : State := { stepping [] with dets := [(2, { det := true })] };
        s.detOf 2 = true ∧ s.stepOver 2 = true) := by decide +kernel

/-- A partition that may not form; under DET before its fence, with records that the fence names still to come, and with its fence;
without a candidate; with its step block taken; and one that forms, at once and after a wait. -/
theorem witness_StepsAreFormedAndEnd_formation :
    let ready := serving { state := 2, context := 3, fallback := 3, genLeft := 9 } [];
    let idle := serving {} [];
    let noQueue := modServe 2 (fun v => { v with queues := [] }) ready;
    let det : State := { ready with dets := [(2, { det := true })] };
    let fence (n : Nat) := modServe 2 (fun v => { v with fenceWritten := true, fenceSeq := n, fenceStep := 0 }) det;
    let held := modServe 2 (fun v => { v with blocks := [(0, 4)] }) ready;
    let off := modServe 2 (fun v => { v with enable := false }) ready;
    let waits := modServe 2 (fun v => { v with forming := some { clock := 77, budget := 5, bank := 0 } }) ready;
    (∀ s ∈ [ready, idle, noQueue, det, fence 5, fence 0xFFFFFFFF, held, off, waits], s.live) ∧ off.formMay 2 = false ∧
      (det.formMay 2 = true ∧ det.detOf 2 = true ∧ det.fenced 2 = false ∧ (det.serve 2).forming = none) ∧
      ((fence 5).formMay 2 = true ∧ (fence 5).fenced 2 = true ∧ sub32 ((fence 5).serve 2).fenceSeq ((fence 5).serve 2).expected < 2 ^ 31) ∧
      ((fence 0xFFFFFFFF).formMay 2 = true ∧ (fence 0xFFFFFFFF).fenced 2 = true ∧
        2 ^ 31 ≤ sub32 ((fence 0xFFFFFFFF).serve 2).fenceSeq ((fence 0xFFFFFFFF).serve 2).expected ∧
        Tbl.find ((fence 0xFFFFFFFF).serve 2).blocks 0 = none ∧ (fillFor 2 1 ((fence 0xFFFFFFFF).queued 2) [] (fence 0xFFFFFFFF)).isNone = true) ∧
      (noQueue.formMay 2 = true ∧ noQueue.detOf 2 = false ∧ noQueue.queued 2 = []) ∧
      (held.formMay 2 = true ∧ held.queued 2 ≠ [] ∧
        (Tbl.find (held.serve 2).blocks ((held.serve 2).next % held.stepBlocks 2)).isSome = true) ∧
      (waits.formMay 2 = true ∧ (waits.serve 2).forming.isSome = true) ∧
      (ready.formMay 2 = true ∧ (ready.serve 2).forming = none ∧ ready.detOf 2 = false ∧ ready.queued 2 ≠ [] ∧
        Tbl.find (ready.serve 2).blocks ((ready.serve 2).next % ready.stepBlocks 2) = none ∧
        (fillFor 2 1 (ready.queued 2) [] ready).isNone = true ∧ (ready.admission 2).entries.map (·.stream) = [1] ∧
        (fillFor 2 1 [1] (ready.pagesOfAll 2 [1]) ready).isNone = true ∧
        (dedup ((ready.admission 2).entries.map (·.ctx))).length ≤ ready.slotsFree ∧
        ready.formBudget 2 ≠ 0 ∧ ready.budgetM 2 ≠ 0) := by decide +kernel

/-- A formation whose stream, or whose page, the cache lacks; one that admits nothing; and one without a free slot. -/
theorem witness_StepsAreFormedAndEnd_waits :
    let ready := serving { state := 2, context := 3, fallback := 3, genLeft := 9 } [];
    let lacks := modServe 2 (fun v => { v with uncached := [1] }) ready;
    let paged : State :=
      { modStream 2 1 (fun x => { x with pageHead := 4, pageCount := 1, position := 5 }) ready with
        pages := [(2, { ledger := [(4, { state := 1, refcount := 1, owner := 1 })], uncached := [4] })] };
    let none' := modServe 2 (fun v => { v with forming := some { clock := 77, budget := 5, bank := 0 } }) (serving {} []);
    (lacks.formMay 2 = true ∧ (fillFor 2 1 (lacks.queued 2) [] lacks).isNone = false) ∧
      (paged.formMay 2 = true ∧ (fillFor 2 1 (paged.queued 2) [] paged).isNone = true ∧
        (paged.admission 2).entries.map (·.stream) = [1] ∧ (fillFor 2 1 [1] (paged.pagesOfAll 2 [1]) paged).isNone = false) ∧
      (none'.formMay 2 = true ∧ (fillFor 2 1 (none'.queued 2) [] none').isNone = true ∧ none'.detOf 2 = false ∧
        (none'.admission 2).entries.length = 0) := by decide +kernel

/-- Every slot is reserved by a launch. -/
def fullTable : State :=
  let s := serving { state := 2, context := 3, fallback := 3, genLeft := 9 } []
  { s with build := .b8, jigs := { s.jigs with launches := [(0, { todo := List.replicate 4096 {} })] } }

theorem witness_StepsAreFormedAndEnd_full :
    fullTable.live ∧ fullTable.formMay 2 = true ∧ (fillFor 2 1 (fullTable.queued 2) [] fullTable).isNone = true ∧
      (fullTable.admission 2).entries.map (·.ctx) = [3] ∧
      (fillFor 2 1 [1] (fullTable.pagesOfAll 2 [1]) fullTable).isNone = true ∧ fullTable.slotsFree < (dedup [3]).length := by
  refine ⟨by decide +kernel, by decide +kernel, by decide +kernel, by decide +kernel, by decide +kernel, ?_⟩
  simp only [State.slotsFree, fullTable, List.map_cons, List.map_nil, List.length_replicate]
  decide +kernel

/-- A page whose move has its final status. -/
def moved (refcount why status : Nat) (wanted : Bool) : State :=
  { serving { state := 2, context := 3 } [] with
    pages := [(2, { ledger := [(4, { state := if why == 1 then 3 else 2, refcount := refcount, wanted := wanted })],
                    moves := [(4, { why := why, dstTier := 1, dst := 2, srcTier := 0, src := 1, fin := some (status, false), ctx := 3 })] })] }

theorem witness_PageMoveEnds :
    (∀ refcount ∈ [0, 1], ∀ why ∈ [0, 1], ∀ status ∈ [stOk, stParted], ∀ wanted ∈ [false, true],
      let s := moved refcount why status wanted;
      s.live ∧ (Tbl.find (s.page 2).moves 4).map (fun m => (m.why, m.fin)) = some (why, some (status, false)) ∧
        (s.entry 2 4).refcount = refcount ∧ (s.entry 2 4).wanted = wanted) ∧ (stOk == stOk && !false) = true ∧
      (stParted == stOk && !false) = false := by decide +kernel

/-- Semaphore 0 and barrier 0 of context 3 in partition 2, and what core 0's requester (512) waits for. -/
def syncing (x : Sem) (b : Bar) (w : Waiter) : State :=
  { leaf (partRecs 0) with
    sync := { State.reset.sync with
      sems := [(0, { x with part := 2, ctx := 3, configured := true })]
      bars := [(0, { b with part := 2, ctx := 3, configured := true, mask := 0, members := 7 })]
      waiters := [(512, w), (513, { state := 1, n := 2, ctx := 3 })] } }

/-- A request on object 0 with `n` units, or as participant `q` of the barrier. -/
def syncReq (op n : Nat) (kind : Bool) (q gen : Nat) : BitVec 128 :=
  BitVec.ofNat 128 (op + (if kind then 2 ^ 4 else 0) + n * 2 ^ 21 + q * 2 ^ 29 + 2 * 2 ^ 39 + 3 * 2 ^ 45 + gen * 2 ^ 66)

/-- What `syncReady` asks of a state, as a check. -/
def isReady (s : State) (op src : Nat) (r : SyncReq) : Bool :=
  !s.wrapper.undefined && !s.power.inReset && s.power.phase != 5 && !s.power.stopped && s.hasLane src && s.runs swSync &&
    !s.sync.dumpBusy && s.hasWire src && r.op == op && !s.remoteReq r && (s.syncCheck src r).isNone && !s.frozen r

theorem isReady_ready (s : State) (op src : Nat) (r : SyncReq) (h : isReady s op src r = true) : s.syncReady op src r := by
  simp only [isReady, Bool.and_eq_true, Bool.not_eq_true', bne_iff_ne, ne_eq, beq_iff_eq, Option.isNone_iff_eq_none] at h
  obtain ⟨⟨⟨⟨⟨⟨⟨⟨⟨⟨⟨h1, h2⟩, h3⟩, hs⟩, h4⟩, h5⟩, h6⟩, h7⟩, h8⟩, h9⟩, h10⟩, h11⟩ := h
  exact ⟨⟨⟨⟨h1, h2, h3⟩, hs⟩, h4, h5, h6⟩, h7, h8, h9, h10, h11⟩

/-- A request that takes effect, one while SW_SYNC is gated, one behind a dump, and one that names no object. -/
theorem witness_LaneRequestsWaitActOrFail :
    let s := syncing { max := 9 } {} {};
    let gated : State := { s with power := { s.power with running := List.replicate 8 false } };
    let dump : State := { s with sync := { s.sync with dumpBusy := true } };
    let other := laneReq 0 (syncReq 0 1 false 0 0 + 2 ^ 5);
    (s.laneOpen 512 ∧ s.hasWire 512 = true) ∧ (gated.live ∧ gated.hasLane 512 = true ∧ gated.runs swSync = false) ∧
      (dump.live ∧ dump.hasLane 512 = true ∧ dump.runs swSync = true ∧ dump.sync.dumpBusy = true) ∧ s.remoteReq other = false ∧
      s.syncCheck 512 other = some fltSyncObject ∧ (laneOf (.send 512 0)).isSome = true ∧
      (laneOf (.signal 512 0)).map (·.2.1) = some true ∧ 0 ≤ 8 ∧ 8 ≤ 8 := by decide +kernel

/-- SIGNAL at the maximum and beyond it, with nobody queued and with one waiter; WAIT, TRY and TAKE that find enough and that
do not; READ; and the WAIT that takes a pending grant. -/
theorem witness_SemaphoreOperations :
    let free (v : Nat) := syncing { value := v, max := 9 } {} {};
    let one := syncing { value := 0, max := 9, queue := [513] } {} {};
    let granted := syncing { value := 1, granted := 2, max := 9 } {} { state := 2, n := 2, ctx := 3 };
    (∀ op ∈ [0, 1, 2, 3, 8], isReady (free 7) op 512 (laneReq op (syncReq op 2 false 0 0)) = true) ∧
      isReady (free 8) 0 512 (laneReq 0 (syncReq 0 2 false 0 0)) = true ∧ isReady one 0 512 (laneReq 0 (syncReq 0 2 false 0 0)) = true ∧
      isReady one 2 512 (laneReq 2 (syncReq 2 2 false 0 0)) = true ∧
      isReady granted 1 512 (laneReq 1 (syncReq 1 2 false 0 0)) = true ∧ isReady (free 1) 1 512 (laneReq 1 (syncReq 1 2 false 0 0)) = true ∧
      isReady (free 1) 3 512 (laneReq 3 (syncReq 3 2 false 0 0)) = true ∧ (laneReq 0 (syncReq 0 2 false 0 0)).n = 2 ∧
      ((free 7).waiter 512).state = 0 ∧ 9 < ((free 8).sem 0).value + ((free 8).sem 0).granted + 2 ∧
      ((free 7).sem 0).value + ((free 7).sem 0).granted + 2 = 9 ∧ ((free 7).sem 0).queue = [] ∧ (one.sem 0).queue = [513] ∧
      (one.waiter 513).n ≤ (one.sem 0).value + 2 ∧ ((free 1).sem 0).value < 2 ∧
      ((granted.waiter 512).state = 2 ∧ (granted.waiter 512).object = 0 ∧ (granted.waiter 512).n = 2) ∧
      (2 ≤ ((free 7).sem 0).value ∧ (free 7).detOf 2 = false ∧ ({ free 1 with dets := [(2, { det := true })] } : State).detOf 2 = true) ∧
      ((syncing { value := 4, max := 9, shared := true } {} {}).sem 0).shared = true := by decide +kernel

/-- Members 0 to 2: an arrival that is not one, one that is a lap ahead, one for the next generation, one that waits, one that
completes the generation with nobody queued and with one waiter. -/
theorem witness_BarrierOperations :
    let at' (cur next : Nat) (q : List Nat) := syncing {} { gen := 5, cur := cur, next := next, queue := q } {};
    let arrive (op q : Nat) := laneReq op (syncReq op 0 true q 0);
    (∀ op ∈ [4, 5],
      isReady (at' 0 0 []) op 512 (arrive op 3) = true ∧ isReady (at' 1 1 []) op 512 (arrive op 0) = true ∧
        isReady (at' 6 0 [513]) op 512 (arrive op 0) = true ∧ (arrive op 0).object = 0) ∧
      ((at' 0 0 []).waiter 512).state = 0 ∧ (at' 0 0 []).participant 512 none (arrive 4 0x3FF) = none ∧
      (at' 0 0 []).participant 512 none (arrive 4 3) = some 3 ∧ bit ((at' 0 0 []).bar 0).members 3 = false ∧
      (at' 0 0 []).participant 512 none (arrive 4 0) = some 0 ∧ bit ((at' 0 0 []).bar 0).members 0 = true ∧
      (bit ((at' 1 1 []).bar 0).cur 0 = true ∧ bit ((at' 1 1 []).bar 0).next 0 = true) ∧
      (bit ((at' 1 0 []).bar 0).cur 0 = true ∧ bit ((at' 1 0 []).bar 0).next 0 = false) ∧
      (bit ((at' 2 0 []).bar 0).cur 0 = false ∧ popCount (setBit 2 0) 512 ≠ popCount ((at' 2 0 []).bar 0).members 512) ∧
      (bit ((at' 6 0 []).bar 0).cur 0 = false ∧ popCount (setBit 6 0) 512 = popCount ((at' 6 0 []).bar 0).members 512 ∧
        ((at' 6 0 []).bar 0).queue = [] ∧ ((at' 6 0 [513]).bar 0).queue = [513]) := by decide +kernel

theorem witness_BarrierOperations_waits :
    let s := syncing {} { gen := 5, queue := [513] } {};
    let w := { s with sync := { s.sync with waiters := [(513, { state := 1, kind := 1, gen := 5, ctx := 3 })] } };
    let bwait (g : Nat) := laneReq 6 (syncReq 6 0 true 0 g);
    let switch := laneReq 7 (syncReq 7 0 false 0 0);
    (w.waiter 513).gen = (w.bar 0).gen ∧
      (isReady s 6 512 (bwait 4) = true ∧ 1 ≤ sub32 (s.bar 0).gen (bwait 4).generation ∧
        sub32 (s.bar 0).gen (bwait 4).generation ≤ 2 ^ 31) ∧
      (isReady s 6 512 (bwait 5) = true ∧ sub32 (s.bar 0).gen (bwait 5).generation = 0) ∧
      (isReady s 6 512 (bwait 6) = true ∧ 2 ^ 31 < sub32 (s.bar 0).gen (bwait 6).generation) ∧
      (s.laneOpen 512 ∧ s.hasWire 512 = true ∧ switch.op = 7 ∧
        s.remoteReq switch = false ∧ (s.waiter 512).state = 0) ∧
      ((w.waiter 513).state = 1 ∧ (w.waiter 513).kind = 1) := by decide +kernel

/-- A SIGNAL of a requester below the root for an object of the root, over an UP and over a lost link. -/
theorem witness_RemoteRequestsAndDumps_sender :
    let s := child (partRecs 0);
    let lost : State := { s with ports := setAt s.ports 0 { s.port 0 with state := 0, lost := true } };
    let r := laneReq 0 (syncReq 0 2 false 0 0 + 2 ^ 65);
    (s.laneOpen 512 ∧ s.hasWire 512 = true) ∧ r.op = 0 ∧ r.kind = false ∧
      r.n ≠ 0 ∧ (s.waiter 512).state ≠ 2 ∧ s.remoteReq r = true ∧ s.nextHop r.dest = some 0 ∧ s.connected 0 = true ∧
      0 < s.ports.length ∧ s.sendsAhead r.part 0 = [] ∧ (s.port 0).lost = false ∧ (lost.port 0).lost = true ∧
      lost.connected 0 = true := by decide +kernel

/-- At the target: an object that is remote, one that is not, a dump, and a message that is still being written. -/
def target (remote : Bool) (ring : List RingMsg) : State :=
  let s := child (record tyChannel 1 0 [(17, 2)] :: partRecs 0);
  { s with
    sync := { s.sync with sems := [(0, { part := 2, ctx := 3, configured := true, remote := remote, max := 9 })] }
    queues := { s.queues with chans := [(1, { ring := ring })] } }

theorem witness_RemoteRequestsAndDumps_target :
    let flit : Granule := BitVec.ofNat 512 ((syncReq 0 2 false 0 0).toNat + pathCode [0] * 2 ^ 50 + 2 ^ 65 + 4 * 2 ^ 98);
    let r := syncReqOf (fld flit.toNat 0 128);
    let s := target true [];
    let dump : State := { s with sync := { s.sync with dumpBusy := true } };
    (s.live ∧ s.receives 0) ∧ r.dest = s.selfCode ∧ r.op = 0 ∧ s.unwritten r.part r.src = [] ∧ s.sync.dumpBusy = false ∧
      (target true [{ seq := 8, back := r.src, inPort := some 0 }]).unwritten r.part r.src ≠ [] ∧
      (dump.unwritten r.part r.src = [] ∧ dump.sync.dumpBusy = true) ∧
      (target false []).syncCheck idRemote r = some fltSyncRemote ∧
      (s.syncCheck idRemote r = none ∧ s.frozen r = false ∧ (s.waiter idRemote).state = 0 ∧ (s.sem 0).queue = [] ∧
        (s.sem r.object).value + (s.sem r.object).granted + r.n ≤ (s.sem r.object).max) ∧
      (dump.live ∧ dump.held.all (fun h => h.1 != 8) = true ∧ dump.sync.notifies = []) := by decide +kernel

/-- Channels 1 (FIFO), 2 (addressed) and 3 (that resends): each sends and receives in context 3, for core 0. -/
def chanRecs : List Rec :=
  [1, 2, 3].map (fun ch =>
    record tyChannel ch 0 [(16, 3), (17, 2), (18, 3), (19, 3), (20, if ch == 2 then 4 else if ch == 3 then 1 else 0), (21, 16),
      (22, 0), (24, 1), (32, 0x1000), (40, 0x2000), (112, 1)])

/-- Exchange 5 lands on channel 1. -/
def exchRecs : List Rec := [record tyExchange 5 0 [(16, 2), (22, 1), (24, 0x3000)]]

/-- An instance with both links up, whose context 3 is RESIDENT. -/
def chatting (chans : Tbl Chan) : State :=
  let s := modCtx 2 3 (fun x => { x with st := .resident }) (middle (chanRecs ++ exchRecs ++ partRecs 0));
  { s with queues := { s.queues with chans := chans } }

/-- A SEND of 64 bytes from core 0. -/
def sendWord (ch landing : Nat) : BitVec 128 :=
  BitVec.ofNat 128 (ch + 64 * 2 ^ 12 + 0x3FF * 2 ^ 25 + landing * 2 ^ 35 + 2 * 2 ^ 55 + 3 * 2 ^ 61 + 0x100 * 2 ^ 66)

/-- A message or header of partition 2 from child 0 for an instance. -/
def messageTo (dest ch handler seq : Nat) : Granule :=
  let s := { middle [] with face := { (middle []).face with path := [0, 0] } };
  BitVec.ofNat 512 (ch * 2 ^ 8 + 64 * 2 ^ 20 + handler * 2 ^ 33 + seq * 2 ^ 64 + 5 * 2 ^ 304 + s.route dest 2 false * 2 ^ 448)

theorem witness_SendsAndOutcomes_sends :
    let s := chatting [];
    let full := chatting [(1, { sends := List.replicate 64 {} })];
    s.laneOpen 512 ∧ full.laneOpen 512 ∧
      s.checkSend 512 (sendWord 9 0xFFFFF).toNat = some fltChanObject ∧ s.checkSend 512 (sendWord 1 0xFFFFF).toNat = none ∧
      s.inFlight 1 < 64 ∧ full.checkSend 512 (sendWord 1 0xFFFFF).toNat = none ∧ 64 ≤ full.inFlight 1 := by decide +kernel

/-- A message being written without and with a handler, and behind an earlier message of its sender that is open. -/
theorem witness_SendsAndOutcomes_written :
    let m (h : Nat) : RingMsg := { seq := 7, size := 2, handler := h };
    let before : RingMsg := { seq := 6, size := 2 };
    (∀ h ∈ [0x3FF, 4], ∀ ch ∈ [1, 2], let s := chatting [(ch, { ring := [m h] })];
      s.live ∧ (s.chan ch).ring = [] ++ m h :: [] ∧ RingMsg.inWriting 7 (m h) = true ∧ (m h).dropped = false) ∧
      (chatting [(2, { ring := [m 0x3FF] })]).chAddressed 2 = true ∧
      (let s := chatting [(1, { ring := [before, m 0x3FF] })];
        (s.chan 1).ring = [before] ++ m 0x3FF :: [] ∧ RingMsg.inWriting 7 before = false ∧ before.landed = false ∧
          before.isOpen = true ∧ before.back = (m 0x3FF).back ∧ before.sendChan = (m 0x3FF).sendChan) := by decide +kernel

/-- A header of exchange 5 for the leaf `dest`, in flight or not. -/
def inFlightHeader (dest : Nat) (o : HeaderOut) : State :=
  let s := nackedHeader dest
  { s with
    image := { s.image with recs := chanRecs ++ s.image.recs, bank0 := chanRecs ++ s.image.recs }
    jigs := { s.jigs with exchanges := [(5, { outs := [o] })] } }

/-- An answer that is late, of a resend channel and of another, with DET and without; of a header; and a message that is to go again. -/
theorem witness_SendsAndOutcomes_outcomes :
    let base := record tyTreeRole 0 0 [(24, 0), (32, 0x100000)];
    let late (ch : Nat) : State :=
      { leaf (base :: chanRecs) with queues := { State.reset.queues with chans := [(ch, { sends := [{ seq := 7, sent := true, sentAt := 0 }] })] } };
    let again := chatting [(3, { sends := [{ seq := 7, resendAt := some 0 }] })];
    let header := inFlightHeader 1 { pos := 1, gen := 3, sent := true, since := some 0 };
    ((late 3).live ∧ (late 3).answerLate 3 7 = true ∧ (late 3).chResend 3 = true) ∧
      ((late 1).live ∧ (late 1).answerLate 1 7 = true ∧ (late 1).chResend 1 = false ∧ (late 1).hasBed = true ∧
        (late 1).inWindow ((late 1).chOutcome 1 + 8 * (7 % 64)) 8 = true ∧ (late 1).chOutcome 1 % 8 = 0 ∧ (late 1).bed.writeWait = [] ∧
        Tbl.lowestFree (late 1).bed.writes 512 = some 0 ∧ (late 1).detOf ((late 1).chPart 1) = false) ∧
      ({ late 1 with dets := [((late 1).chPart 1, { det := true })] } : State).detOf ((late 1).chPart 1) = true ∧
      (header.live ∧ header.answerLate 1 (3 * 2 ^ 0) = false ∧ header.lateExchanges 1 (3 * 2 ^ 0) = [5] ∧
        (header.exchange 5).outs = [{ pos := 1, gen := 3, sent := true, since := some 0 }]) ∧
      again.live ∧ again.resendDue 3 7 = true := by decide +kernel

/-- An ACK and a NACK of a send, on a resend channel and on another, an answer to none, and one to a header. -/
theorem witness_SendsAndOutcomes_answers :
    let sent (ch : Nat) : State :=
      let s := chatting [(ch, { sends := [{ seq := 7, sent := true }] })];
      { s with image := { s.image with recs := record tyTreeRole 0 0 [(24, 0), (32, 0x100000)] :: s.image.recs } };
    let answer (src dest ch seq e st : Nat) : Granule :=
      BitVec.ofNat 512 (seq + ch * 2 ^ 32 + e * 2 ^ 47 + st * 2 ^ 48 + routeWord src dest 2 false * 2 ^ 448);
    let header := inFlightHeader 1 { pos := 1, gen := 3, sent := true };
    (∀ ch ∈ [1, 3], let s := sent ch;
      s.live ∧ s.receives 0 ∧ routeDest (answer 0 s.selfCode ch 7 0 1) = s.selfCode ∧
        (s.chan ch).sends.find? (fun m => m.seq == 7 && m.sent && !m.writing) = some { seq := 7, sent := true } ∧
        s.chResend ch = (ch == 3) ∧ s.hasBed = true ∧ s.chOutcome ch % 8 = 0 ∧ s.inWindow (s.chOutcome ch + 8 * (7 % 64)) 8 = true) ∧
      (∀ st ∈ [1, 2], let w := (answer 0 1 1 7 0 st).toNat;
        bit w 47 = false ∧ fld w 0 32 = 7 ∧ fld w 32 16 = 1 ∧ fld w 48 8 = st) ∧
      ((sent 1).chan 1).sends.find? (fun m => m.seq == 8 && m.sent && !m.writing) = none ∧
      (let flit := answer (pathCode [0, 1]) header.selfCode 1 (5 * 2 ^ 24 + 3) 1 1;
        header.live ∧ header.receives 0 ∧ routeDest flit = header.selfCode ∧ bit flit.toNat 47 = true ∧
          fld (fld flit.toNat 0 32) 24 8 = 5 ∧ (header.exchange 5).outs = [{ pos := 1, gen := 3, sent := true }] ∧
          fld 3 0 24 = fld (fld flit.toNat 0 32) 0 24 ∧
          header.leafCode (header.recU tyExchange 5 0 (32 + 2 * 1) 2) = some (routeSrc flit)) := by decide +kernel

theorem witness_MessagesAndHeadersArrive_messages :
    let s := chatting [];
    let wrap := chatting [(1, { head := 8, tail := 1023, ring := [{ seq := 1, start := 8, size := 1015 }] })];
    let m (dest ch : Nat) := messageTo dest ch 0x3FF 7;
    let self := s.selfCode;
    (∀ t ∈ [s, wrap], t.live ∧ t.receives 0 ∧ 0 < t.ports.length ∧ (t.port 0).unacked + footprint 64 < 32) ∧
      64 = fld (m self 1).toNat 20 13 ∧ routeDest (m self 1) = self ∧
      s.checkMessage 9 2 0x3FF 64 = some 1 ∧
      (s.nextHop (routeSrc (m self 1)) = some 1 ∧ s.hasPort 1 = true ∧ (1 : Nat) ≠ 0 ∧ routeSrc (m self 1) ≠ self ∧ 1 < s.ports.length) ∧
      (s.checkMessage 2 2 0x3FF 64 = none ∧ s.chAddressed 2 = true) ∧
      (s.checkMessage 1 2 0x3FF 64 = none ∧ s.chAddressed 1 = false ∧
        placeInRing 0 0 (s.chan 1).occupied (s.chGranules 1) 2 = some (0, 0)) ∧
      (wrap.checkMessage 1 2 0x3FF 64 = none ∧
        placeInRing 8 1023 (wrap.chan 1).occupied (wrap.chGranules 1) 2 = some (0, 1)) ∧
      (let t := middle (chanRecs ++ partRecs 0); let flit := messageTo (pathCode [0, 0]) 1 0x3FF 7;
        t.live ∧ t.receives 0 ∧ routeDest flit ≠ t.selfCode ∧ t.nextHop (routeDest flit) = some 1 ∧ t.hasPort 1 = true ∧
          1 < t.ports.length) := by decide +kernel

/-- Headers for a channel that refuses them, of the generation that the exchange is to gather next, the one after, and a later one; a
second one from a leaf, placed already or on its way; and one for another leaf. -/
theorem witness_MessagesAndHeadersArrive_headers :
    let s := chatting [];
    let off : State := { s with queues := { s.queues with enables := [(0, 0)] } };
    let seen : State := { s with jigs := { s.jigs with exchanges := [(5, { seen := [(0, 0)] })] } };
    let landing : State := { s with jigs := { s.jigs with exchanges := [(5, { landing := [{ gen := 1, pos := 0 }] })] } };
    let h (dest g : Nat) : Granule := BitVec.ofNat 512 ((messageTo dest 1 0 0).toNat + g * 2 ^ 256);
    (∀ t ∈ [s, off, seen, landing], t.live ∧ t.receives 0 ∧ 0 < t.ports.length ∧ (t.port 0).unacked < 31) ∧
      routeDest (h s.selfCode 1) = s.selfCode ∧ fld (h s.selfCode 1).toNat 304 8 = 5 ∧ s.exchChannel 5 = 1 ∧
      (off.checkMessage 1 2 0x3FF 1).filter (· != 5) = some 2 ∧
      (∀ t ∈ [s, seen, landing], (t.checkMessage 1 2 0x3FF 1).filter (· != 5) = none) ∧
      (s.exchange 5).gd = none ∧ (∀ g ∈ [0, 1, 2], fld (h s.selfCode g).toNat 256 32 = g) ∧ fld (h s.selfCode 1).toNat 288 16 = 0 ∧
      (s.exchange 5).refuses 0 0 = none ∧ (s.exchange 5).refuses 1 0 = none ∧ (s.exchange 5).refuses 2 0 = some fltExchangeLap ∧
      (seen.exchange 5).refuses 0 0 = some fltExchangeDup ∧ (landing.exchange 5).refuses 1 0 = some fltExchangeDup ∧
      (routeDest (h (pathCode [0, 0]) 1) ≠ s.selfCode ∧ s.nextHop (routeDest (h (pathCode [0, 0]) 1)) = some 1 ∧ s.hasPort 1 = true ∧
        1 < s.ports.length) := by decide +kernel

/-- Queue 1 between cores 0 and 1 (requesters 512 and 513), with its attributes, and its state. -/
def queueing (attrs : Nat) (x : Queue) : State :=
  { leaf (record tyQueue 1 0 [(16, 2), (17, 3), (18, attrs), (20, 512), (22, 513), (24, 5)] :: partRecs 0) with
    queues := { State.reset.queues with queues := [(1, x)] } }

/-- A request on queue 1. -/
def queueReq (op data : Nat) : BitVec 128 := BitVec.ofNat 128 (op + 2 ^ 4 + 2 * 2 ^ 12 + 3 * 2 ^ 18 + data * 2 ^ 64)

/-- What `queueReady` asks of a state, as a check. -/
def isQueueReady (s : State) (op src : Nat) (req : BitVec 128) : Bool :=
  !s.wrapper.undefined && !s.power.inReset && s.power.phase != 5 && !s.power.stopped && s.hasLane src && s.runs swSync &&
    !s.sync.dumpBusy && fld req.toNat 0 4 == op && (s.queueCheck src req.toNat).isNone && !s.waitsBehind src req.toNat

theorem isQueueReady_ready (s : State) (op src : Nat) (req : BitVec 128) (h : isQueueReady s op src req = true) :
    s.queueReady op src req := by
  simp only [isQueueReady, Bool.and_eq_true, Bool.not_eq_true', bne_iff_ne, ne_eq, beq_iff_eq, Option.isNone_iff_eq_none] at h
  obtain ⟨⟨⟨⟨⟨⟨⟨⟨⟨h1, h2⟩, h3⟩, hs⟩, h4⟩, h5⟩, h6⟩, h7⟩, h8⟩, h9⟩ := h
  exact ⟨⟨⟨⟨h1, h2, h3⟩, hs⟩, h4, h5, h6⟩, h7, h8, h9⟩

/-- A queue of two words, and one that is full. -/
def two : Queue := { rd := 0, wr := 2, words := [{ data := 7 }, { data := 8 }] }
def sixtyFour : Queue := { wr := 64, words := List.replicate 64 { data := 7 } }

theorem witness_QueueOperations :
    (∀ op ∈ [0, 7], isQueueReady (queueing 0 two) op 512 (queueReq op 5) = true) ∧
      (∀ op ∈ [1, 2, 3, 4], isQueueReady (queueing 0 two) op 513 (queueReq op 5) = true ∧
        isQueueReady (queueing 1 two) op 513 (queueReq op 5) = true) ∧
      ((queueing 0 two).queue 1).occupancy ≠ (queueing 0 two).qCap 1 ∧ ((queueing 0 two).queue 1).held = [] ∧
      (isQueueReady (queueing 0 sixtyFour) 0 512 (queueReq 0 5) = true ∧
        ((queueing 0 sixtyFour).queue 1).occupancy = (queueing 0 sixtyFour).qCap 1) ∧
      (isQueueReady (queueing 0 {}) 1 513 (queueReq 1 0) = true ∧ ((queueing 0 {}).queue 1).isEmpty = true) ∧
      ((two.isEmpty = false ∧ (two.wordAt two.rd).place ≠ 1 ∧ (two.wordAt two.rd).place ≠ 2) ∧
        (queueing 0 two).qAuto 1 = false ∧ (queueing 1 two).qAuto 1 = true) ∧
      (let x : Queue := { two with words := [{ data := 7, place := 1 }, { data := 8 }] };
        isQueueReady (queueing 0 x) 1 513 (queueReq 1 0) = true ∧ (x.wordAt x.rd).place = 1) ∧
      ((∀ w ∈ two.words, w.place ≠ 1) ∧ (queueing 0 two).queues.waiting = []) ∧
      (let x : Queue := { two with words := [{ data := 7, place := 2 }, { data := 8 }] };
        isQueueReady (queueing 0 x) 1 513 (queueReq 1 0) = true ∧ (x.wordAt x.rd).place = 2) ∧
      (let x : Queue := { two with held := [{ src := 512, op := 0 }] };
        isQueueReady (queueing 0 x) 0 512 (queueReq 0 5) = true ∧ isQueueReady (queueing 2 x) 5 512 (queueReq 5 0) = true ∧
          ((queueing 0 x).queue 1).held ≠ [] ∧ ((queueing 2 x).queue 1).held ≠ []) := by decide +kernel

theorem witness_QueueOperations_packets :
    let x : Queue := { two with packet := some (1, 0) };
    (isQueueReady (queueing 2 two) 5 512 (queueReq 5 0) = true ∧ isQueueReady (queueing 2 sixtyFour) 5 512 (queueReq 5 0) = true) ∧
      (isQueueReady (queueing 2 x) 6 512 (queueReq 6 9) = true ∧ ((queueing 2 x).queue 1).packet = some (1, 0) ∧
        (∀ w ∈ x.words, w.place ≠ 1) ∧ sub32 1 x.rel < x.words.length) ∧
      ((queueing 0 two).queueCheck 512 ((queueReq 5 0).toNat - fld (queueReq 5 0).toNat 0 4 + opOf 5 7 5) = some fltQueueOp ∧
        (queueing 0 two).waitsBehind 512 ((queueReq 5 0).toNat - fld (queueReq 5 0).toNat 0 4 + opOf 5 7 5) = false ∧ 5 ≤ 7 ∧
        (queueing 0 two).laneOpen 512 ∧ ((queueing 0 two).queue 1).held = []) := by
  decide +kernel

/-- Host rings of partition 2 in memory. -/
def ringing (h : HostQ) : State :=
  { leaf ([record tyTreeRole 0 0 [(32, 0x100000)], record tyHostq 2 0 [(16, 0x4000), (24, 4), (32, 0x5000), (40, 4)]] ++ partRecs 0) with
    queues := { State.reset.queues with hostqs := [(2, h)] } }

theorem witness_TimersAndRings :
    (∀ attrs ∈ [0, 4],
      (queueing attrs { two with timer := some 0 }).live ∧ (queueing attrs { two with timer := some 0 }).queueLate 1 = true ∧
        (queueing attrs { two with timer := some 0 }).qOnTimeout 1 = (attrs == 4) ∧
        (queueing attrs { two with timer := some 0 }).detOf 2 = false) ∧
      ({ queueing 4 two with dets := [(2, { det := true })] } : State).detOf ((queueing 4 two).qPart 1) = true ∧
      ((ringing { writing := some (0, 5) }).recordWriting 2 false = some (0, 5) ∧
        ((ringing { writing := some (0, 5) }).hostq 2).waiting = []) ∧
      (ringing { evtWriting := [3] }).recordWriting 2 true = some (3, 0) ∧
      (∀ failed ∈ [false, true],
        let s := ringing { writing := some (0, 5), retryAt := some 0, failed := failed };
        s.live ∧ (s.hostq 2).retryAt = some 0 ∧ (s.hostq 2).writing = some (0, 5) ∧ 0 + 64 ≤ s.power.heart ∧ s.hasBed = true ∧
          s.inWindow (s.ringAddr 2 false 0) 64 = true ∧ s.ringAddr 2 false 0 % 64 = 0 ∧ s.bed.writeWait = [] ∧
          Tbl.lowestFree s.bed.writes 512 = some 0 ∧ (s.hostq 2).failed = failed) := by decide +kernel

/-- An event that comes to its home, with a ring that has room, with one that is full, and without. -/
theorem witness_TimersAndRings_events :
    let base (h : HostQ) (rs : List Rec) : State :=
      let s := middle (rs ++ partRecs (middle []).selfCode);
      { s with queues := { State.reset.queues with hostqs := [(2, h)] } };
    let ring (n : Nat) := base { evtSeq := n }
      [record tyTreeRole 0 0 [(17, 1), (18, 3), (32, 0x100000)], record tyHostq 2 0 [(16, 0x4000), (24, 4), (32, 0x5000), (40, 4)]];
    let flit : Granule := BitVec.ofNat 512 (2 * 2 ^ 40);
    (∀ s ∈ [ring 0, ring 17, base {} []], s.live ∧ s.receives 0 ∧ fld flit.toNat 40 6 = 2 ∧ s.homeCode 2 = s.selfCode) ∧
      ((ring 0).hasHostq 2 = true ∧ (ring 0).ringRoom 2 true 0 ((ring 0).hostq 2).evtAcked = true ∧ (ring 0).hasBed = true ∧
        (ring 0).inWindow ((ring 0).ringAddr 2 true 0) 64 = true ∧ (ring 0).ringAddr 2 true 0 % 64 = 0) ∧
      ((ring 17).hasHostq 2 = true ∧ (ring 17).ringRoom 2 true 17 ((ring 17).hostq 2).evtAcked = false) ∧
      (base {} []).hasHostq 2 = false := by decide +kernel

/-- The header of a record of an image (11 R426). -/
def framed (ty length : Nat) (fs : List (Nat × Nat)) (scope : Nat) : Blob :=
  ⟨length, body ([(0, ty), (4, length), (8, scope)] ++ fs)⟩

/-- An image of the records, with its digests (11 R430, R444). -/
def image (epoch : Nat) (rs : List Blob) : Blob :=
  let all (d c : Nat) : List Blob :=
    framed tyHeader 128
      [(16, 0x4B524C42), (20, 3), (26, 3), (28, 1 + rs.length), (32, 128 + (rs.map (·.len)).foldl (· + ·) 0), (36, epoch),
        (40, 100), (48, d), (80, c)] (2 ^ 15) :: rs;
  let recs : List Placed := (all 0 0).map (fun b => { r := { type := fld b.bits 0 16, length := b.len, bits := b.bits } });
  (all (imageDigest recs) (censusDigest recs)).foldl blobCat ⟨0, 0⟩

/-- The TREE_ROLE record of a root that is a node. -/
def rootNode : Blob := framed tyTreeRole 80 [(16, 2), (48, 0x600000), (64, 0x400000), (72, 0x500000)] 0

/-- A node's root that loads an image, and the witness of an image that passes every check. -/
def nodeRoot : State := { bare with build := .node, image := { State.reset.image with state := 1, loading := true } }

theorem witness_ImageLoadEnds :
    let bad := nodeRoot.validate (nodeRoot.imageBytes nodeRoot.image.addr ⟨16, 0⟩);
    nodeRoot.live ∧ nodeRoot.image.loading = true ∧
      (nodeRoot.validate (nodeRoot.imageBytes nodeRoot.image.addr (image 5 [rootNode]))).isLeft = true ∧ bad.isLeft = false ∧
      (match bad with | .inr e => faultClass e.fault != 4 | .inl _ => false) = true := by decide +kernel

/-- A reshape at a node's root: its image is being read, it drains, swaps, asks for the outcome, and writes its journal. -/
def reshaping (r : Reshape) : State :=
  { nodeRoot with
    face := { State.reset.face with role := 2 }
    image := { State.reset.image with state := 2, epoch := 4 }
    reshape := r }

theorem witness_ReshapePhasesEnd :
    let read := reshaping { phase := 1, reading := true, newEpoch := 5 };
    let drain := reshaping { phase := 2, drainWait := true, newEpoch := 5 };
    let swap (busy : List Nat) : State := { reshaping { phase := 3 } with image := { (reshaping {}).image with busy := busy } };
    let ask : State := { middle [] with reshape := { State.reset.reshape with querying := true } };
    let written (ph : Nat) := reshaping { phase := ph, jOut := [ph] };
    (∀ s ∈ [read, drain, swap [0], swap [0, 3], ask, written 5, reshaping { phase := 2, jOut := [1] }], s.live) ∧
      (read.reshape.reading = true ∧ read.reshape.rolling = false ∧
        (read.checkReshape (read.imageBytes read.image.reshapeAddr ⟨16, 0⟩)).isLeft = false) ∧
      drain.drainOver = true ∧
      (∀ busy ∈ [[0], [0, 3]], (swap busy).reshape.phase = 3 ∧ (swap busy).image.busy.contains 0 = true ∧
        (swap busy).lookups 0 (1 - (swap busy).activeBank 0) = 0 ∧ (swap busy).activeBank 0 = 0) ∧
      ((swap [0]).image.busy.filter (· != 0) = [] ∧ (swap [0, 3]).image.busy.filter (· != 0) ≠ []) ∧
      (ask.reshape.querying = true ∧ ask.reshape.askedAt + 1000 ≤ ask.power.heart ∧ ask.isRoot = false ∧ ask.reshape.jOut = [] ∧
        ask.nextHop (pathCode []) = some 0 ∧ ask.hasPort 0 = true ∧ 0 < ask.ports.length) ∧
      (written 5).reshape.jOut = [5] ∧ (reshaping { phase := 2, jOut := [1] }).reshape.jOut = [1] ∧ (1 : Nat) ≠ 2 := by
  decide +kernel

theorem witness_ReshapePhasesEnd_image :
    let s := reshaping { phase := 1, reading := true, newEpoch := 5 };
    s.live ∧ s.reshape.reading = true ∧ s.reshape.rolling = false ∧
      (s.checkReshape (s.imageBytes s.image.reshapeAddr (image 5 [rootNode, framed tyReshape 32 [(16, 4)] (2 ^ 15)]))).isLeft = true := by
  decide +kernel

/-- A root with a child at port 1, of epoch 4. -/
def rootWith (r : Reshape) : State :=
  let s := leaf [record tyTreeRole 0 0 [(17, 1), (18, 3)]]
  { s with
    nodeFn := true
    face := { s.face with role := 2, childLive := 1 }
    ports := [{}, { isl := 1, state := 3, lastRx := 2000000 }] ++ List.replicate 7 {}
    reshape := r
    image := { s.image with epoch := 4 } }

/-- An instance below it with a child at port 1, of epoch 4. -/
def nodeWith (r : Reshape) : State :=
  let s := middle []
  { s with face := { s.face with childLive := 1, parentLive := true }, reshape := r, image := { s.image with epoch := 4 } }

/-- A reshape flit for an instance: its operation, its result, its epoch. -/
def reshapeFlit (s : State) (op result epoch : Nat) : Granule :=
  BitVec.ofNat 512 (op + result * 2 ^ 8 + 9 * 2 ^ 16 + epoch * 2 ^ 32 + 4 * 2 ^ 64 +
    ({ s with face := { s.face with path := [0, 0] } } : State).route s.selfCode 0 true * 2 ^ 448)

/-- The reshape of epoch 5 in a phase: not over here, or over but for child 1, or but for children 1 and 2. -/
def phased (ph : Nat) (selfDone : Bool) (kids : List Nat) : Reshape := { phase := ph, newEpoch := 5, selfDone := selfDone, kids := kids }

/-- Flits reach both instances, from the child and from the parent; what is sent up and down has a way. -/
theorem witness_ReshapePhasesEnd_flits :
    let root := rootWith State.reset.reshape;
    let node := nodeWith State.reset.reshape;
    (root.live ∧ root.receives 1 ∧ root.isRoot = true ∧ node.live ∧ node.receives 0 ∧ node.receives 1 ∧ node.isRoot = false) ∧
      (∀ op ∈ List.range 12, ∀ e ∈ [4, 5], ∀ s ∈ [root, node],
        routeDest (reshapeFlit s op 1 e) = s.selfCode ∧ fld (reshapeFlit s op 1 e).toNat 0 8 = op ∧
          fld (reshapeFlit s op 1 e).toNat 8 8 = 1 ∧ fld (reshapeFlit s op 0 e).toNat 8 8 = 0 ∧
          fld (reshapeFlit s op 1 e).toNat 32 32 = e) ∧
      (root.liveKids = [1] ∧ node.liveKids = [1] ∧ root.nextHop (pathCode (root.partnerPath 1)) = some 1 ∧
        node.nextHop (pathCode (node.partnerPath 1)) = some 1 ∧ root.hasPort 1 = true ∧ node.hasPort 1 = true ∧
        1 < root.ports.length ∧ 1 < node.ports.length) ∧
      (node.nextHop (pathCode (node.partnerPath 0)) = some 0 ∧ node.nextHop (pathCode []) = some 0 ∧ node.hasPort 0 = true ∧
        0 < node.ports.length) ∧
      root.nextHop (routeSrc (reshapeFlit root 10 0 5)) = some 1 := by decide +kernel

/-- PREPARE, DRAIN, SWAP, COMMIT, ABORT and OUTCOME: each with its effect and without. -/
theorem witness_ReshapePhasesEnd_down :
    let idle := nodeWith State.reset.reshape;
    let asking := nodeWith { State.reset.reshape with querying := true, newEpoch := 5 };
    let at_ (ph : Nat) := nodeWith (phased ph false [1]);
    let renewed : State := { idle with image := { idle.image with epoch := 5 } };
    (∀ s ∈ [idle, asking, renewed, at_ 1, at_ 2, at_ 3, at_ 4], s.live ∧ s.receives 0 ∧ s.reshape.jOut = []) ∧
      (idle.reshape.phase = 0 ∧ idle.reshape.querying = false) ∧ asking.reshape.querying = true ∧
      (∀ ph ∈ [1, 2, 3, 4], (at_ ph).reshape.newEpoch = 5 ∧ (at_ ph).reshape.phase = ph ∧ (at_ ph).reshape.querying = false ∧
        (at_ ph).reshape.rolling = false) ∧
      (renewed.image.epoch = 5 ∧ asking.image.epoch ≠ 5 ∧ asking.reshape.newEpoch = 5 ∧ (at_ 3).image.epoch ≠ 5 ∧
        idle.reshape.newEpoch ≠ 5) := by decide +kernel

/-- SWAP where every table's inactive bank is free, and where an accepted request still reads one. -/
theorem witness_ReshapePhasesEnd_swap :
    let s := nodeWith (phased 2 false [1]);
    let held : State := { s with queues := { s.queues with queues := [(1, { reading := some 5, readBank := 1 })] } };
    let busy (s : State) : Option (List Nat) :=
      match exec (.swap 0 (reshapeFlit s 5 0 5)) s with | .next t => some t.image.busy | _ => none;
    (busy s = some [] ∧ (busy held).any (· != []) = true) ∧ held.live ∧ held.receives 0 ∧ held.reshape.jOut = [] := by decide +kernel

/-- VOTE, DRAINED, SWAPPED and DONE: of another reshape or phase, of a child that is not the last, and of the last. -/
theorem witness_ReshapePhasesEnd_up :
    (∀ ph ∈ [1, 2, 3, 4], ∀ mk ∈ [rootWith, nodeWith],
      (∀ r ∈ [phased ph false [1], phased ph true [1], phased ph true [1, 2]],
        (mk r).live ∧ (mk r).receives 1 ∧ (mk r).reshape.jOut = [] ∧ (mk r).reshape.newEpoch = 5 ∧ (mk r).reshape.phase = ph ∧
          (mk r).reshape.rolling = false) ∧
      ((mk (phased ph true [1])).reshape.selfDone = true ∧ ∀ k ∈ (mk (phased ph true [1])).reshape.kids, k = 1) ∧
      (mk (phased ph false [1])).reshape.selfDone = false ∧
      (2 ∈ (mk (phased ph true [1, 2])).reshape.kids ∧ 2 ∉ (mk (phased ph true [1, 2])).reshape.heard)) ∧
      (rootWith (phased 1 false [1])).reshape.newEpoch ≠ 4 ∧ (rootWith State.reset.reshape).reshape.phase = 0 ∧
      (let s := nodeWith { phased 3 false [1] with rolling := true };
        s.live ∧ s.receives 1 ∧ s.reshape.rolling = true ∧ s.reshape.newEpoch = 5) := by decide +kernel

/-- QUERY at the root: the outcome known, no reshape, and one that is under way. -/
theorem witness_ReshapePhasesEnd_query :
    let known := rootWith { jLast := some (4, true, 4, 5, 7) };
    (known.live ∧ known.receives 1 ∧ known.reshape.jOut = [] ∧ known.reshape.jLast = some (4, true, 4, 5, 7)) ∧
      (rootWith State.reset.reshape).reshape.jLast = none ∧ (rootWith State.reset.reshape).reshape.olderWait = false ∧
      (rootWith State.reset.reshape).reshape.phase = 0 ∧ (rootWith (phased 2 false [1])).reshape.jLast = none ∧
      (rootWith { olderWait := true }).reshape.olderWait = true ∧ (rootWith { olderWait := true }).reshape.jLast = none := by
  decide +kernel

/-- Partition 2 with classes 0 (context 3) and 1 (context 4) of one priority, and a task of each that is READY. -/
def slicing (holds : Bool) : State :=
  let s := leaf [record tyPartition 2 0 [(16, 0), (20, 100)], record tyContext 2 3 [(16, 0)], record tyContext 2 4 [(16, 1)]];
  let s := modCtx 2 3 (fun x => { x with st := .resident }) (modCtx 2 4 (fun x => { x with st := .resident }) s);
  { s with
    tasks := { s.tasks with slots :=
      [(1, { st := .ready, part := 2, ctx := 3, desc := some {} }), (2, { st := .ready, part := 2, ctx := 4, desc := some {} })] }
    ctxs := { s.ctxs with slices := [(2, { running := some 0, last := 0, since := 0 })], started := [2] }
    sync := { s.sync with
      sems := [(6, { part := 2, shared := true, configured := true, max := 9, holds := if holds then [(3, 1, 0)] else [] })] } }

theorem witness_QuantumHoldLimitAndParting :
    let alone : State := { slicing false with tasks := State.reset.tasks };
    (∀ holds ∈ [false, true],
      (slicing holds).live ∧ (slicing holds).quantumDue 2 = true ∧ ((slicing holds).slice 2).running = some 0 ∧
        (slicing holds).peerClass 2 0 = some 1 ∧ (slicing holds).classHolds 2 0 = holds) ∧
      (alone.live ∧ alone.quantumDue 2 = true ∧ (alone.slice 2).running = some 0 ∧ alone.peerClass 2 0 = none) ∧
      ((slicing true).holdDue 6 3 = true ∧ ((slicing true).sem 6).part = 2 ∧ (slicing true).partConfigured 2 = true ∧
        (slicing true).ctxConfigured 2 3 = true) := by decide +kernel

theorem witness_QuantumHoldLimitAndParting_flits :
    let s := child (partRecs 0);
    let flit (c : Nat) : Granule := BitVec.ofNat 512 (2 + c * 2 ^ 8 + 5 * 2 ^ 16 + s.route s.selfCode 2 true * 2 ^ 448);
    let inSt (x : CtxSt) := modCtx 2 3 (fun c => { c with st := x }) s;
    (∀ t ∈ [s, inSt .parted, inSt .parting], t.live ∧ t.receives 0) ∧
      (∀ c ∈ [3, 9], routeDest (flit c) = s.selfCode ∧ fld (flit c).toNat 0 8 = 2 ∧ fld (flit c).toNat 8 8 = c) ∧
      (s.ctxConfigured 2 3 = true ∧ s.gone 2 3 = false) ∧ s.ctxConfigured 2 9 = false ∧ (inSt .parted).gone 2 3 = true ∧
      ((inSt .parted).ctx 2 3).st = .parted ∧ ((inSt .parting).ctx 2 3).st = .parting ∧
      ((s.ctx 2 3).st ≠ .parted ∧ (s.ctx 2 3).st ≠ .parting) := by decide +kernel

/-- Core 0 of the leaf with a spill range of 100 lines, allocated to partition 2, whose context 3 (class 1) is RESIDENT and
context 4 (class 0) has borrowed runs. -/
def lending (runs : List Run) (windows : List Window) : State :=
  let s := leaf ([record tyPartition 2 0 [(16, 0), (20, 100), (32, 0), (33, 1)], record tyContext 2 3 [(16, 1), (24, 100)],
    record tyContext 2 4 [(16, 0), (24, 100)], record tyAlloc 2 0 [(16, 1)], record tyScratch 0 0 [(16, 4096), (18, 256), (20, 0), (22, 100)],
    record tyEngineMap 0 0 [(16, 0)]]);
  let s := modCtx 2 3 (fun x => { x with st := .resident }) (modCtx 2 4 (fun x => { x with st := .resident }) s);
  { s with ctxs := { s.ctxs with runs := runs, windows := windows } }

/-- A request of context 3 for `n` lines. -/
def linesReq (op n first : Nat) : Word := BitVec.ofNat 64 (op + n * 2 ^ 2 + first * 2 ^ 15 + 2 * 2 ^ 28 + 3 * 2 ^ 34)

/-- A free range; lines that exceed the limit, and a sixteenth run; no free range, with runs of a lower class below and without. -/
theorem witness_LinesAreLentAndReturned :
    let low : Run := { core := 0, part := 2, ctx := 4, first := 0, lines := 60 };
    let own (first lines : Nat) : Run := { core := 0, part := 2, ctx := 3, first := first, lines := lines };
    let free := lending [] [];
    let excess := lending [own 0 60] [];
    let many := lending ((List.range 16).map (own · 1)) [];
    let below := lending [low] [];
    let shut := lending [own 0 40, { low with first := 40, st := 4 }] [];
    let w := (linesReq 0 50 0).toNat;
    let mine (s : State) := s.ctxs.runs.filter (fun r => r.core == 0 && r.part == 2 && r.ctx == 3);
    let sum (s : State) := ((mine s).map (·.lines)).foldl (· + ·) 0 + 50;
    (∀ s ∈ [free, excess, many, below, shut], s.laneOpen 512 ∧ s.coreOf 512 = some 0 ∧ (s.allocCores 2).contains 0 = true ∧
      (s.ctx 2 3).st = .resident ∧ s.ctxs.windows = [] ∧ s.borrowMax 2 3 = 100) ∧
      (fld w 39 25 = 0 ∧ fld w 2 13 = 50 ∧ fld w 28 6 = 2 ∧ fld w 34 5 = 3 ∧ fld w 0 2 ≤ 1) ∧
      (100 < sum excess ∧ 16 ≤ (mine many).length) ∧
      (∀ s ∈ [free, below, shut], sum s ≤ 100 ∧ (mine s).length < 16) ∧
      free.lowestRange 50 (free.blockers 0 2) = some 0 ∧
      (below.lowestRange 50 (below.blockers 0 2) = none ∧
        below.lowestRange 50 (below.windowBlockers 0 2 (below.ctxPrio 2 3)) = some 0) ∧
      (shut.lowestRange 50 (shut.blockers 0 2) = none ∧
        shut.lowestRange 50 (shut.windowBlockers 0 2 (shut.ctxPrio 2 3)) = none) := by decide +kernel

theorem witness_LinesAreLentAndReturned_windows :
    let v : Window := { core := 0, src := 512, part := 2, ctx := 3, first := 0, lines := 50, ready := true };
    let s := lending [] [v];
    let t := lending [{ core := 0, part := 2, ctx := 3, first := 20, lines := 50 }] [];
    let same (first : Nat) (r : Run) : Bool :=
      r.core == 0 && r.part == 2 && r.ctx == 3 && r.first == fld (linesReq 1 50 first).toNat 15 13 && r.lines == 50 &&
        (r.st == 0 || r.st == 1 || r.st == 2);
    (s.laneOpen 512 ∧ t.laneOpen 512 ∧ s.coreOf 512 = some 0 ∧ t.coreOf 512 = some 0 ∧ (s.ctx 2 3).st = .resident ∧
      (t.ctx 2 3).st = .resident ∧ (s.allocCores 2).contains 0 = true ∧ (t.allocCores 2).contains 0 = true) ∧
      (s.ctxs.windows.find? (fun w => w.src == 512 && w.core == 0 && w.part == 2 && w.ctx == 3 && w.lines == 50) = some v ∧
        v.ready = true) ∧
      t.ctxs.windows = [] ∧ t.ctxs.runs.any (same 20) = true ∧ t.ctxs.runs.any (same 21) = false := by decide +kernel

/-- Group 1 of partition 2: this leaf (index 0) is its first of two members. -/
def reducing (b : Bucket) : State :=
  let s := child ([record tyReduce 1 0 [(16, 2), (18, 2), (20, 1), (26, 8), (32, 10), (64, 0), (66, 1)]] ++ partRecs 0);
  { s with reduce := { s.reduce with buckets := [(3, { b with tag := 3, group := 1, round := 1 })] } }

theorem witness_BucketsGoOn :
    let late (own : Bool) (k : Nat) : State := reducing { isOpen := true, level := k, ownReady := own, timer := some 0 };
    let det : State := { late true 1 with dets := [(2, { det := true })] };
    let done (bad : Bool) : State :=
      reducing { isOpen := true, delivering := true, task := some 9, poisonedIn := bad };
    (∀ own ∈ [false, true], ∀ k ∈ [1, 2], (late own k).live ∧ (late own k).deadlineDue 3 = true ∧
      ((late own k).bucket 3).ownReady = own ∧ (late own k).detOf ((late own k).rdPart 1) = false) ∧
      (det.live ∧ det.deadlineDue 3 = true ∧ det.detOf (det.rdPart (det.bucket 3).group) = true) ∧
      (late true 1).levelIndex 3 ≠ 12 ∧ (late true 2).levelIndex 3 = 12 ∧
      (∀ bad ∈ [false, true], (done bad).live ∧ ((done bad).bucket 3).isOpen = true ∧ ((done bad).bucket 3).delivering = true ∧
        ((done bad).bucket 3).poisonedIn = bad ∧ ((done bad).bucket 3).task = some 9) := by decide +kernel

/-- A message of a bucket of group 1: its type, from whom it comes, its round, its length. -/
def reduceMsg (type fromPos package round length : Nat) : Granule :=
  let s := reducing {};
  BitVec.ofNat 512 (type + 1 * 2 ^ 8 + 3 * 2 ^ 16 + round * 2 ^ 32 + 2 * 2 ^ 40 + length * 2 ^ 48 + fromPos * 2 ^ 72 +
    package * 2 ^ 84 + 1 * 2 ^ 96 + s.route s.selfCode 2 false * 2 ^ 448)

/-- READY for an open bucket from the member that the partial goes to, and for one that is not open. -/
theorem witness_BucketsGoOn_ready :
    let s := reducing { isOpen := true };
    let m (round : Nat) := rmsgOf (reduceMsg 5 0 1 round 0).toNat;
    (s.live ∧ s.receives 0) ∧
      (∀ round ∈ [1, 7], (m round).type = 5 ∧ (m round).fits ⟨0, 0⟩ ⟨0, 0⟩ = true ∧
        routeBridge (reduceMsg 5 0 1 round 0) = false ∧ routeDest (reduceMsg 5 0 1 round 0) = s.selfCode) ∧
      (s.rmsgOpen (m 1) = true ∧ s.sendsTo (m 1) = true) ∧ (s.rmsgOpen (m 7) = false ∧ s.rmsgNext (m 7) = false) := by decide +kernel

/-- PARTIAL: awaited, not awaited, late at an open and at a closed slot, and the first of the next round. -/
theorem witness_BucketsGoOn_partial :
    let s := reducing { isOpen := true, readyOut := true };
    let ended := reducing { isOpen := true };
    let closed := reducing {};
    let m (round : Nat) := rmsgOf (reduceMsg 1 1 0 round 16).toNat;
    (∀ t ∈ [s, ended, closed], t.live ∧ t.receives 0) ∧
      (∀ round ∈ [1, 2, 7], (m round).type = 1 ∧ (m round).fits ⟨0, 0⟩ ⟨64, 5⟩ = true ∧ (m round).tag % 4096 = 3 ∧
        routeBridge (reduceMsg 1 1 0 round 16) = false ∧ routeDest (reduceMsg 1 1 0 round 16) = s.selfCode) ∧
      (s.rmsgOpen (m 1) = true ∧ s.expects 3 (m 1) = true) ∧ (ended.rmsgOpen (m 1) = true ∧ ended.expects 3 (m 1) = false) ∧
      (∀ t ∈ [s, closed], t.rmsgOpen (m 7) = false ∧ t.rmsgNext (m 7) = false) ∧
      (closed.rmsgNext (m 2) = true ∧ (closed.bucket 3).isOpen = false ∧
        (closed.rdCtx (m 2).group 3).any (closed.gone (m 2).part) = false ∧
        (openBucket (m 2).group (m 2).tag false closed).isSome = true) := by decide +kernel

/-- RESULT, SHARD and UPDATE: for a slot that is not open, taken already, before the member's own contribution, and after it. -/
theorem witness_BucketsGoOn_ends :
    let at_ (b : Bucket) := reducing { b with level := 3 };
    let closed := at_ {};
    let early := at_ { isOpen := true };
    let own := at_ { isOpen := true, task := some 9, ctx := some 3, ownReady := true };
    let last := at_ { isOpen := true, task := some 9, ctx := some 3, ownReady := true, shards := [0] };
    let taken := at_ { isOpen := true, task := some 9, ctx := some 3, ownReady := true, delivering := true };
    (∀ t ∈ [closed, early, own, last, taken], t.live ∧ t.receives 0) ∧
      (∀ type ∈ [2, 3, 4], ∀ length ∈ [0, 16],
        let flit := reduceMsg type 1 0 1 length;
        let m := rmsgOf flit.toNat;
        m.type = type ∧ m.fits ⟨0, 0⟩ (if length = 0 then ⟨0, 0⟩ else ⟨64, 5⟩) = true ∧ routeBridge flit = false ∧
          routeDest flit = own.selfCode ∧ m.tag % 4096 = 3 ∧ m.length = length ∧
          closed.rmsgOpen m = false ∧ closed.rmsgNext m = false ∧
          (∀ t ∈ [early, own, last, taken], t.rmsgOpen m = true) ∧ taken.endTaken 3 m = true ∧
          (early.endTaken 3 m = false ∧ (early.bucket 3).task = none) ∧
          (own.endTaken 3 m = false ∧ (own.bucket 3).task.isSome = true)) ∧
      (let m := rmsgOf (reduceMsg 4 1 0 1 16).toNat;
        last.endTaken 3 m = false ∧ (last.bucket 3).task.isSome = true ∧
          last.rdMembers (last.bucket 3).group ≤ (last.bucket 3).shards.length + 1 ∧
          own.rdMembers (own.bucket 3).group > (own.bucket 3).shards.length + 1) := by decide +kernel

/-- The home of a partition with DET, whose boundary is asked for: without groups, and with one group of two members. -/
def bounding (groups : List Rec) (pos : Nat) : State :=
  let s := leaf (groups ++ partRecs 0);
  { s with face := { s.face with leafIndex := pos }, dets := [(2, { det := true, asked := true })] }

/-- A membership bank for boundary 1: two members, of which the first takes part. -/
def bankOf (sure : Nat) : Blob := ⟨576, 1 + sure * 2 ^ 32 + 2 * 2 ^ 33 + 2 ^ 512⟩

theorem witness_BoundariesAreTaken :
    let g := [record tyReduce 1 0 [(16, 2), (18, 2), (64, 0), (66, 1)]];
    let banks := [(1, bankOf 1, bankOf 0)];
    (∀ gs ∈ [[], g], (bounding gs 0).live ∧ (bounding gs 0).isHome 2 = true ∧ (bounding gs 0).detOf 2 = true ∧
      (bounding gs 0).boundaryDue 2 = true) ∧
      (bounding [] 0).groupsOf 2 = [] ∧ (bounding g 0).groupsOf 2 = [1] ∧
      (bankCandidate ((bounding g 0).det 2).nextBoundary ((bounding g 0).bankRead 2 1 0 banks) = true ∧
        (bounding g 0).badBank 1 ((bounding g 0).bankRead 2 1 0 banks) = false ∧
        bankCandidate ((bounding g 0).det 2).nextBoundary ((bounding g 0).bankRead 2 1 1 banks) = false) ∧
      (let s := child (g ++ partRecs 0);
        let flit : Granule :=
          BitVec.ofNat 512 (1 + 2 * 2 ^ 8 +
            ({ s with face := { s.face with path := [] } } : State).route s.selfCode 2 true * 2 ^ 448);
        (s.live ∧ s.receives 0) ∧
          routeDest flit = s.selfCode ∧ (s.rdPos (fld flit.toNat 0 8)).isSome = true ∧ (s.rdPos 0).isSome = false ∧
          s.nextHop (routeSrc flit) = some 0 ∧ s.hasPort 0 = true ∧ 0 < s.ports.length) := by
  decide +kernel

theorem witness_WarmResetKeeps :
    bare.wrapper.undefined = false ∧ bare.power.coldReset = false ∧ bare.power.bothResets = false ∧ bare.faults.unnumbered = [] := by
  decide +kernel

/-- CLEAR at an instance that a warm reset left without a role. -/
def clearing : State :=
  { bare with
    power := { State.reset.power with phase := 1, fastStable := true, replayIn := some (⟨4096, 0⟩, ⟨0, 0⟩) } }

theorem witness_WarmResetKeeps_clear :
    (clearing.pending = [] ∧ clearing.wrapper.undefined = false ∧ clearing.power.inReset = false ∧ clearing.work = [] ∧
      clearing.faults.unnumbered = [] ∧ clearing.power.phase = 1 ∧ clearing.power.fastStable = true ∧
      clearing.power.replayIn = some (⟨4096, 0⟩, ⟨0, 0⟩) ∧ clearing.hasRole = false ∧ clearing.bed.readWait = [] ∧
      clearing.bed.writeWait = []) ∧
      (∀ d, clearing.power.ungating.getD d false = false) :=
  ⟨by decide +kernel, fun d => match d with
    | 0 | 1 | 2 | 3 | 4 | 5 | 6 | 7 => by decide
    | _ + 8 => rfl⟩

/-- One entry in a ledger with room and in a full one, and two entries of two sources in either order. -/
theorem witness_FaultsAreNumbered :
    let e : FaultEntry := { value := 5, source := 2 };
    let with_ (l : List FaultEntry) : State := { bare with faults := { bare.faults with unnumbered := l } };
    let s := with_ [e];
    let full : State := { s with faults := { s.faults with ledger := List.replicate 1024 { seq := 9 } } };
    let two := with_ [e, { e with source := 1 }];
    let three := with_ [{ e with source := 1 }, e];
    (∀ t ∈ [s, full, two, three], t.pending = [] ∧ t.wrapper.undefined = false ∧ t.power.inReset = false ∧ t.work = [] ∧
      2 ≤ t.power.phase) ∧
      s.faults.unnumbered = [e] ∧ e.scope = 0 ∧ s.faults.selSeq = (s.faults.lastSeq + 1) % 2 ^ 16 ∧
      (∀ x ∈ s.faults.ledger, x.seq ≠ (s.faults.lastSeq + 1) % 2 ^ 16) ∧ full.faults.unnumbered = [e] ∧
      1024 ≤ full.faults.ledger.length ∧
      (∀ t ∈ [two, three], t.faults.unnumbered.length = 2 ∧ t.faults.ledger.length < 1023) := by
  decide +kernel

/-! ### Ill-formed terms are refused -/

theorem test_wf_offset : (Instr.fpWrite (2 ^ 25) 0).wf = false ∧ (Instr.fpWrite (2 ^ 25 - 8) 0).wf = true := by decide +kernel

theorem test_wf_blob : (Instr.reshapeValidateDone ⟨1, 256⟩).wf = false ∧ (Instr.reshapeValidateDone ⟨1, 255⟩).wf = true ∧
    (Instr.imageLoadDone ⟨1, 256⟩).wf = false := by decide +kernel

theorem test_wf_journal : (Instr.rstWarm ⟨4095, 0⟩ ⟨0, 0⟩).wf = false ∧ (Instr.rstWarm ⟨4096, 0⟩ ⟨0, 1⟩).wf = false ∧
    (Instr.rstWarm ⟨4096, 0⟩ ⟨0, 0⟩).wf = true := by decide +kernel

theorem test_wf_domain : (Instr.domainGate 8).wf = false ∧ (Instr.domainUngate 8).wf = false ∧ (Instr.domainGate 7).wf = true := by
  decide +kernel

theorem test_wf_engine : (Instr.engineRelease 512).wf = false ∧ (Instr.engineSuspectClear 512).wf = false ∧
    (Instr.statusRecord 512 0).wf = false ∧ (Instr.taskTimeout false 512).wf = false ∧ (Instr.taskTimeout true 512).wf = true ∧
    (Instr.taskTimeout true (2 ^ 18)).wf = false := by decide +kernel

theorem test_wf_port : (Instr.dispatch 9 0).wf = false ∧ (Instr.dispatch 8 0).wf = true ∧ (Instr.ack 9 0).wf = false ∧
    (Instr.message 9 0 ⟨0, 0⟩).wf = false ∧ (Instr.linkStateChange 0 4).wf = false ∧ (Instr.linkStateChange 0 3).wf = true := by
  decide +kernel

theorem test_wf_tag : (Instr.edgeGranuleArrive 512 0 false).wf = false ∧ (Instr.edgeGranuleArrive 511 0 false).wf = true ∧
    (Instr.cmdlistReadArrive 512 0 false).wf = false ∧ (Instr.queueRefillArrive 512 0 0 false).wf = false := by decide +kernel

theorem test_wf_partition : (Instr.newStream 64).wf = false ∧ (Instr.newStream 63).wf = true ∧ (Instr.ctxPart 0 32).wf = false ∧
    (Instr.ctxPart 63 31).wf = true ∧ (Instr.moveComplete 0 (2 ^ 20)).wf = false := by decide +kernel

theorem test_wf_requester : (Instr.signal 1024 0).wf = false ∧ (Instr.signal 1023 0).wf = true ∧ (Instr.borrow 1024 0).wf = false ∧
    (Instr.send 1024 0).wf = false ∧ (Instr.pktEnd 1024 0).wf = false := by decide +kernel

theorem test_wf_objects : (Instr.segmentResend 256 0 0).wf = false ∧ (Instr.answerTimeout 4096 0).wf = false ∧
    (Instr.messageResend 0 (2 ^ 32)).wf = false ∧ (Instr.queueTimeout 256).wf = false ∧ (Instr.holdLimit (2 ^ 16) 0).wf = false ∧
    (Instr.holdLimit 0 32).wf = false ∧ (Instr.reduceDeadline 4096).wf = false ∧ (Instr.deliveryDone 4096).wf = false ∧
    (Instr.bankWrite 4).wf = false := by decide +kernel

theorem test_wf_payloads : (Instr.partialMsg 0 0 ⟨1, 256⟩ ⟨0, 0⟩).wf = false ∧ (Instr.update 0 0 ⟨1, 256⟩).wf = false ∧
    (Instr.member 0 0 ⟨575, 0⟩).wf = false ∧ (Instr.member 0 0 ⟨576, 0⟩).wf = true ∧
    (Instr.boundaryTaken 0 [(0, ⟨1, 256⟩, ⟨0, 0⟩)]).wf = false ∧ (Instr.resetAssert false false).wf = false ∧
    (Instr.mbistDone (some 8192)).wf = false := by decide +kernel

/-! ### Commands on a small state -/

/-- The table spells no command by bits. -/
theorem test_table_word : decodeTableWord 16 0 = none := rfl

/-- 00 R17, W1C: 0x18 keeps the bits written as 0. -/
theorem test_fp_status_w1c :
    (({ bare with face := { bare.face with unmapped := true, closed := true } } : State).written 0x18 1).face.closed = true ∧
    (({ bare with face := { bare.face with unmapped := true, closed := true } } : State).written 0x18 1).face.unmapped = false := by
  decide +kernel

/-- 06 R252: a SIGNAL of two units on a value of 7 leaves 9, its maximum. -/
theorem test_signal_reaches_maximum :
    (match exec (.signal 512 (syncReq 0 2 false 0 0)) (syncing { value := 7, max := 9 } {} {}) with
      | .next t => (t.sem 0).value
      | _ => 0) = 9 := by decide +kernel

/-- 06 R253: one of two units on 8 leaves 8. -/
theorem test_signal_beyond_maximum :
    (match exec (.signal 512 (syncReq 0 2 false 0 0)) (syncing { value := 8, max := 9 } {} {}) with
      | .next t => (t.sem 0).value
      | _ => 0) = 8 := by decide +kernel

/-- 06 R259, R260: the last member's arrival starts the next generation. -/
theorem test_arrive_completes :
    (match exec (.arrive 512 (syncReq 4 0 true 0 0)) (syncing {} { gen := 5, cur := 6 } {}) with
      | .next t => (t.bar 0).gen
      | _ => 0) = 6 := by decide +kernel

/-- 13 R540: the first idle cycle leads from RESET to CLEAR. -/
theorem test_start_sequence :
    (match step State.reset with
      | .next t => (t.power.phase, t.power.heart)
      | _ => (9, 9)) = (1, 1) := by decide +kernel

/-- 12 R505: an external test leaves the functional state undefined, and only a cold reset ends that. -/
theorem test_extest_then_cold :
    (match exec (.wsExtest 5) bare with
      | .next t => (match exec .taskDispatch t, exec .rstCold t with
        | .fault .stateUndefined, .next u => !u.wrapper.undefined
        | _, _ => false)
      | _ => false) = true := by decide +kernel

/-- 13 R548: a parity fault of the supervisor halts the block. -/
theorem test_parity_halts :
    (match exec .supervisorParity bare with
      | .next t => t.power.phase
      | _ => 0) = 5 := by decide +kernel

/-- 08 R347: the lowest free lines are lent. -/
theorem test_borrow_lowest :
    (match exec (.borrow 512 (linesReq 0 50 0)) (lending [{ core := 0, part := 2, ctx := 4, first := 10, lines := 20 }] []) with
      | .next t => t.outs == [.response 3 512 respGranted 0 30]
      | _ => false) = true := by decide +kernel

end Sys2Proof.Tests
end

section
/-!
The scope's statements (00 R17 to R19; 14 R577): what the resets leave, and what the writes of registers do.
-/
namespace Sys2Proof.Machine

/-! ### Which update a register write is (00 R20; 14 R559, R570) -/

/-- What a register write finds: an access in a sapwood domain is a request to it, and starts its idle hold again (13 R531). -/
def reached (dom : Nat) (s : State) : State := if dom == domHeart then s.begun else restHold dom s.begun

/-- A write at an aligned offset of the window is the update of the register there, and its answer (12 R481; 14 R559). -/
theorem written_eq {off dom : Nat} (ha : alignOff off = off) (hid : fpId off = 0) (hd : regDomain off = some dom) (d : Nat)
    (s : State) : s.written off d = emit (.faceplate 0 0 false) (writeReg off d (reached dom s)) := by
  simp only [State.written, ha, hid, rested, hd, reached]

/-- The domain of the register at an offset of a partition block (14 R570). -/
def blockDomain (o : Nat) : Option Nat :=
  (blockTable.find? (fun e => decide (e.1 ≤ o) && decide (o < e.1 + 8 * e.2.1))).map (·.2.2.1)

theorem regDomain_block {p o : Nat} (hp : p < 64) (ho : o < 0x1000) :
    regDomain (0x10000 + 0x1000 * p + o) = blockDomain o := by
  have hin : inBlocks (0x10000 + 0x1000 * p + o) = true := by
    simp only [inBlocks, Bool.and_eq_true, decide_eq_true_eq]
    omega
  have hoff : blockOff (0x10000 + 0x1000 * p + o) = o := by
    simp only [blockOff]
    omega
  simp only [regDomain, hin, if_true, hoff, blockDomain]

theorem writeReg_block {p o : Nat} (hp : p < 64) (ho : o < 0x1000) (d : Nat) (s : State) :
    writeReg (0x10000 + 0x1000 * p + o) d s = writeBlock' p o d s := by
  have hin : inBlocks (0x10000 + 0x1000 * p + o) = true := by
    simp only [inBlocks, Bool.and_eq_true, decide_eq_true_eq]
    omega
  have hpart : blockPart (0x10000 + 0x1000 * p + o) = p := by
    simp only [blockPart]
    omega
  have hoff : blockOff (0x10000 + 0x1000 * p + o) = o := by
    simp only [blockOff]
    omega
  have h18 : ¬ 0x10000 + 0x1000 * p + o = 0x18 := by omega
  have hlow : ¬ 0x10000 + 0x1000 * p + o < 0x10000 := by omega
  simp only [writeReg, beq_iff_eq, h18, if_false, hlow, decide_false, Bool.false_eq_true, hin, if_true, hpart, hoff]

/-- A write in a partition's block is the update of that block's register (14 R570). The offset is written as a register's own
plus the block's, as the statements do. -/
theorem written_block {p o dom : Nat} (hp : p < 64) (ho : o < 0x1000) (ha : o % 8 = 0) (hd : blockDomain o = some dom)
    (d : Nat) (s : State) :
    s.written (0x10000 + o + 0x1000 * p) d = emit (.faceplate 0 0 false) (writeBlock' p o d (reached dom s)) := by
  have hoff : 0x10000 + o + 0x1000 * p = 0x10000 + 0x1000 * p + o := by omega
  have halign : alignOff (0x10000 + 0x1000 * p + o) = 0x10000 + 0x1000 * p + o := by
    simp only [alignOff]
    omega
  have hid : fpId (0x10000 + 0x1000 * p + o) = 0 := by
    simp only [fpId, fld]
    omega
  rw [hoff, written_eq halign hid ((regDomain_block hp ho).trans hd), writeReg_block hp ho]

/-! ### The resets (00 R19; 12 R502; 13 R540) -/

/-- A port after a cold reset: only the level of its link's state is left. -/
theorem coldStart_port (s : State) (x : Nat) : (coldStart s).port x = { isl := (s.port x).isl } := by
  simp only [State.port, coldStart, List.getD_eq_getElem?_getD, List.getElem?_map]
  cases s.ports[x]? <;> rfl

/-- RST_COLD is the cold start; a warm reset that is still asserted keeps the block in reset (12 R502). -/
theorem execRstCold_eq (s : State) :
    execRstCold s = .next { coldStart s with
      power := { State.reset.power with
        fastStable := s.power.fastStable, inReset := s.power.warmReset, warmReset := s.power.warmReset
        bothResets := s.power.warmReset && s.power.bothResets } } := by
  unfold execRstCold
  cases s.power.warmReset <;> rfl

theorem execResetAssert_eq (cold warm : Bool) (s : State) (h : (cold || warm) = true) :
    execResetAssert cold warm s = .next { s with
      outs := []
      power := { s.power with
        inReset := true, coldReset := s.power.coldReset || cold, warmReset := s.power.warmReset || warm
        bothResets := s.power.bothResets || ((s.power.coldReset || cold) && (s.power.warmReset || warm)) } } := by
  cases cold
  case true => rfl
  case false =>
    have hw : warm = true := h
    subst hw
    rfl

/-- A warm release beside an asserted cold reset only notes the level (12 R502). -/
theorem execRstWarm_cold (journal image : Blob) (s : State) (h : s.power.coldReset = true) :
    execRstWarm journal image s = .next { s with outs := [], power := { s.power with warmReset := false } } := by
  simp [execRstWarm, h]

/-- A warm release after both resets is the cold reset (12 R502). -/
theorem execRstWarm_both (journal image : Blob) (s : State) (hc : s.power.coldReset = false) (hb : s.power.bothResets = true) :
    execRstWarm journal image s = execRstCold { s with power := { s.power with warmReset := false } } := by
  simp only [execRstWarm, hc, hb, Bool.false_eq_true, if_false, if_true]
  rfl

/-- Settles O3, by what each reset command does in every state. -/
theorem coldResetFromAnyState : Obligations.ColdResetFromAnyState := by
  unfold Obligations.ColdResetFromAnyState
  refine ⟨fun s => ⟨_, execRstCold_eq s, ?_⟩, ?_, ?_⟩
  · have hport : ∀ x, (coldStart s).port x = { isl := (s.port x).isl } := coldStart_port s
    exact ⟨rfl, rfl, rfl, rfl, rfl, rfl, rfl, rfl, rfl, rfl, rfl, rfl, rfl, rfl, rfl, rfl, rfl, rfl, rfl, rfl, hport, rfl, rfl,
      rfl, rfl, rfl⟩
  · intro s cold warm h
    exact execResetAssert_eq cold warm s h
  · intro s journal image
    exact ⟨execRstWarm_cold journal image s, execRstWarm_both journal image s⟩

/-- Settles O4: each field of the reset state is its type's default. -/
theorem resetStateValues : Obligations.ResetStateValues := by
  unfold Obligations.ResetStateValues
  exact ⟨rfl, rfl, rfl, rfl, rfl, rfl, rfl, rfl, rfl, fun _ => ⟨rfl, rfl⟩, fun _ => rfl, reset_store_wf⟩

/-! ### The registers that only store (00 R17, R18) -/

/-- DISPATCH_CTRL takes 1 to 4 only (02 R115). -/
theorem writeBlock_dispatchCtrl (p d : Nat) (s : State) : writeBlock' p 0x000 d s =
    if 1 ≤ fld d 0 3 ∧ fld d 0 3 ≤ 4 then
      { s with tasks := { s.tasks with thresholds := Tbl.put s.tasks.thresholds p (fld d 0 3) } }
    else s := by
  change (if fld d 0 3 == 0 || decide (4 < fld d 0 3) then s else _) = _
  by_cases h : 1 ≤ fld d 0 3 ∧ fld d 0 3 ≤ 4
  · have hv : (fld d 0 3 == 0 || decide (4 < fld d 0 3)) = false := by simp; omega
    rw [hv, if_pos h]
    rfl
  · have hv : (fld d 0 3 == 0 || decide (4 < fld d 0 3)) = true := by simp; omega
    rw [hv, if_neg h, if_pos rfl]

theorem written_dispatchCtrl (s : State) (p d : Nat) (hp : p < 64) :
    (s.written (0x10000 + 0x1000 * p) d).threshold p =
        (if 1 ≤ fld d 0 3 ∧ fld d 0 3 ≤ 4 then fld d 0 3 else s.threshold p) ∧
      { s.written (0x10000 + 0x1000 * p) d with tasks := s.tasks, power := s.power, outs := s.outs, clock := s.clock } = s := by
  have hw : s.written (0x10000 + 0x1000 * p) d = emit (.faceplate 0 0 false) (writeBlock' p 0x000 d (reached swDispatch s)) :=
    written_block (o := 0x000) hp (by decide) rfl rfl d s
  rw [hw, writeBlock_dispatchCtrl]
  split
  · exact ⟨Tbl.at_put_same _ _ _ _, rfl⟩
  · exact ⟨rfl, rfl⟩

theorem written_serveCtrl (s : State) (p d : Nat) (hp : p < 64) :
    s.written (0x10010 + 0x1000 * p) d = emit (.faceplate 0 0 false)
      (modServe p (fun v => { v with enable := bit d 0, autoRelease := bit d 1, holdSteps := fld d 8 8 }) (reached swServe s)) :=
  written_block (o := 0x010) hp (by decide) rfl rfl d s

theorem written_serveFence (s : State) (p d : Nat) (hp : p < 64) :
    s.written (0x10018 + 0x1000 * p) d = emit (.faceplate 0 0 false)
      (modServe p (fun v => { v with fenceSeq := fld d 0 32, fenceStep := fld d 32 32, fenceWritten := true })
        (reached swServe s)) :=
  written_block (o := 0x018) hp (by decide) rfl rfl d s

theorem written_irqPart (s : State) (p d : Nat) (hp : p < 64) :
    s.written (0x10090 + 0x1000 * p) d = emit (.faceplate 0 0 false)
      (modHostq p (fun h => { h with cplEn := bit d 8, evtEn := bit d 9 }) s.begun) :=
  written_block (o := 0x090) hp (by decide) rfl rfl d s

@[simp] theorem serve_emit (o : Out) (s : State) (p : Nat) : (emit o s).serve p = s.serve p := rfl
@[simp] theorem hostq_emit (o : Out) (s : State) (p : Nat) : (emit o s).hostq p = s.hostq p := rfl
@[simp] theorem hostq_begun (s : State) (p : Nat) : s.begun.hostq p = s.hostq p := rfl

@[simp] theorem serve_reached (dom p : Nat) (s : State) : (reached dom s).serve p = s.serve p := by
  unfold reached
  split <;> rfl

/-- Settles O13: each of the writes is one field update, in a state that differs only in the idle hold of the register's domain. -/
theorem plainRegistersStore : Obligations.PlainRegistersStore := by
  unfold Obligations.PlainRegistersStore
  constructor
  · intro s d
    refine ⟨?_, ?_, ?_, ?_, ?_, ?_⟩
    · exact written_eq (dom := domHeart) rfl rfl rfl d s
    · exact written_eq (dom := domHeart) rfl rfl rfl d s
    · exact written_eq (dom := swBed) rfl rfl rfl d s
    · exact written_eq (dom := domHeart) rfl rfl rfl d s
    · exact written_eq (dom := domHeart) rfl rfl rfl d s
    · exact written_eq (dom := domHeart) rfl rfl rfl d s
  · intro s p d hp
    refine ⟨written_dispatchCtrl s p d hp, ?_, ?_, ?_, fun q hq => ?_⟩
    · rw [written_serveCtrl s p d hp]
      exact ⟨by simp, rfl⟩
    · rw [written_serveFence s p d hp]
      exact ⟨by simp, rfl⟩
    · rw [written_irqPart s p d hp]
      exact ⟨by simp, rfl⟩
    · rw [written_serveCtrl s p d hp, written_serveFence s p d hp]
      simp [serve_modServe_ne p q _ _ hq]

end Sys2Proof.Machine
end

section
/-!
What the bed controller, the link, the host rings and the serving units leave alone when the scope's registers set them to work.
-/
namespace Sys2Proof.Machine

/-! ### Loops -/

/-- A loop whose every round keeps a view of the state keeps it. -/
theorem foldl_keeps {α β : Type} (view : State → β) (f : State → α → State) (hf : ∀ s a, view (f s a) = view s) (l : List α)
    (s : State) : view (l.foldl f s) = view s := by
  induction l generalizing s with
  | nil => rfl
  | cons a l ih => rw [List.foldl_cons, ih, hf]

/-! ### What stands while units send, store and serve -/

/-- The units that neither bed nor link traffic nor serving work changes. -/
structure Standing where
  face : Face
  faults : Faults
  jigs : Jigs
  ctxs : Contexts
  image : Image
  reshape : Reshape

def State.standing (s : State) : Standing := ⟨s.face, s.faults, s.jigs, s.ctxs, s.image, s.reshape⟩

@[simp] theorem emit_standing (o : Out) (s : State) : (emit o s).standing = s.standing := rfl
@[simp] theorem later_standing (j : Job) (s : State) : (later j s).standing = s.standing := rfl
@[simp] theorem laters_standing (js : List Job) (s : State) : (laters js s).standing = s.standing := rfl
@[simp] theorem wakeUp_standing (d : Nat) (s : State) : (wakeUp d s).standing = s.standing := rfl
@[simp] theorem modPort_standing (i : Nat) (f : Port → Port) (s : State) : (modPort i f s).standing = s.standing := rfl
@[simp] theorem modHostq_standing (p : Nat) (f : HostQ → HostQ) (s : State) : (modHostq p f s).standing = s.standing := rfl
@[simp] theorem modServe_standing (p : Nat) (f : Serve → Serve) (s : State) : (modServe p f s).standing = s.standing := rfl
@[simp] theorem modStream_standing (p i : Nat) (f : Stream → Stream) (s : State) : (modStream p i f s).standing = s.standing := rfl
@[simp] theorem modPages_standing (p : Nat) (f : Pages → Pages) (s : State) : (modPages p f s).standing = s.standing := rfl
@[simp] theorem modEntry_standing (p i : Nat) (f : Page → Page) (s : State) : (modEntry p i f s).standing = s.standing := rfl

/-! ### The bed controller (12 R492 to R495) -/

/-- Nothing has changed but what a bed request changes: the bed itself, the block store, the domains' levels, and what is noted,
left to do and sent. -/
def BedOnly (s t : State) : Prop :=
  t = { s with power := t.power, bed := t.bed, store := t.store, fresh := t.fresh, outs := t.outs, work := t.work }

theorem BedOnly.trans {s t u : State} (hst : BedOnly s t) (htu : BedOnly t u) : BedOnly s u :=
  calc u = { t with
        power := u.power, bed := u.bed, store := u.store, fresh := u.fresh, outs := u.outs, work := u.work } := htu
    _ = { s with
        power := u.power, bed := u.bed, store := u.store, fresh := u.fresh, outs := u.outs, work := u.work } := by rw [hst]

theorem BedOnly.standing {s t : State} (h : BedOnly s t) : t.standing = s.standing := by
  rw [h]
  rfl

theorem BedOnly.sync {s t : State} (h : BedOnly s t) : t.sync = s.sync := by rw [h]

theorem bedOnly_wakeUp (d : Nat) (s : State) : BedOnly s (wakeUp d s) := rfl

theorem bedOnly_later (j : Job) (s : State) : BedOnly s (later j s) := rfl

theorem bedOnly_bed (s : State) (b : Bed) : BedOnly s { s with bed := b } := rfl

theorem bedOnly_startRead (tag : Nat) (r : BedRead) (s : State) : BedOnly s (startRead tag r s) := by
  unfold startRead
  dsimp only
  split <;> rfl

theorem bedOnly_drainReads (k : Nat) (s : State) : BedOnly s (drainReads k s) := by
  induction k generalizing s with
  | zero => rfl
  | succ k ih =>
    unfold drainReads
    split
    case h_1 tag r l _ _ =>
      exact ((bedOnly_bed s _).trans (bedOnly_startRead tag r _)).trans (ih _)
    case h_2 => rfl

theorem bedOnly_moreReads (s : State) : BedOnly s (moreReads s) := by
  unfold moreReads
  split
  · rfl
  · exact bedOnly_drainReads 512 s

theorem bedOnly_drainWrites (k : Nat) (s : State) : BedOnly s (drainWrites k s) := by
  induction k generalizing s with
  | zero => rfl
  | succ k ih =>
    unfold drainWrites
    split
    case h_1 tag w rest _ _ =>
      have hstart : BedOnly s (startWrite tag w.head { s with bed := { s.bed with writeWait := w.rest ++ rest } }) := rfl
      exact hstart.trans (ih _)
    case h_2 => rfl

theorem bedOnly_moreWrites (s : State) : BedOnly s (moreWrites s) := by
  unfold moreWrites
  split
  · rfl
  · exact bedOnly_drainWrites 512 s

theorem bedOnly_issueReads (why : ReadFor) (spans : List (Nat × Nat)) (p c : Nat) (sys : Bool) (s : State) :
    BedOnly s (issueReads why spans p c sys s) := by
  unfold issueReads
  extract_lets bad rs t bed s' s''
  have hs'' : BedOnly s s'' := by
    unfold s''
    split <;> rfl
  exact (hs''.trans (bedOnly_wakeUp swBed s'')).trans (bedOnly_moreReads _)

theorem bedOnly_issueWrite (why : WriteFor) (addr : Nat) (data : Blob) (p c : Nat) (sys : Bool) (s : State) :
    BedOnly s (issueWrite why addr data p c sys s) := by
  unfold issueWrite
  extract_lets bad bed s₁ s₂ bed₂
  split
  extract_lets part s₃ w
  have h₂ : BedOnly s s₂ := by
    unfold s₂
    split <;> rfl
  have h₃ : BedOnly s s₃ := h₂.trans rfl
  split
  · split
    · exact h₃
    · exact h₃.trans (bedOnly_later _ s₃)
  · split
    · split
      · exact h₂
      · exact h₂.trans (bedOnly_later _ s₂)
    · exact (h₂.trans (bedOnly_bed s₂ _)).trans (bedOnly_moreWrites _)

@[simp] theorem issueReads_standing (why : ReadFor) (spans : List (Nat × Nat)) (p c : Nat) (sys : Bool) (s : State) :
    (issueReads why spans p c sys s).standing = s.standing := (bedOnly_issueReads why spans p c sys s).standing

@[simp] theorem issueWrite_standing (why : WriteFor) (addr : Nat) (data : Blob) (p c : Nat) (sys : Bool) (s : State) :
    (issueWrite why addr data p c sys s).standing = s.standing := (bedOnly_issueWrite why addr data p c sys s).standing

/-! ### Host rings and links (07 R321, R322; 12 R521) -/

@[simp] theorem pumpHostq_standing (p : Nat) (s : State) : (pumpHostq p s).standing = s.standing := by
  unfold pumpHostq
  dsimp only
  split
  · split <;> simp [judgeCpl]
  · simp [judgeCpl]

@[simp] theorem putCompletion_standing (p body : Nat) (s : State) : (putCompletion p body s).standing = s.standing := by
  unfold putCompletion
  split <;> simp

@[simp] theorem putEvent_standing (p body : Nat) (s : State) : (putEvent p body s).standing = s.standing := by
  unfold putEvent
  split
  · rfl
  · dsimp only
    split <;> simp [dropEvent]

@[simp] theorem sendOn_standing (x : Nat) (m : TxMsg) (s : State) : (sendOn x m s).standing = s.standing := by
  unfold sendOn
  split <;> simp

@[simp] theorem sendTo_standing (dest : Nat) (m : TxMsg) (s : State) : (sendTo dest m s).standing = s.standing := by
  unfold sendTo
  split <;> simp

@[simp] theorem sendEvent_standing (type p c body : Nat) (s : State) : (sendEvent type p c body s).standing = s.standing := by
  unfold sendEvent
  dsimp only
  split
  · rfl
  · split <;> simp

@[simp] theorem tellOthers_standing (kind p c fault : Nat) (s : State) :
    (tellOthers kind p c fault s).standing = s.standing := by
  unfold tellOthers
  split
  · exact foldl_keeps State.standing _ (fun s code => sendTo_standing code _ s) _ s
  · split <;> simp

/-! ### Streams and pages (04 R167, R175; 05 R236) -/

@[simp] theorem updStream_standing (p i : Nat) (f : Stream → Stream) (s : State) : (updStream p i f s).standing = s.standing := rfl
@[simp] theorem unqueue_standing (p i : Nat) (s : State) : (unqueue p i s).standing = s.standing := rfl
@[simp] theorem updPage_standing (p i : Nat) (f : Page → Page) (s : State) : (updPage p i f s).standing = s.standing := rfl

@[simp] theorem requeue_standing (p i : Nat) (s : State) : (requeue p i s).standing = s.standing := by
  unfold requeue
  dsimp only
  split
  · split <;> simp
  · simp

@[simp] theorem savePage_standing (p i : Nat) (s : State) : (savePage p i s).standing = s.standing := by simp [savePage]

@[simp] theorem setRefcount_standing (p i n : Nat) (s : State) : (setRefcount p i n s).standing = s.standing := by
  unfold setRefcount
  dsimp only
  split <;> simp

@[simp] theorem dropRef_standing (p i : Nat) (s : State) : (dropRef p i s).standing = s.standing := by
  unfold dropRef
  dsimp only
  split
  · split <;> simp
  · simp

@[simp] theorem releasePages_standing (p i : Nat) (s : State) : (releasePages p i s).standing = s.standing := by
  simp [releasePages, foldl_keeps State.standing _ (fun s k => dropRef_standing p k s)]

@[simp] theorem releaseStream_standing (p i : Nat) (s : State) : (releaseStream p i s).standing = s.standing := by
  unfold releaseStream
  split <;> simp [saveProvenance]

@[simp] theorem settleStream_standing (p i : Nat) (s : State) : (settleStream p i s).standing = s.standing := by
  unfold settleStream
  dsimp only
  split <;> simp

@[simp] theorem releaseHeld_standing (p : Nat) (s : State) : (releaseHeld p s).standing = s.standing := by
  unfold releaseHeld
  refine foldl_keeps State.standing _ (fun s x => ?_) _ s
  dsimp only
  split <;> simp

end Sys2Proof.Machine
end

section
/-!
What a launch by doorbell leaves (03 R126, R160), and what RESHAPE_STATUS and its neighbours report after an abort (11 R463, R476).
-/
namespace Sys2Proof.Machine

/-! ### Launches by doorbell -/

/-- The jig unit with one launch more, which is counted (03 R126, R161). -/
def Jigs.launched (j : Jigs) (l : Launch) : Jigs :=
  { j with
    launchesCount := wrapAdd j.launchesCount 1 64, nextLaunch := j.nextLaunch + 1
    launches := Tbl.put j.launches j.nextLaunch l }

theorem startLaunch_standing (owner : LaunchOwner) (p c epoch addr param : Nat) (s : State) :
    (startLaunch owner p c epoch addr param s).standing = { s.standing with
      jigs := s.jigs.launched
        { part := p, ctx := c, epoch := epoch, owner := owner, paramPtr := param, order := s.jigs.nextLaunch
          statusTask := 2 ^ 32 } } := by
  unfold startLaunch issueRead
  exact issueReads_standing _ _ _ _ _ _

@[simp] theorem ctxConfigured_countLaunch (p c : Nat) (s : State) : (countLaunch s).ctxConfigured p c = s.ctxConfigured p c := rfl
@[simp] theorem gone_countLaunch (p c : Nat) (s : State) : (countLaunch s).gone p c = s.gone p c := rfl

/-- A doorbell for a context without a record starts no launch, is counted, and enters a fault (03 R126). -/
theorem ringDoorbell_unconfigured (p d : Nat) (s : State) (hc : s.ctxConfigured p (fld d 52 5) = false) :
    (ringDoorbell p d s).standing = (enter fltJigNode srcJig p (fld d 52 5) 0 0 false (countLaunch s)).standing := by
  simp [ringDoorbell, hc, launchDoneRecord]

/-- A doorbell for a parted context starts no launch, and is counted (03 R126). -/
theorem ringDoorbell_gone (p d : Nat) (s : State) (hc : s.ctxConfigured p (fld d 52 5) = true)
    (hg : s.gone p (fld d 52 5) = true) : (ringDoorbell p d s).standing = (countLaunch s).standing := by
  simp [ringDoorbell, hc, hg, launchDoneRecord]

theorem ringDoorbell_launches (p d : Nat) (s : State) (hc : s.ctxConfigured p (fld d 52 5) = true)
    (hg : s.gone p (fld d 52 5) = false) :
    ringDoorbell p d s =
      startLaunch (.doorbell (fld d 0 52)) p (fld d 52 5) (s.image.epoch % 256) (fld d 0 52) 0 s := by
  simp [ringDoorbell, hc, hg]

/-- The launch that a doorbell starts (03 R126). -/
def State.doorbellLaunch (s : State) (p d : Nat) : Launch :=
  { part := p, ctx := fld d 52 5, epoch := s.image.epoch % 256, owner := .doorbell (fld d 0 52), order := s.jigs.nextLaunch
    statusTask := 2 ^ 32 }

theorem ringDoorbell_launched (p d : Nat) (s : State) (hc : s.ctxConfigured p (fld d 52 5) = true)
    (hg : s.gone p (fld d 52 5) = false) :
    (ringDoorbell p d s).standing = { s.standing with jigs := s.jigs.launched (s.doorbellLaunch p d) } := by
  rw [ringDoorbell_launches p d s hc hg]
  exact startLaunch_standing _ p _ _ _ 0 s

/-! ### What an abort reports -/

/-- The phase, the result and the wait of RESHAPE_STATUS, its interrupt, the count of aborts, and the banks that are being
written. -/
def Standing.report (v : Standing) : Nat × Nat × Bool × Bool × Nat × List Nat :=
  (v.reshape.phase, v.reshape.result, v.reshape.olderWait, v.face.reshapeDone, v.image.aborts, v.image.busy)

def State.report (s : State) : Nat × Nat × Bool × Bool × Nat × List Nat := s.standing.report

theorem report_of_standing {s t : State} (h : t.standing = s.standing) : t.report = s.report := congrArg Standing.report h

@[simp] theorem issueWrite_report (why : WriteFor) (addr : Nat) (data : Blob) (p c : Nat) (sys : Bool) (s : State) :
    (issueWrite why addr data p c sys s).report = s.report := report_of_standing (issueWrite_standing why addr data p c sys s)

@[simp] theorem sendTo_report (dest : Nat) (m : TxMsg) (s : State) : (sendTo dest m s).report = s.report :=
  report_of_standing (sendTo_standing dest m s)

@[simp] theorem releaseHeld_report (p : Nat) (s : State) : (releaseHeld p s).report = s.report :=
  report_of_standing (releaseHeld_standing p s)

@[simp] theorem later_report (j : Job) (s : State) : (later j s).report = s.report := rfl
@[simp] theorem laters_report (js : List Job) (s : State) : (laters js s).report = s.report := rfl
@[simp] theorem forgetJig_report (slot : Nat) (s : State) : (forgetJig slot s).report = s.report := rfl
@[simp] theorem takeDigest_report (ps : List Nat) (s : State) : (takeDigest ps s).report = s.report := rfl
@[simp] theorem bodies_report (b : Tbl Nat) (s : State) :
    State.report { s with image := { s.image with bodies := b } } = s.report := rfl

theorem ringDoorbell_report (p d : Nat) (s : State) : (ringDoorbell p d s).report = s.report := by
  cases hc : s.ctxConfigured p (fld d 52 5)
  case false => exact (congrArg Standing.report (ringDoorbell_unconfigured p d s hc)).trans rfl
  case true =>
    cases hg : s.gone p (fld d 52 5)
    case true => exact (congrArg Standing.report (ringDoorbell_gone p d s hc hg)).trans rfl
    case false => exact (congrArg Standing.report (ringDoorbell_launched p d s hc hg)).trans rfl

@[simp] theorem ringHeld_report (s : State) : (ringHeld s).report = s.report := by
  have hrung := foldl_keeps State.report (fun (s : State) (e : Nat × Nat) => ringDoorbell e.1 e.2 s)
    (fun s e => ringDoorbell_report e.1 e.2 s) s.reshape.doorbells { s with reshape := { s.reshape with doorbells := [] } }
  exact hrung.trans rfl

@[simp] theorem loadContexts_report (p : Nat) (s : State) : (loadContexts p s).report = s.report :=
  foldl_keeps State.report (fun s c => modCtx p c (fun x => { x with st := s.loadState p c }) s) (fun _ _ => rfl) _ s

@[simp] theorem resumeParts_report (ps : List Nat) (s : State) : (resumeParts ps s).report = s.report := by
  have hparts := foldl_keeps State.report (fun s p => s |> loadContexts p |> releaseHeld p |> later (.place p))
    (fun s p => by simp) ps (takeDigest ps s)
  simpa [resumeParts] using hparts

@[simp] theorem writeData_report (r : Rec) (s : State) : (writeData r s).report = s.report := by simp [writeData, loaderWrite]

@[simp] theorem writeJig_report (r : Rec) (a : Nat) (s : State) : (writeJig r a s).report = s.report := by
  simp [writeJig, loaderWrite]

@[simp] theorem writeJigs_report (l : List (Rec × Nat)) (s : State) : (writeJigs l s).report = s.report :=
  foldl_keeps State.report (fun (s : State) (e : Rec × Nat) => writeJig e.1 e.2 s) (fun s e => writeJig_report e.1 e.2 s) l s

@[simp] theorem dropJigs_report (slots : List Nat) (s : State) : (dropJigs slots s).report = s.report := by
  refine foldl_keeps State.report _ (fun s slot => ?_) slots s
  simp [loaderWrite]

@[simp] theorem writeParts_report (mask : Nat) (rs : List Rec) (s : State) : (writeParts mask rs s).report = s.report := by
  have hdata (l : List Rec) : (l.foldl (fun s r => writeData r s) s).report = s.report :=
    foldl_keeps State.report _ (fun s r => writeData_report r s) l s
  unfold writeParts
  dsimp only
  split <;> simp [hdata]

@[simp] theorem reinitParts_report (ps : List Nat) (rs : List Rec) (s : State) : (reinitParts ps rs s).report = s.report :=
  foldl_keeps State.report (fun s id => setWaiter id {} s) (fun _ _ => rfl) _ s

@[simp] theorem resetParts_report (ps : List Nat) (rs : List Rec) (s : State) : (resetParts ps rs s).report = s.report :=
  reinitParts_report ps rs s

@[simp] theorem writeJournal_report (phase : Nat) (s : State) : (writeJournal phase s).report = s.report :=
  issueWrite_report _ _ _ _ _ _ _

@[simp] theorem sendReshape_report (dest payload : Nat) (s : State) : (sendReshape dest payload s).report = s.report := by
  unfold sendReshape
  split
  · simp
  · rfl

@[simp] theorem flood_report (op : Nat) (s : State) : (flood op s).report = s.report :=
  foldl_keeps State.report _ (fun s _ => sendReshape_report _ _ s) _ s

/-- An abort ends the reshape in progress, and is counted (11 R463, R476). -/
theorem abortHere_report (s : State) :
    (abortHere s).report = (0, 2, false, true, wrapAdd s.image.aborts 1 64, []) := by
  have hfinish (t : State) : (finishReshape 2 t).report = (0, 2, false, true, t.image.aborts, t.image.busy) := rfl
  unfold abortHere
  extract_lets r back image power s₁ s₂ s₃
  have h₃ : s₃.report = s₁.report := by
    unfold s₃ s₂
    split <;> simp
  simp only [resumeParts_report, flood_report, writeJournal_report, h₃]
  exact hfinish _

end Sys2Proof.Machine
end

section
/-!
Reads and writes that the bed controller has been asked for are outstanding or wait (12 R494).
-/
namespace Sys2Proof.Machine

/-! ### Tables and lists that grow -/

theorem Tbl.mem_put_self {α : Type} (t : Tbl α) (i : Nat) (x : α) : (i, x) ∈ Tbl.put t i x := by
  induction t with
  | nil => simp [Tbl.put]
  | cons e t ih =>
    simp only [Tbl.put]
    split
    · simp
    · split
      · simp
      · simp [ih]

/-- Putting an element at a free index loses none. -/
theorem Tbl.mem_put_of_free {α : Type} (t : Tbl α) (i : Nat) (x : α) (h : Tbl.find t i = none) (e : Nat × α) (he : e ∈ t) :
    e ∈ Tbl.put t i x := by
  induction t with
  | nil => simp at he
  | cons a t ih =>
    obtain ⟨j, y⟩ := a
    simp only [Tbl.find] at h
    simp only [Tbl.put]
    by_cases hj : (j == i) = true
    · rw [if_pos hj] at h
      exact absurd h (by simp)
    · rw [if_neg hj] at h ⊢
      by_cases hi : i < j
      · rw [if_pos hi]
        exact List.mem_cons_of_mem _ he
      · rw [if_neg hi] at h ⊢
        cases he with
        | head => exact List.mem_cons_self
        | tail _ ht => exact List.mem_cons_of_mem _ (ih h ht)

theorem Tbl.find_lowestFree {α : Type} (t : Tbl α) (n i : Nat) (h : Tbl.lowestFree t n = some i) : Tbl.find t i = none := by
  simpa using List.find?_some h

theorem mem_insertBy {α : Type} (le : α → α → Bool) (x : α) (l : List α) : x ∈ insertBy le x l := by
  induction l with
  | nil => simp [insertBy]
  | cons y t ih =>
    simp only [insertBy]
    split <;> simp [ih]

/-- Bytes inside the bed window are asked for as they are. -/
theorem clip_of_inWindow (s : State) (addr len : Nat) (h : s.inWindow addr len = true) : s.clip addr len = (addr, len) := by
  simp only [State.inWindow, Bool.and_eq_true, decide_eq_true_eq] at h
  simp only [State.clip, Prod.mk.injEq]
  omega

/-! ### Reads -/

/-- A read for a purpose from an address on is outstanding or waits. -/
def State.readsFrom (s : State) (why : ReadFor) (addr : Nat) : Prop :=
  ∃ r ∈ s.bed.reads.map (·.2) ++ s.bed.readWait, r.why = why ∧ r.addr = addr

/-- What waits and is not picked still waits; what is picked goes out with its first granule. -/
theorem pickRead_keeps (s : State) (l l' : List BedRead) (r x : BedRead) (h : s.pickRead l = some (r, l')) (hx : x ∈ l) :
    x ∈ l' ∨ (r.why = x.why ∧ r.addr = x.addr) := by
  induction l generalizing l' with
  | nil => simp at hx
  | cons y l ih =>
    simp only [State.pickRead] at h
    split at h
    · obtain ⟨⟨r₀, l₀⟩, hpick, hr⟩ := Option.map_eq_some_iff.mp h
      simp only [Prod.mk.injEq] at hr
      obtain ⟨rfl, rfl⟩ := hr
      cases hx with
      | head => exact .inl List.mem_cons_self
      | tail _ hx => exact (ih l₀ hpick hx).imp (List.mem_cons_of_mem _) id
    · simp only [Option.some.injEq, Prod.mk.injEq] at h
      obtain ⟨rfl, rfl⟩ := h
      cases hx with
      | head => exact .inr ⟨rfl, rfl⟩
      | tail _ hx => exact .inl (List.mem_append_right _ hx)

theorem startRead_bed (tag : Nat) (r : BedRead) (s : State) :
    (startRead tag r s).bed = { s.bed with reads := Tbl.put s.bed.reads tag r } := by
  unfold startRead
  dsimp only
  split <;> rfl

theorem drainReads_readsFrom (k : Nat) (s : State) (why : ReadFor) (addr : Nat) (h : s.readsFrom why addr) :
    (drainReads k s).readsFrom why addr := by
  induction k generalizing s with
  | zero => exact h
  | succ k ih =>
    unfold drainReads
    split
    case h_1 tag r l htag hpick =>
      apply ih
      have hfree := Tbl.find_lowestFree _ _ _ htag
      obtain ⟨x, hx, hwhy, haddr⟩ := h
      simp only [State.readsFrom, startRead_bed]
      rcases List.mem_append.mp hx with hx | hx
      · obtain ⟨e, he, rfl⟩ := List.mem_map.mp hx
        have he := Tbl.mem_put_of_free s.bed.reads tag r hfree e he
        exact ⟨e.2, List.mem_append_left _ (List.mem_map_of_mem he), hwhy, haddr⟩
      · rcases pickRead_keeps s _ l r x hpick hx with hx | ⟨hw, ha⟩
        · exact ⟨x, List.mem_append_right _ hx, hwhy, haddr⟩
        · have hr := Tbl.mem_put_self s.bed.reads tag r
          exact ⟨r, List.mem_append_left _ (List.mem_map_of_mem hr), hw.trans hwhy, ha.trans haddr⟩
    case h_2 => exact h

theorem moreReads_readsFrom (s : State) (why : ReadFor) (addr : Nat) (h : s.readsFrom why addr) :
    (moreReads s).readsFrom why addr := by
  unfold moreReads
  split
  · exact h
  · exact drainReads_readsFrom 512 s why addr h

/-- A read inside the window is asked for. -/
theorem issueRead_readsFrom (why : ReadFor) (addr len p c : Nat) (sys : Bool) (s : State) (hw : s.inWindow addr len = true)
    (hl : len ≠ 0) : (issueRead why addr len p c sys s).readsFrom why addr := by
  unfold issueRead issueReads
  extract_lets bad rs t bed s' s''
  have hrs : ∃ r, rs = [r] ∧ r.why = why ∧ r.addr = addr := by
    simp only [rs, State.spanReads, clip_of_inWindow s addr len hw, beq_iff_eq, hl, if_false, List.append_nil, List.cons.injEq,
      and_true, exists_eq_left']
  obtain ⟨r, hrs, hwhy, haddr⟩ := hrs
  have hmem : r ∈ s''.bed.readWait := by
    have hbed : s''.bed = s'.bed := by
      unfold s''
      split <;> rfl
    simp only [hbed, s', hrs, List.foldl_cons, List.foldl_nil]
    exact mem_insertBy _ r _
  exact moreReads_readsFrom _ why addr ⟨r, List.mem_append_right _ hmem, hwhy, haddr⟩

/-! ### Writes -/

/-- A write for a purpose from an address on is outstanding or waits. -/
def State.writesFrom (s : State) (why : WriteFor) (addr : Nat) : Prop :=
  ∃ w ∈ s.bed.writes.map (·.2) ++ s.bed.writeWait, w.why = why ∧ w.addr = addr

theorem drainWrites_writesFrom (k : Nat) (s : State) (why : WriteFor) (addr : Nat) (h : s.writesFrom why addr) :
    (drainWrites k s).writesFrom why addr := by
  induction k generalizing s with
  | zero => exact h
  | succ k ih =>
    unfold drainWrites
    split
    case h_1 tag w rest htag hwait =>
      apply ih
      have hfree := Tbl.find_lowestFree _ _ _ htag
      have hhead : w.head ∈ (Tbl.put s.bed.writes tag w.head).map (·.2) :=
        List.mem_map_of_mem (Tbl.mem_put_self s.bed.writes tag w.head)
      obtain ⟨x, hx, hwhy, haddr⟩ := h
      rw [hwait] at hx
      rcases List.mem_append.mp hx with hx | hx
      · obtain ⟨e, he, rfl⟩ := List.mem_map.mp hx
        have he := Tbl.mem_put_of_free s.bed.writes tag w.head hfree e he
        exact ⟨e.2, List.mem_append_left _ (List.mem_map_of_mem he), hwhy, haddr⟩
      · cases hx with
        | head => exact ⟨w.head, List.mem_append_left _ hhead, hwhy, haddr⟩
        | tail _ hx => exact ⟨x, List.mem_append_right _ (List.mem_append_right _ hx), hwhy, haddr⟩
    case h_2 => exact h

theorem moreWrites_writesFrom (s : State) (why : WriteFor) (addr : Nat) (h : s.writesFrom why addr) :
    (moreWrites s).writesFrom why addr := by
  unfold moreWrites
  split
  · exact h
  · exact drainWrites_writesFrom 512 s why addr h

/-- A write inside the window of a build with a bed port is asked for. -/
theorem issueWrite_writesFrom (why : WriteFor) (addr : Nat) (data : Blob) (p c : Nat) (sys : Bool) (s : State)
    (hw : s.inWindow addr data.len = true) (hl : data.len ≠ 0) (hb : s.hasBed = true) :
    (issueWrite why addr data p c sys s).writesFrom why addr := by
  unfold issueWrite
  extract_lets bad bed s₁ s₂ bed₂
  split
  case h_1 lo n hclip =>
    rw [clip_of_inWindow s addr data.len hw] at hclip
    obtain ⟨rfl, rfl⟩ := Prod.mk.inj hclip
    extract_lets part s₃ w
    have hs₂ : s₂ = s₁ := if_neg (by simp [bad, hw])
    have hbed : (!s₂.hasBed) = false := by
      rw [hs₂]
      exact (congrArg not hb).trans rfl
    have hlen : (data.len == 0) = false := beq_eq_false_iff_ne.mpr hl
    simp only [hbed, hlen, Bool.false_eq_true, if_false]
    exact moreWrites_writesFrom _ why addr ⟨w, List.mem_append_right _ (List.mem_append_right _ List.mem_cons_self), rfl, rfl⟩

end Sys2Proof.Machine
end

section
/-!
What the writes of the scope's registers do, and the statement about all of them (00 R17; 14 R577).
-/
namespace Sys2Proof.Machine

/-! ### Every register write is carried out and answered -/

theorem endWrite_cases (off : Nat) (s : State) : ∃ t, endWrite off s = .next t ∧ (t = s ∨ t = finished s) := by
  unfold endWrite endQuiet
  split
  · split
    · exact ⟨s, rfl, .inl rfl⟩
    · exact ⟨finished s, rfl, .inr rfl⟩
  · exact ⟨finished s, rfl, .inr rfl⟩

/-- A write that reaches its register takes effect at once, and the follow-on work of it is done. -/
theorem exec_regWrite_reaches (s : State) (c : Instr) (off data : Nat) (hc : regWriteOf c = some (off, data)) (ha : s.awake)
    (hr : s.reaches off) : ∃ t, exec c s = .next t ∧ (t = s.written off data ∨ t = finished (s.written off data)) := by
  obtain ⟨hundef, hreset, -⟩ := ha
  have hwrite : exec c s = endWrite off (s.written off data) := by
    rw [exec_regWrite c off data s hc, writeCommand, atFace_live s _ hundef hreset, fpWrite_reaches off data s hr]
  rw [hwrite]
  exact endWrite_cases off (s.written off data)

theorem written_answered (s : State) (off data : Nat) :
    (s.written off data).outs.getLast? = some (.faceplate (fpId off) 0 false) := by
  simp [State.written, emit]

/-! ### Partition blocks (14 R570) -/

section
variable (s : State) (p d : Nat) (hp : p < 64)
include hp

theorem written_launchDoorbell : s.written (0x10008 + 0x1000 * p) d =
    emit (.faceplate 0 0 false) (doorbell p d (restHold swJig s.begun)) :=
  written_block (o := 0x008) hp (by decide) rfl rfl d s

theorem written_stepRelease : s.written (0x10020 + 0x1000 * p) d =
    emit (.faceplate 0 0 false) (releaseStep p (fld d 0 32) (restHold swServe s.begun)) :=
  written_block (o := 0x020) hp (by decide) rfl rfl d s

theorem written_intakeDoorbell : s.written (0x10028 + 0x1000 * p) d =
    emit (.faceplate 0 0 false) (if bit d 0 then wakeUp swServe s.begun else s.begun) :=
  written_block (o := 0x028) hp (by decide) rfl rfl d s

theorem written_pageWarm : s.written (0x10038 + 0x1000 * p) d =
    emit (.faceplate 0 0 false) (queueWarm p (fld d 0 20) (restHold swServe s.begun)) :=
  written_block (o := 0x038) hp (by decide) rfl rfl d s

theorem written_detBoundary : s.written (0x10050 + 0x1000 * p) d =
    emit (.faceplate 0 0 false) (if bit d 0 then askBoundary p s.begun else s.begun) :=
  written_block (o := 0x050) hp (by decide) rfl rfl d s

theorem written_ctxCtrl : s.written (0x10058 + 0x1000 * p) d = emit (.faceplate 0 0 false) (ctxControl p d s.begun) :=
  written_block (o := 0x058) hp (by decide) rfl rfl d s

end

/-! ### The other registers -/

/-- SYNC_DBG_SEL names the object to show (06 R280). -/
def dbgSelected (d : Nat) (s : State) : State :=
  { restHold swSync s.begun with sync := { s.sync with dbgObject := fld d 0 16, dbgKind := bit d 16 } }

theorem written_syncDbgSel (s : State) (d : Nat) :
    s.written 0x50000 d = emit (.faceplate 0 0 false) (latchObject (dbgSelected d s)) :=
  written_eq (dom := swSync) rfl rfl rfl d s

theorem written_syncDump (s : State) (d : Nat) :
    s.written 0x50038 d = emit (.faceplate 0 0 false) (startDump (fld d 0 52) (restHold swSync s.begun)) :=
  written_eq (dom := swSync) rfl rfl rfl d s

/-- FAULT_SEL names the entry to show (13 R558). -/
def faultSelected (d : Nat) (s : State) : State := { s.begun with faults := { s.faults with selSeq := fld d 0 16 } }

theorem written_faultSel (s : State) (d : Nat) :
    s.written 0xE0008 d = emit (.faceplate 0 0 false) (showFault (faultSelected d s)) :=
  written_eq (dom := domHeart) rfl rfl rfl d s

theorem written_imageLoad (s : State) : s.written 0xC0010 1 = emit (.faceplate 0 0 false) (startLoad s.begun) :=
  written_eq (dom := domHeart) rfl rfl rfl 1 s

theorem written_reshapeStart (s : State) : s.written 0xC0010 2 = emit (.faceplate 0 0 false) (startReshape s.begun) :=
  written_eq (dom := domHeart) rfl rfl rfl 2 s

theorem written_reshapeAbort (s : State) : s.written 0xC0010 4 = emit (.faceplate 0 0 false) (requestAbort s.begun) :=
  written_eq (dom := domHeart) rfl rfl rfl 4 s

/-! ### What the updates do: LAUNCH_DOORBELL (03 R126; 11 R460) -/

theorem doorbell_draining (p d : Nat) (s : State) (h : s.draining p = true) :
    (doorbell p d s).jigs = s.jigs ∧
      (doorbell p d s).reshape = (if s.reshape.doorbells.length < 16 then
        { s.reshape with doorbells := s.reshape.doorbells ++ [(p, d)] } else { s.reshape with doorbellDrop := true }) := by
  simp only [doorbell, h, if_true]
  split <;> exact ⟨rfl, rfl⟩

theorem doorbell_rings (p d : Nat) (s : State) (h : s.draining p = false) : doorbell p d s = ringDoorbell p d s := by
  simp [doorbell, h]

/-- A doorbell never touches the reshape, and is counted whatever its context (03 R161). -/
theorem ringDoorbell_counted (p d : Nat) (s : State) : (ringDoorbell p d s).reshape = s.reshape ∧
    (ringDoorbell p d s).jigs.launchesCount = (s.jigs.launchesCount + 1) % 2 ^ 64 := by
  have hof (v : Standing) (h : (ringDoorbell p d s).standing = v) (hr : v.reshape = s.reshape)
      (hj : v.jigs.launchesCount = (s.jigs.launchesCount + 1) % 2 ^ 64) :
      (ringDoorbell p d s).reshape = s.reshape ∧
        (ringDoorbell p d s).jigs.launchesCount = (s.jigs.launchesCount + 1) % 2 ^ 64 :=
    ⟨(congrArg Standing.reshape h).trans hr, (congrArg (·.jigs.launchesCount) h).trans hj⟩
  cases hc : s.ctxConfigured p (fld d 52 5)
  case false => exact hof _ (ringDoorbell_unconfigured p d s hc) rfl rfl
  case true =>
    cases hg : s.gone p (fld d 52 5)
    case true => exact hof _ (ringDoorbell_gone p d s hc hg) rfl rfl
    case false => exact hof _ (ringDoorbell_launched p d s hc hg) rfl rfl

/-- A doorbell for a context that stands starts the next launch, and reads its record where that lies in the window. -/
theorem ringDoorbell_starts (p d : Nat) (s : State) (hc : s.ctxConfigured p (fld d 52 5) = true)
    (hg : s.gone p (fld d 52 5) = false) :
    let t := ringDoorbell p d s
    t.jigs.nextLaunch = s.jigs.nextLaunch + 1 ∧ t.faults = s.faults ∧
      (∀ i, i ≠ s.jigs.nextLaunch → t.launch i = s.launch i) ∧
      t.launch s.jigs.nextLaunch = s.doorbellLaunch p d ∧
      (s.inWindow (fld d 0 52) 32 = true → t.readsFrom (.launch s.jigs.nextLaunch) (fld d 0 52)) := by
  intro t
  have ht : t.standing = { s.standing with jigs := s.jigs.launched (s.doorbellLaunch p d) } := ringDoorbell_launched p d s hc hg
  have hjigs : t.jigs = s.jigs.launched (s.doorbellLaunch p d) := congrArg Standing.jigs ht
  refine ⟨congrArg Jigs.nextLaunch hjigs, congrArg Standing.faults ht, fun i hi => ?_, ?_, fun hw => ?_⟩
  · simp only [State.launch, hjigs]
    exact Tbl.at_put_ne _ _ _ _ _ hi
  · simp only [State.launch, hjigs]
    exact Tbl.at_put_same _ _ _ _
  · have hread : t = startLaunch _ p _ _ _ 0 s := ringDoorbell_launches p d s hc hg
    rw [hread]
    exact issueRead_readsFrom _ (fld d 0 52) 32 p _ false _ hw (by decide)

theorem ringDoorbell_unconfigured_effect (p d : Nat) (s : State) (hc : s.ctxConfigured p (fld d 52 5) = false) :
    (ringDoorbell p d s).jigs.launches = s.jigs.launches ∧
      ∃ e : FaultEntry, e.value = fltJigNode ∧ e.partition = p ∧ e.context = fld d 52 5 ∧ e.transient = false ∧
        (ringDoorbell p d s).faults = { s.faults with unnumbered := s.faults.unnumbered ++ [e] } := by
  have h := ringDoorbell_unconfigured p d s hc
  exact ⟨congrArg (·.jigs.launches) h, _, rfl, rfl, rfl, rfl, congrArg Standing.faults h⟩

theorem ringDoorbell_gone_effect (p d : Nat) (s : State) (hc : s.ctxConfigured p (fld d 52 5) = true)
    (hg : s.gone p (fld d 52 5) = true) :
    (ringDoorbell p d s).jigs.launches = s.jigs.launches ∧ (ringDoorbell p d s).faults = s.faults := by
  have h := ringDoorbell_gone p d s hc hg
  exact ⟨congrArg (·.jigs.launches) h, congrArg Standing.faults h⟩

/-! ### STEP_RELEASE and PAGE_WARM (04 R195, R206; 05 R235) -/

theorem releaseStep_effect (p n : Nat) (s : State) :
    let t := releaseStep p n s
    (t.serve p).blocks = (if (s.serve p).running = true ∧ (s.serve p).step = n then (s.serve p).blocks
      else (s.serve p).blocks.filter (fun b => b.2 != n)) ∧
      t.serve p = { s.serve p with blocks := (t.serve p).blocks, releaseWait := (t.serve p).releaseWait } ∧
      (∀ q, q ≠ p → t.serve q = s.serve q) ∧ { t with serves := s.serves } = s := by
  intro t
  by_cases h : (s.serve p).running = true ∧ (s.serve p).step = n
  · have ht : t = s := if_pos (by simp [h])
    rw [ht, if_pos h]
    exact ⟨rfl, rfl, fun _ _ => rfl, rfl⟩
  · have ht : t = freeBlock p n s := if_neg (by simpa using h)
    rw [ht, if_neg h]
    refine ⟨?_, ?_, fun q hq => serve_modServe_ne p q _ s hq, rfl⟩
    · simp [freeBlock]
    · simp [freeBlock]

theorem page_modPages_ne (p q : Nat) (f : Pages → Pages) (s : State) (h : q ≠ p) : (modPages p f s).page q = s.page q :=
  Tbl.at_put_ne _ p q _ _ h

theorem det_modDet_ne (p q : Nat) (f : Det → Det) (s : State) (h : q ≠ p) : (modDet p f s).det q = s.det q :=
  Tbl.at_put_ne _ p q _ _ h

theorem queueWarm_effect (p i : Nat) (s : State) :
    ((queueWarm p i s).page p).warm = (s.page p).warm ++ [(i, none)] ∧ (queueWarm p i s).work = s.work ++ [.place p] ∧
      ∀ q, q ≠ p → (queueWarm p i s).page q = s.page q := by
  have hpage (q : Nat) :
      (queueWarm p i s).page q = (modPages p (fun v => { v with warm := v.warm ++ [(i, none)] }) s).page q := rfl
  refine ⟨?_, rfl, fun q hq => ?_⟩
  · rw [hpage, page_modPages_same]
  · rw [hpage, page_modPages_ne p q _ s hq]

/-! ### DET_BOUNDARY (10 R409, R424) -/

/-- A boundary is asked for at the home of a partition that does not serve; without DET it is only counted. -/
theorem askBoundary_effect (p : Nat) (s : State) :
    (∀ q, q ≠ p → (askBoundary p s).det q = s.det q) ∧
      (askBoundary p s).det p =
        (if s.isHome p = true ∧ s.serves? p = false then
          (if s.detOf p = true then { s.det p with asked := true }
            else { s.det p with boundary := ((s.det p).boundary + 1) % 2 ^ 32 })
        else s.det p) ∧
      { askBoundary p s with dets := s.dets } = s := by
  by_cases hask : s.isHome p = true ∧ s.serves? p = false
  · have hgo : (!s.isHome p || s.serves? p) = false := by simp [hask]
    simp only [askBoundary, hgo, Bool.false_eq_true, if_false, if_pos hask]
    split
    · exact ⟨fun q hq => det_modDet_ne p q _ s hq, det_modDet_same p _ s, rfl⟩
    · exact ⟨fun q hq => det_modDet_ne p q _ s hq, det_modDet_same p _ s, rfl⟩
  · have hstay : (!s.isHome p || s.serves? p) = true := by
      revert hask
      cases s.isHome p <;> cases s.serves? p <;> simp
    have hask' : askBoundary p s = s := if_pos hstay
    rw [hask', if_neg hask]
    exact ⟨fun _ _ => rfl, rfl, rfl⟩

/-! ### CTX_CTRL.restore (08 R365) -/

theorem restoreObjects_standing (p c : Nat) (s : State) : (restoreObjects p c s).standing = s.standing := by
  unfold restoreObjects
  dsimp only
  rw [foldl_keeps State.standing, foldl_keeps State.standing]
  · intro t r
    split <;> rfl
  · intro t r
    split <;> rfl

theorem restoreCtx_standing (p c : Nat) (s : State) :
    (restoreCtx p c s).standing = (modCtx p c (fun x => { x with st := .dormant }) s).standing := by
  have hrounds (t : State) : (resetRounds p c t).standing = t.standing := rfl
  simp only [restoreCtx, laters_standing, releaseHeld_standing, hrounds, restoreObjects_standing]

theorem ctx_of_standing {s t : State} (h : t.standing = s.standing) (p c : Nat) : t.ctx p c = s.ctx p c :=
  congrArg (fun v : Standing => Tbl.at v.ctxs.ctxs (ctxKey p c) {}) h

theorem sendTo_work (dest : Nat) (m : TxMsg) (s : State) (k : Job) (h : k ∈ s.work) : k ∈ (sendTo dest m s).work := by
  unfold sendTo sendOn
  split
  · split
    · exact List.mem_append_left _ h
    · exact h
  · exact h

theorem tellOthers_work (kind p c fault : Nat) (s : State) (k : Job) (h : k ∈ s.work) : k ∈ (tellOthers kind p c fault s).work := by
  unfold tellOthers
  split
  · exact List.foldlRecOn (motive := fun t : State => k ∈ t.work) _ _ h (fun t ht code _ => sendTo_work code _ t k ht)
  · split
    · exact sendTo_work _ _ s k h
    · exact h

/-- A parted context comes back dormant at its partition's home; its tasks and its pages are looked at again. -/
theorem restoreReceived_parted (p c : Nat) (s : State) (h : (s.ctx p c).st = .parted) :
    (restoreReceived p c s).ctx p c = { s.ctx p c with st := .dormant } ∧
      ∀ k ∈ [Job.sweep, .place p], k ∈ (restoreReceived p c s).work := by
  have hctx : (restoreCtx p c s).ctx p c = { s.ctx p c with st := .dormant } :=
    (ctx_of_standing (restoreCtx_standing p c s) p c).trans (ctx_modCtx_same p c _ s)
  have hwork : ∀ k ∈ [Job.sweep, .place p], k ∈ (restoreCtx p c s).work := fun k hk => List.mem_append_right _ hk
  simp only [restoreReceived, h]
  split
  · exact ⟨(ctx_of_standing (tellOthers_standing _ p c 0 _) p c).trans hctx, fun k hk => tellOthers_work _ p c 0 _ k (hwork k hk)⟩
  · exact ⟨hctx, hwork⟩

/-- While the parting goes on a restore is refused. -/
theorem restoreReceived_parting (p c : Nat) (s : State) (h : (s.ctx p c).st = .parting) :
    (restoreReceived p c s).ctx p c = { s.ctx p c with restoreRefused := true } ∧ (restoreReceived p c s).work = s.work := by
  have hrefused : restoreReceived p c s =
      noteBit (offCtx p c) 14 (modCtx p c (fun x => { x with restoreRefused := true }) s) := by
    simp only [restoreReceived, h]
  have hnoted (t : State) : (noteBit (offCtx p c) 14 t).ctx p c = t.ctx p c := rfl
  rw [hrefused, hnoted, ctx_modCtx_same]
  exact ⟨rfl, rfl⟩

theorem restoreReceived_other (p c : Nat) (s : State) (h1 : (s.ctx p c).st ≠ .parted) (h2 : (s.ctx p c).st ≠ .parting) :
    restoreReceived p c s = s := by
  unfold restoreReceived
  split
  · contradiction
  · contradiction
  · rfl

/-- The write with restore alone is that request (08 R370). -/
theorem ctxControl_restore (p c : Nat) (s : State) (hc : c < 32) : ctxControl p (c + 2 ^ 8) s = askRestore p c s := by
  have hfld : fld (c + 2 ^ 8) 0 5 = c := by
    simp only [fld]
    omega
  have hbits : bit (c + 2 ^ 8) 5 = false ∧ bit (c + 2 ^ 8) 6 = false ∧ bit (c + 2 ^ 8) 7 = false ∧ bit (c + 2 ^ 8) 8 = true := by
    simp only [bit, beq_eq_false_iff_ne, beq_iff_eq]
    omega
  obtain ⟨h5, h6, h7, h8⟩ := hbits
  simp only [ctxControl, hfld, h5, h6, h7, h8, Bool.false_and, Bool.false_eq_true, if_false, if_true]

theorem askRestore_home (p c : Nat) (s : State) (hh : s.isHome p = true) (hc : s.ctxConfigured p c = true) :
    askRestore p c s = restoreReceived p c s := by
  simp [askRestore, hh, hc]

theorem askRestore_none (p c : Nat) (s : State)
    (h : s.isHome p = false ∨ s.ctxConfigured p c = false ∨ ((s.ctx p c).st ≠ .parted ∧ (s.ctx p c).st ≠ .parting)) :
    askRestore p c s = s := by
  unfold askRestore
  split
  case isTrue hgo =>
    obtain ⟨hh, hc⟩ := Bool.and_eq_true_iff.mp hgo
    rw [hh, hc] at h
    obtain ⟨h1, h2⟩ := (h.resolve_left Bool.noConfusion).resolve_left Bool.noConfusion
    exact restoreReceived_other p c s h1 h2
  case isFalse => rfl

/-! ### SYNC_DBG_SEL and SYNC_DUMP (06 R275, R276, R280) -/

theorem latchObject_frame (s : State) :
    (latchObject s).sync = { s.sync with
      dbgData := (latchObject s).sync.dbgData, dbgValid := (latchObject s).sync.dbgValid } ∧
      { latchObject s with sync := s.sync } = s := ⟨rfl, rfl⟩

theorem latchObject_sem (s : State) (hb : s.sync.dumpBusy = false) (hk : s.sync.dbgKind = false) :
    (latchObject s).sync.dbgData = (s.sem s.sync.dbgObject).record ∧
      (latchObject s).sync.dbgValid =
        (decide (s.sync.dbgObject < s.build.semaphores) && (s.sem s.sync.dbgObject).configured) := by
  simp [latchObject, hb, hk]

theorem latchObject_bar (s : State) (hb : s.sync.dumpBusy = false) (hk : s.sync.dbgKind = true) :
    (latchObject s).sync.dbgData = (s.bar s.sync.dbgObject).record ∧
      (latchObject s).sync.dbgValid =
        (decide (s.sync.dbgObject < s.build.barriers) && (s.bar s.sync.dbgObject).configured) := by
  simp [latchObject, hb, hk]

theorem startDump_busy (addr : Nat) (s : State) (h : s.sync.dumpBusy = true) : startDump addr s = s := if_pos h

theorem startDump_error (addr : Nat) (s : State) (hb : s.sync.dumpBusy = false)
    (h : addr % 4096 ≠ 0 ∨ s.inWindow addr s.build.dumpSize = false) :
    startDump addr s = { s with sync := { s.sync with dumpError := true } } := by
  have hbad : (addr % 4096 != 0 || !s.inWindow addr s.build.dumpSize) = true := by
    simpa using h
  simp only [startDump, hb, Bool.false_eq_true, if_false, hbad, if_true]

theorem dumpSize_pos (b : Build) : b.dumpSize ≠ 0 := by
  cases b <;> decide

theorem startDump_starts (addr : Nat) (s : State) (hb : s.sync.dumpBusy = false) (ha : addr % 4096 = 0)
    (hw : s.inWindow addr s.build.dumpSize = true) :
    (startDump addr s).sync = { s.sync with
      dumpBusy := true, dumpError := false, snapSems := s.sync.sems, snapBars := s.sync.bars } ∧
      (s.hasBed = true → (startDump addr s).writesFrom .dump addr) := by
  have hgood : (addr % 4096 != 0 || !s.inWindow addr s.build.dumpSize) = false := by
    simp [ha, hw]
  have hlen : s.dumpBytes.len = s.build.dumpSize := rfl
  rw [← hlen] at hw
  simp only [startDump, hb, Bool.false_eq_true, if_false, hgood]
  refine ⟨(bedOnly_issueWrite .dump addr s.dumpBytes 0 0 true _).sync, fun hbed => ?_⟩
  apply issueWrite_writesFrom
  · exact hw
  · exact hlen ▸ dumpSize_pos s.build
  · exact hbed

/-! ### FAULT_SEL (13 R558) -/

theorem showFault_frame (s : State) : (showFault s).faults.selSeq = s.faults.selSeq ∧
    (showFault s).faults.ledger = s.faults.ledger ∧ { showFault s with faults := s.faults } = s := by
  unfold showFault
  split <;> exact ⟨rfl, rfl, rfl⟩

theorem showFault_found (s : State) (e : FaultEntry) (h : s.faults.ledger.find? (fun e => e.seq == s.faults.selSeq) = some e) :
    (showFault s).faults.selValid = true ∧ (showFault s).faults.entry0 = fld e.bits 0 64 ∧
      (showFault s).faults.entry1 = fld e.bits 64 64 := by
  simp [showFault, h]

theorem showFault_missing (s : State) (h : s.faults.ledger.find? (fun e => e.seq == s.faults.selSeq) = none) :
    (showFault s).faults.selValid = false ∧ (showFault s).faults.entry0 = 0 ∧ (showFault s).faults.entry1 = 0 := by
  simp [showFault, h]

/-! ### IMAGE_CTRL (11 R445, R446, R459, R463, R472) -/

theorem startLoad_image (s : State) : (startLoad s).image =
    (if s.hasRole = true ∨ s.image.loading = true then { s.image with refused := true }
      else { s.image with state := 1, loading := true }) := by
  unfold startLoad
  simp only [Bool.or_eq_true]
  split <;> rfl

/-- Whether the older tasks have ended is known here, or is the other instances' word (11 R459 step 2). -/
theorem olderClear_cases (s : State) : ∃ clear n, olderClear s = (clear, { s with free := n }) ∧
    (s.image.older ≠ 0 → clear = false) ∧ (s.image.older = 0 → s.liveKids = [] → clear = true) := by
  unfold olderClear
  split
  case isTrue ho =>
    have ho : s.image.older ≠ 0 := by simpa using ho
    exact ⟨false, s.free, rfl, fun _ => rfl, fun h => absurd h ho⟩
  case isFalse ho =>
    have ho : s.image.older = 0 := by simpa using ho
    split
    case isTrue => exact ⟨true, s.free, rfl, fun h => absurd ho h, fun _ _ => rfl⟩
    case isFalse hk => exact ⟨_, s.free + 1, rfl, fun h => absurd ho h, fun _ h => absurd (by simp [h]) hk⟩

/-- A reshape that waits for the older tasks goes on waiting, or begins. -/
theorem tryPrepare_cases (s : State) (hw : s.reshape.olderWait = true) :
    ∃ clear n, tryPrepare s = (if clear then prepareHere (wrapAdd s.image.epoch 1 32) 0 { s with free := n }
        else { s with free := n }) ∧
      (s.image.older ≠ 0 → clear = false) ∧ (s.image.older = 0 → s.liveKids = [] → clear = true) := by
  obtain ⟨clear, n, hclear, hold, hnew⟩ := olderClear_cases s
  refine ⟨clear, n, ?_, hold, hnew⟩
  cases clear <;> simp [tryPrepare, hw, hclear]

theorem startReshape_none (s : State)
    (h : s.isRoot = false ∨ s.reshape.phase ≠ 0 ∨ s.reshape.olderWait = true ∨ s.reshape.querying = true) :
    startReshape s = s := by
  have hno : ¬ (s.isRoot && s.reshape.phase == 0 && !s.reshape.olderWait && !s.reshape.querying) = true := by
    simp only [Bool.and_eq_true, Bool.not_eq_true', beq_iff_eq]
    rintro ⟨⟨⟨hr, hp⟩, ho⟩, hq⟩
    simp [hr, hp, ho, hq] at h
  exact if_neg hno

/-- The root with a reshape in progress, which waits for the older tasks (11 R459 step 1). -/
def reshapeAsked (s : State) : State :=
  { s with
    free := s.free + 1
    reshape := { s.reshape with
      olderWait := true, newEpoch := wrapAdd s.image.epoch 1 32, affected := 0
      digest := Sys2Proof.Config.freeValue s.free % 2 ^ 64, fault := 0, kids := s.liveKids } }

theorem startReshape_asks (s : State) (hr : s.isRoot = true) (hp : s.reshape.phase = 0) (ho : s.reshape.olderWait = false)
    (hq : s.reshape.querying = false) : startReshape s = tryPrepare (reshapeAsked s) :=
  if_pos (by simp [hr, hp, ho, hq])

/-- The root's reshape begins at once, or waits for the older tasks of the instances (11 R459 steps 1 and 2). -/
theorem startReshape_starts (s : State) (hr : s.isRoot = true) (hp : s.reshape.phase = 0) (ho : s.reshape.olderWait = false)
    (hq : s.reshape.querying = false) :
    let t := startReshape s
    t.reshape.newEpoch = (s.image.epoch + 1) % 2 ^ 32 ∧ t.reshape.fault = 0 ∧
      (t.reshape.phase = 0 ∧ t.reshape.olderWait = true ∨
        t.reshape.phase = 1 ∧ t.reshape.olderWait = false ∧ t.reshape.reading = true) ∧
      (s.image.older ≠ 0 → t.reshape.olderWait = true) ∧
      (s.image.older = 0 → s.liveKids = [] → t.reshape.phase = 1) := by
  intro t
  have ht : t = tryPrepare (reshapeAsked s) := startReshape_asks s hr hp ho hq
  obtain ⟨clear, n, hcases, hold, hnew⟩ := tryPrepare_cases (reshapeAsked s) rfl
  rw [ht, hcases]
  cases clear
  case false => exact ⟨rfl, rfl, .inl ⟨hp, rfl⟩, fun _ => rfl, fun h hk => Bool.noConfusion (hnew h hk)⟩
  case true => exact ⟨rfl, rfl, .inr ⟨rfl, rfl, rfl⟩, fun h => Bool.noConfusion (hold h), fun _ _ => rfl⟩

theorem requestAbort_none (s : State)
    (h : s.isRoot = false ∨ (s.reshape.olderWait = false ∧ ¬ (1 ≤ s.reshape.phase ∧ s.reshape.phase ≤ 3))) :
    requestAbort s = s := by
  refine if_neg ?_
  simp only [Bool.and_eq_true, Bool.or_eq_true, decide_eq_true_eq]
  rintro ⟨hr, hw⟩
  rcases h with h | ⟨hno, hphase⟩
  · simp [hr] at h
  · rcases hw with hw | hw
    · simp [hno] at hw
    · exact hphase hw

/-- An abort at the root before the commit (11 R463). -/
theorem requestAbort_aborts (s : State) (hr : s.isRoot = true)
    (h : s.reshape.olderWait = true ∨ (1 ≤ s.reshape.phase ∧ s.reshape.phase ≤ 3)) :
    (requestAbort s).report = (0, 2, false, true, wrapAdd s.image.aborts 1 64, []) := by
  have hgo : (s.isRoot && (s.reshape.olderWait || (1 ≤ s.reshape.phase && s.reshape.phase ≤ 3))) = true := by
    simpa [hr] using h
  rw [requestAbort, if_pos hgo, abortHere_report]

/-- What the whole report says, part by part. -/
theorem report_eq (s : State) (phase result : Nat) (wait done : Bool) (aborts : Nat) (busy : List Nat)
    (h : s.report = (phase, result, wait, done, aborts, busy)) :
    s.reshape.phase = phase ∧ s.reshape.result = result ∧ s.reshape.olderWait = wait ∧ s.face.reshapeDone = done ∧
      s.image.aborts = aborts ∧ s.image.busy = busy := by
  simpa [State.report, Standing.report, State.standing] using h

/-! ### The statement -/

/-- Settles O12, register by register: the unit's update, in a state that differs from the one before only in the command's own
counter and in the idle hold of the register's domain. -/
theorem registerCommandsWriteTheirRegister : Obligations.RegisterCommandsWriteTheirRegister := by
  unfold Obligations.RegisterCommandsWriteTheirRegister
  refine ⟨?_, fun s p d hp => ⟨?_, ?_, ?_, ?_, ?_, fun c hc => ?_⟩, fun s d => ⟨?_, ?_, ?_⟩, fun s => ⟨?_, ?_, ?_⟩⟩
  · intro s c off data hc ha _ hr
    obtain ⟨t, hexec, ht⟩ := exec_regWrite_reaches s c off data hc ha hr
    exact ⟨t, hexec, ht, written_answered s off data⟩
  · rw [written_launchDoorbell s p d hp]
    refine ⟨doorbell_draining p d (restHold swJig s.begun), fun hd => ?_⟩
    rw [doorbell_rings p d (restHold swJig s.begun) hd]
    obtain ⟨hreshape, hcount⟩ := ringDoorbell_counted p d (restHold swJig s.begun)
    exact ⟨hreshape, hcount, ringDoorbell_starts p d (restHold swJig s.begun),
      ringDoorbell_unconfigured_effect p d (restHold swJig s.begun), ringDoorbell_gone_effect p d (restHold swJig s.begun)⟩
  · rw [written_intakeDoorbell s p d hp]
    split <;> rfl
  · rw [written_stepRelease s p d hp]
    obtain ⟨hblocks, hserve, hother, hframe⟩ := releaseStep_effect p (fld d 0 32) (restHold swServe s.begun)
    exact ⟨hblocks, hserve, hother,
      congrArg (fun t : State => { t with power := s.power, outs := s.outs, clock := s.clock }) hframe⟩
  · rw [written_pageWarm s p d hp]
    obtain ⟨hwarm, hwork, hother⟩ := queueWarm_effect p (fld d 0 20) (restHold swServe s.begun)
    exact ⟨hwarm, hwork, hother, rfl⟩
  · rw [written_detBoundary s p d hp]
    obtain ⟨hother, hdet, hframe⟩ := askBoundary_effect p s.begun
    cases bit d 0
    case true =>
      refine ⟨hother, ?_, congrArg (fun t : State => { t with outs := s.outs, clock := s.clock }) hframe⟩
      simp only [true_and]
      exact hdet
    case false => exact ⟨fun _ _ => rfl, rfl, rfl⟩
  · rw [written_ctxCtrl s p (c + 2 ^ 8) hp, ctxControl_restore p c s.begun hc]
    refine ⟨fun hh hcfg => ?_, fun hno => ?_⟩
    · rw [askRestore_home p c s.begun hh hcfg]
      exact ⟨restoreReceived_parted p c s.begun, restoreReceived_parting p c s.begun⟩
    · rw [askRestore_none p c s.begun hno]
      rfl
  · rw [written_syncDbgSel s d]
    obtain ⟨hsync, hframe⟩ := latchObject_frame (dbgSelected d s)
    exact ⟨hsync, latchObject_sem (dbgSelected d s), latchObject_bar (dbgSelected d s),
      congrArg (fun t : State => { t with sync := s.sync, power := s.power, outs := s.outs, clock := s.clock }) hframe⟩
  · rw [written_syncDump s d]
    refine ⟨fun hb => ?_, fun hb => ⟨fun hbad => ?_, fun ha hw => ?_⟩⟩
    · rw [startDump_busy (fld d 0 52) (restHold swSync s.begun) hb]
      exact ⟨rfl, rfl⟩
    · rw [startDump_error (fld d 0 52) (restHold swSync s.begun) hb hbad]
      exact ⟨rfl, rfl⟩
    · exact startDump_starts (fld d 0 52) (restHold swSync s.begun) hb ha hw
  · rw [written_faultSel s d]
    obtain ⟨hseq, hledger, hframe⟩ := showFault_frame (faultSelected d s)
    exact ⟨hseq, hledger, showFault_found (faultSelected d s), showFault_missing (faultSelected d s),
      congrArg (fun t : State => { t with faults := s.faults, outs := s.outs, clock := s.clock }) hframe⟩
  · rw [written_imageLoad s]
    exact startLoad_image s.begun
  · rw [written_reshapeStart s]
    refine ⟨startReshape_starts s.begun, fun hno => ?_⟩
    rw [startReshape_none s.begun hno]
    rfl
  · rw [written_reshapeAbort s]
    refine ⟨fun hr hw => report_eq _ 0 2 false true _ [] (requestAbort_aborts s.begun hr hw), fun hno => ?_⟩
    rw [requestAbort_none s.begun hno]
    rfl

end Sys2Proof.Machine
end

section
/-!
What sending, storing and the upkeep of streams and pages leave of the state: all of it but the stream records, the pages, the
rings, the ports, the bed and the domains' levels. Reads that a piece of work waits for (04 R168; 05 R239).
-/
namespace Sys2Proof.Machine

/-! ### The state beside streams and traffic -/

/-- What a partition's serving loop keeps beside its stream records, their cache and the eligibility queues. -/
def Serve.loop (v : Serve) : Serve := { v with streams := [], dirty := [], uncached := [], queues := [] }

/-- The state without what sending, storing and the upkeep of streams and pages change; of the serving states only the loop of
partition `q`. -/
def State.lasting (s : State) (q : Nat) : State :=
  { s with
    power := {}, bed := {}, store := [], fresh := [], outs := [], work := [], queues := {}, ports := [], free := 0, pages := []
    serves := [(0, (s.serve q).loop)] }

section
variable {s t : State} {q : Nat} (h : t.lasting q = s.lasting q)
include h

theorem loop_of_lasting : (t.serve q).loop = (s.serve q).loop := congrArg (fun u : State => u.serve 0) h
theorem dets_of_lasting : t.dets = s.dets := (congrArg State.dets h :)
theorem tasks_of_lasting : t.tasks = s.tasks := (congrArg State.tasks h :)
theorem face_of_lasting : t.face = s.face := (congrArg State.face h :)
theorem image_of_lasting : t.image = s.image := (congrArg State.image h :)

end

@[simp] theorem later_lasting (j : Job) (s : State) (q : Nat) : (later j s).lasting q = s.lasting q := rfl
@[simp] theorem wakeUp_lasting (d : Nat) (s : State) (q : Nat) : (wakeUp d s).lasting q = s.lasting q := rfl
@[simp] theorem takeFree_lasting (w : Nat) (s : State) (q : Nat) : (takeFree w s).2.lasting q = s.lasting q := rfl
@[simp] theorem modPort_lasting (i : Nat) (f : Port → Port) (s : State) (q : Nat) : (modPort i f s).lasting q = s.lasting q := rfl
@[simp] theorem modHostq_lasting (p : Nat) (f : HostQ → HostQ) (s : State) (q : Nat) :
    (modHostq p f s).lasting q = s.lasting q := rfl
@[simp] theorem modPages_lasting (p : Nat) (f : Pages → Pages) (s : State) (q : Nat) :
    (modPages p f s).lasting q = s.lasting q := rfl
@[simp] theorem updPage_lasting (p i : Nat) (f : Page → Page) (s : State) (q : Nat) :
    (updPage p i f s).lasting q = s.lasting q := rfl

/-- A change of stream records, their cache or the queues is none of the loop. -/
theorem modServe_lasting (p : Nat) (f : Serve → Serve) (hf : ∀ v, (f v).loop = v.loop) (s : State) (q : Nat) :
    (modServe p f s).lasting q = s.lasting q := by
  have hloop : ((modServe p f s).serve q).loop = (s.serve q).loop := by
    by_cases hq : q = p
    · rw [hq, serve_modServe_same, hf]
    · rw [serve_modServe_ne p q f s hq]
  simp only [State.lasting, hloop]
  rfl

@[simp] theorem modStream_lasting (p i : Nat) (f : Stream → Stream) (s : State) (q : Nat) :
    (modStream p i f s).lasting q = s.lasting q := modServe_lasting p _ (fun _ => by rfl) s q

@[simp] theorem updStream_lasting (p i : Nat) (f : Stream → Stream) (s : State) (q : Nat) :
    (updStream p i f s).lasting q = s.lasting q :=
  (modServe_lasting p _ (fun _ => by rfl) _ q).trans (modStream_lasting p i f s q)

@[simp] theorem unqueue_lasting (p i : Nat) (s : State) (q : Nat) : (unqueue p i s).lasting q = s.lasting q :=
  modServe_lasting p _ (fun _ => by rfl) s q

@[simp] theorem requeue_lasting (p i : Nat) (s : State) (q : Nat) : (requeue p i s).lasting q = s.lasting q := by
  unfold requeue
  dsimp only
  split
  · split
    · rfl
    · exact modServe_lasting p _ (fun _ => by rfl) s q
  · exact unqueue_lasting p i s q

/-! ### The bed -/

theorem BedOnly.refl (s : State) : BedOnly s s := rfl

theorem BedOnly.lasting {s t : State} (h : BedOnly s t) (q : Nat) : t.lasting q = s.lasting q := by
  rw [h]
  rfl

theorem BedOnly.serves {s t : State} (h : BedOnly s t) : t.serves = s.serves := by rw [h]
theorem BedOnly.tasks {s t : State} (h : BedOnly s t) : t.tasks = s.tasks := by rw [h]
theorem BedOnly.dets {s t : State} (h : BedOnly s t) : t.dets = s.dets := by rw [h]

theorem bedOnly_foldl {α : Type} (f : State → α → State) (hf : ∀ s a, BedOnly s (f s a)) (l : List α) (s : State) :
    BedOnly s (l.foldl f s) := by
  induction l generalizing s with
  | nil => exact BedOnly.refl s
  | cons a l ih => exact (hf s a).trans (ih _)

@[simp] theorem issueWrite_lasting (why : WriteFor) (addr : Nat) (data : Blob) (p c : Nat) (sys : Bool) (s : State) (q : Nat) :
    (issueWrite why addr data p c sys s).lasting q = s.lasting q := (bedOnly_issueWrite why addr data p c sys s).lasting q

/-! ### Rings and links -/

@[simp] theorem pumpHostq_lasting (p : Nat) (s : State) (q : Nat) : (pumpHostq p s).lasting q = s.lasting q := by
  unfold pumpHostq
  dsimp only
  split
  · split <;> simp [judgeCpl]
  · simp [judgeCpl]

@[simp] theorem putCompletion_lasting (p body : Nat) (s : State) (q : Nat) : (putCompletion p body s).lasting q = s.lasting q := by
  unfold putCompletion
  split <;> simp

@[simp] theorem putEvent_lasting (p body : Nat) (s : State) (q : Nat) : (putEvent p body s).lasting q = s.lasting q := by
  unfold putEvent
  split
  · rfl
  · dsimp only
    split <;> simp [dropEvent]

@[simp] theorem sendOn_lasting (x : Nat) (m : TxMsg) (s : State) (q : Nat) : (sendOn x m s).lasting q = s.lasting q := by
  unfold sendOn
  split <;> simp

@[simp] theorem sendTo_lasting (dest : Nat) (m : TxMsg) (s : State) (q : Nat) : (sendTo dest m s).lasting q = s.lasting q := by
  unfold sendTo
  split <;> simp

@[simp] theorem sendEvent_lasting (type p c body : Nat) (s : State) (q : Nat) :
    (sendEvent type p c body s).lasting q = s.lasting q := by
  unfold sendEvent
  dsimp only
  split
  · rfl
  · split <;> simp

/-! ### Pages and pins -/

/-- A loop whose every round keeps what lasts keeps it. -/
theorem foldl_lasting {α : Type} (f : State → α → State) (q : Nat) (hf : ∀ s a, (f s a).lasting q = s.lasting q) (l : List α)
    (s : State) : (l.foldl f s).lasting q = s.lasting q := foldl_keeps (fun s => s.lasting q) f hf l s

@[simp] theorem savePage_lasting (p i : Nat) (s : State) (q : Nat) : (savePage p i s).lasting q = s.lasting q := by
  simp [savePage]

@[simp] theorem setRefcount_lasting (p i n : Nat) (s : State) (q : Nat) : (setRefcount p i n s).lasting q = s.lasting q := by
  unfold setRefcount
  dsimp only
  split <;> simp

@[simp] theorem dropRef_lasting (p i : Nat) (s : State) (q : Nat) : (dropRef p i s).lasting q = s.lasting q := by
  unfold dropRef
  dsimp only
  split
  · split <;> simp
  · simp

@[simp] theorem releasePages_lasting (p i : Nat) (s : State) (q : Nat) : (releasePages p i s).lasting q = s.lasting q := by
  simp [releasePages, foldl_lasting _ q (fun s k => dropRef_lasting p k s q)]

@[simp] theorem pinPage_lasting (p i : Nat) (s : State) (q : Nat) : (pinPage p i s).lasting q = s.lasting q := rfl
@[simp] theorem unpinPage_lasting (p i : Nat) (s : State) (q : Nat) : (unpinPage p i s).lasting q = s.lasting q := rfl
@[simp] theorem pinOutside_lasting (p l k : Nat) (s : State) (q : Nat) : (pinOutside p l k s).lasting q = s.lasting q := rfl

@[simp] theorem keepPins_lasting (p : Nat) (o : Outside) (s : State) (q : Nat) : (keepPins p o s).lasting q = s.lasting q :=
  foldl_lasting _ q (fun s k => by simp) _ s

@[simp] theorem dropStepPins_lasting (p : Nat) (who : Nat → Bool) (s : State) (q : Nat) :
    (dropStepPins p who s).lasting q = s.lasting q := by
  simp [dropStepPins, foldl_lasting _ q (fun s k => unpinPage_lasting p _ s q),
    foldl_lasting _ q (fun s o => keepPins_lasting p o s q)]

/-! ### Streams and the two caches -/

@[simp] theorem saveStream_lasting (p i : Nat) (s : State) (q : Nat) : (saveStream p i s).lasting q = s.lasting q :=
  (issueWrite_lasting _ _ _ _ _ _ _ q).trans (modServe_lasting p _ (fun _ => by rfl) s q)

@[simp] theorem saveProvenance_lasting (p i : Nat) (s : State) (q : Nat) : (saveProvenance p i s).lasting q = s.lasting q := by
  simp [saveProvenance]

@[simp] theorem releaseStream_lasting (p i : Nat) (s : State) (q : Nat) : (releaseStream p i s).lasting q = s.lasting q := by
  unfold releaseStream
  split <;> simp

@[simp] theorem evictStream_lasting (p i : Nat) (s : State) (q : Nat) : (evictStream p i s).lasting q = s.lasting q := by
  unfold evictStream
  rw [modServe_lasting]
  · split <;> simp
  · exact fun _ => rfl

@[simp] theorem evictPage_lasting (p i : Nat) (s : State) (q : Nat) : (evictPage p i s).lasting q = s.lasting q := by
  unfold evictPage
  rw [modPages_lasting]
  split <;> simp

@[simp] theorem evictStreams_lasting (n : Nat) (s : State) (q : Nat) : (evictStreams n s).lasting q = s.lasting q := by
  induction n generalizing s with
  | zero => rfl
  | succ n ih => simp [evictStreams, ih]

@[simp] theorem evictPages_lasting (n : Nat) (s : State) (q : Nat) : (evictPages n s).lasting q = s.lasting q := by
  induction n generalizing s with
  | zero => rfl
  | succ n ih => simp [evictPages, ih]

@[simp] theorem trimStreams_lasting (s : State) (q : Nat) : (trimStreams s).lasting q = s.lasting q := by
  unfold trimStreams
  split <;> simp

@[simp] theorem freshen_lasting (p clock : Nat) (s : State) (q : Nat) : (freshen p clock s).lasting q = s.lasting q :=
  foldl_lasting _ q (fun s _ => by simp) _ s

/-! ### Cache fills -/

/-- Work of kind `k` waits for the caches. -/
def Serve.awaiting (k : Nat) (v : Serve) : Serve :=
  { v with misses := if v.misses.contains k then v.misses else v.misses ++ [k] }

theorem Serve.awaiting_misses (k : Nat) (v : Serve) : (v.awaiting k).misses.contains k = true := by
  simp only [Serve.awaiting]
  split
  · assumption
  · simp

/-- Nothing is lacking when no record and no entry is only in the tables. -/
theorem fillFor_eq_none_iff (p kind : Nat) (streams pages : List Nat) (s : State) :
    fillFor p kind streams pages s = none ↔
      (dedup streams).filter ((s.serve p).uncached.contains ·) = [] ∧
        (dedup pages).filter ((s.page p).uncached.contains ·) = [] := by
  unfold fillFor
  dsimp only
  split
  case isTrue h => simpa using h
  case isFalse h =>
    have hlacks : ¬ ((dedup streams).filter ((s.serve p).uncached.contains ·) = [] ∧
        (dedup pages).filter ((s.page p).uncached.contains ·) = []) := by simpa using h
    split <;> simp only [reduceCtorEq, hlacks]

/-- Whether something is lacking is a matter of the two caches alone. -/
theorem fillFor_none_congr {p : Nat} {s t : State} (hs : (t.serve p).uncached = (s.serve p).uncached) (hp : t.pages = s.pages)
    (kind : Nat) (streams pages : List Nat) :
    fillFor p kind streams pages t = none ↔ fillFor p kind streams pages s = none := by
  have hpage : t.page p = s.page p := congrArg (fun v : Tbl Pages => Tbl.at v p {}) hp
  rw [fillFor_eq_none_iff, fillFor_eq_none_iff, hs, hpage]

/-- Work that lacks something is noted as waiting, and reads go out. -/
theorem fillFor_some {p kind : Nat} {streams pages : List Nat} {s t : State} (h : fillFor p kind streams pages s = some t) :
    BedOnly (modServe p (Serve.awaiting kind) s) t := by
  unfold fillFor at h
  dsimp only at h
  split at h
  · exact absurd h (by simp)
  · split at h
    · exact Option.some.inj h ▸ BedOnly.refl _
    · rw [← Option.some.inj h]
      exact (bedOnly_foldl _ (fun s i => bedOnly_issueReads _ _ _ _ _ s) _ _).trans
        (bedOnly_foldl _ (fun s i => bedOnly_issueReads _ _ _ _ _ s) _ _)

theorem fillFor_some_serve {p kind : Nat} {streams pages : List Nat} {s t : State}
    (h : fillFor p kind streams pages s = some t) : t.serve p = (s.serve p).awaiting kind := by
  have hserves : t.serve p = (modServe p (Serve.awaiting kind) s).serve p :=
    congrArg (fun v : Tbl Serve => Tbl.at v p {}) (fillFor_some h).serves
  rw [hserves, serve_modServe_same]

end Sys2Proof.Machine
end

section
/-!
The end of a step (04 R178 steps 1 to 3, R193 to R199), and the end of its digests (04 R204, R205).
-/
namespace Sys2Proof.Machine

/-! ### The entries of a step that ends (04 R194) -/

theorem advanceStream_lasting (p n clock : Nat) (e : Entry) (stop : Bool) (s : State) (q : Nat) :
    (advanceStream p n clock e stop s).1.lasting q = s.lasting q := by
  unfold advanceStream
  extract_lets x counts
  split
  case h_1 r s₁ hfree =>
    have hs₁ : s₁.lasting q = s.lasting q := by
      split at hfree
      · rw [← (Prod.mk.inj hfree).2]
        rfl
      · rw [← (Prod.mk.inj hfree).2]
    rw [updStream_lasting, hs₁]

theorem completeEntry_lasting (p n clock j : Nat) (e : Entry) (result : Nat) (s : State) (q : Nat) :
    (completeEntry p n clock j e result s).2.lasting q = s.lasting q := by
  unfold completeEntry
  extract_lets sec
  split
  case h_1 x base stay k _ status poison _ =>
  extract_lets bad stop
  split
  case h_1 limit dig s₁ hs₁ =>
  have h₁ : s₁.lasting q = s.lasting q := by
    split at hs₁
    · cases hs₁
      exact updStream_lasting p _ _ s q
    · split at hs₁
      · cases hs₁
        rfl
      · split at hs₁
        case h_1 s₀ atLimit hs₀ =>
        have h₀ : s₀.lasting q = s.lasting q := by
          rw [← advanceStream_lasting p n clock e stop s q, hs₀]
        split at hs₁
        · cases hs₁
          exact (updStream_lasting p _ _ s₀ q).trans h₀
        · cases hs₁
          exact h₀
  extract_lets s₂ y gone s₃ closed outs
  have h₂ : s₂.lasting q = s.lasting q := (updStream_lasting p _ _ s₁ q).trans h₁
  have h₃ : s₃.lasting q = s₂.lasting q := by
    unfold s₃
    split
    · exact releaseStream_lasting p _ s₂ q
    · rfl
  exact h₃.trans h₂

theorem completeEntries_lasting (p n k clock : Nat) (es : List Entry) (rs : List (BitVec 32)) (j : Nat) (ds : List Digest)
    (s : State) (q : Nat) : (completeEntries p n k clock es rs j ds s).2.lasting q = s.lasting q := by
  induction es generalizing rs j ds s with
  | nil => rfl
  | cons e es ih =>
    simp only [completeEntries]
    rw [ih, issueWrite_lasting, completeEntry_lasting]

/-! ### The loop's part in the changes -/

/-- A change that only the loop sees and takes part in acts on the loop. -/
theorem loop_modServe (p : Nat) (f : Serve → Serve) (hf : ∀ v, (f v).loop = f v.loop) (s : State) :
    ((modServe p f s).serve p).loop = f (s.serve p).loop := by rw [serve_modServe_same, hf]

/-- The model clock and the calibration ratio after a step (04 R197, R199). -/
def Serve.calibrated (num den : Nat) (v : Serve) : Serve :=
  { v with modelClock := wrapAdd v.modelClock v.dModel 32, kNum := num, kDen := den }

/-- The step has ended, and its digests are to be formed (04 R178 step 3, R205). -/
def Serve.closed (d : StepDone) (v : Serve) : Serve :=
  { v with
    running := false, ended := none, entries := [], sections := [], stepCount := wrapAdd v.stepCount 1 64, intakeOpen := false
    done := v.done ++ [d] }

/-- With DET the end of a step asks for the next boundary (10 R409). -/
def askedAfter (det : Bool) (p : Nat) (s : State) : State := if det then modDet p (fun d => { d with asked := true }) s else s

theorem askedAfter_dets {s t : State} {det : Bool} {p : Nat} (h : t.dets = s.dets) :
    (askedAfter det p t).dets = (askedAfter det p s).dets := by
  cases det
  · exact h
  · simp only [askedAfter, if_true, modDet, State.det, h]

theorem completeStep_fills {p : Nat} {results : List (BitVec 32)} {s u : State}
    (h : fillFor p 2 ((s.serve p).entries.map (·.stream)) (s.pagesOfAll p ((s.serve p).entries.map (·.stream))) s = some u) :
    completeStep p results s = modServe p (fun v => { v with results := results }) u := by
  simp only [completeStep, h]

/-- A step whose records and entries are at hand ends. -/
theorem completeStep_ends {p : Nat} {results : List (BitVec 32)} {s : State}
    (h : fillFor p 2 ((s.serve p).entries.map (·.stream)) (s.pagesOfAll p ((s.serve p).entries.map (·.stream))) s = none) :
    ∃ (num den : Nat) (d : StepDone), d.step = (s.serve p).step ∧ d.block = (s.serve p).step % s.stepBlocks p ∧
      ((completeStep p results s).serve p).loop = (((s.serve p).loop.calibrated num den).closed d) ∧
      (completeStep p results s).dets = (askedAfter (s.detOf p) p s).dets := by
  unfold completeStep
  extract_lets v streams
  split
  case h_1 u hfill => exact absurd (h.symm.trans hfill) (by simp)
  case h_2 det k ended measured ratio body s₁ s₂ clock s₃ _ _ =>
  split
  case h_1 ds s₄ hs₄ =>
    extract_lets s₅ s₆ s₇
    have h₁ : s₁.lasting p = s.lasting p := dropStepPins_lasting p _ s p
    have h₂ : (s₂.serve p).loop = (s.serve p).loop.calibrated ratio.1 ratio.2 := by
      rw [← loop_of_lasting h₁]
      exact loop_modServe p (Serve.calibrated ratio.1 ratio.2) (fun _ => rfl) s₁
    have h₄ : s₄.lasting p = s₂.lasting p := by
      have hentries := completeEntries_lasting p v.step k clock v.entries results 0 [] s₃ p
      rw [hs₄] at hentries
      exact hentries.trans (freshen_lasting p clock s₂ p)
    have h₆ : s₆.lasting p = s₅.lasting p := foldl_lasting _ p (fun s i => requeue_lasting p i s p) _ s₅
    have h₇ : (s₇.serve p).loop = (s₆.serve p).loop ∧ s₇.dets = (askedAfter det p s₆).dets := by
      unfold s₇ askedAfter
      cases det <;> exact ⟨rfl, rfl⟩
    obtain ⟨hserve, hdets⟩ := h₇
    have h₈ : (later .reshape (later (.place p) (trimStreams s₇))).lasting p = s₇.lasting p := by
      rw [later_lasting, later_lasting, trimStreams_lasting]
    refine ⟨ratio.1, ratio.2, { step := v.step, record := body, block := k, digests := ds }, rfl, rfl, ?_, ?_⟩
    · rw [loop_of_lasting h₈, hserve, loop_of_lasting h₆, ← h₂, ← loop_of_lasting h₄]
      exact loop_modServe p (Serve.closed _) (fun _ => rfl) s₄
    · have hpins : s₁.dets = s.dets := dets_of_lasting h₁
      have h₆₀ : s₆.dets = s.dets := (dets_of_lasting h₆).trans ((dets_of_lasting h₄).trans hpins)
      rw [dets_of_lasting h₈, hdets]
      exact askedAfter_dets h₆₀

/-! ### STEP_COMPLETE and STEP_FLOOR_EXPIRE -/

@[simp] theorem serve_begun (s : State) (p : Nat) : s.begun.serve p = s.serve p := rfl

/-- The records of the image say the same as long as the image and the block's place do. -/
theorem recU_congr {s t : State} (hi : t.image = s.image) (hf : t.face = s.face) (ty k0 k1 lo n : Nat) :
    t.recU ty k0 k1 lo n = s.recU ty k0 k1 lo n := by
  simp only [State.recU, State.recAt, State.selfCode, hi, hf]

/-- The state in which a command of SW_SERVE acts: it has begun, and the domain has been asked to run (01 R39). -/
def State.serving (s : State) : State := wakeUp swServe s.begun

@[simp] theorem recU_serving (s : State) (ty k0 k1 lo n : Nat) : s.serving.recU ty k0 k1 lo n = s.recU ty k0 k1 lo n :=
  recU_congr rfl rfl ty k0 k1 lo n

@[simp] theorem serve_serving (s : State) (p : Nat) : s.serving.serve p = s.serve p := rfl

@[simp] theorem stepBlocks_serving (s : State) (p : Nat) : s.serving.stepBlocks p = s.stepBlocks p :=
  recU_serving s tyServe p 0 50 1

theorem exec_stepComplete_over {s : State} {p : Nat} {results : List (BitVec 32)} (hl : s.live) (ho : s.stepOver p = true)
    (hr : results.length = (s.serve p).entries.length) (hm : (s.serve p).misses.contains 2 = false) :
    exec (.stepComplete p results) s = .next (finished (completeStep p results s.serving)) := by
  have hgo : (s.begun.stepOver p && results.length == (s.begun.serve p).entries.length &&
      !(s.begun.serve p).misses.contains 2) = true := by
    have ho' : s.begun.stepOver p = true := ho
    rw [serve_begun, ho', hr, hm, beq_self_eq_true]
    rfl
  simp only [exec_stepComplete, execStepComplete, sapwood_live s _ hl, hgo, if_true, finish_next]
  rfl

/-- Nothing that a completion, or a formation, looks up differs once the command has begun. -/
theorem fillFor_serving (p kind : Nat) (streams pages : List Nat) (s : State) :
    fillFor p kind streams pages s.serving = none ↔ fillFor p kind streams pages s = none :=
  fillFor_none_congr (s := s) (t := s.serving) rfl rfl kind streams pages

theorem stepComplete_waits {s : State} {p : Nat} {results : List (BitVec 32)} (hl : s.live) (ho : s.stepOver p = true)
    (hr : results.length = (s.serve p).entries.length) (hm : (s.serve p).misses.contains 2 = false)
    (hfill : fillFor p 2 ((s.serve p).entries.map (·.stream)) (s.pagesOfAll p ((s.serve p).entries.map (·.stream))) s ≠ none) :
    ∃ t, exec (.stepComplete p results) s = .next (finished t) ∧ (t.serve p).misses.contains 2 = true ∧
      (t.serve p).results = results ∧ (t.serve p).entries = (s.serve p).entries ∧ (t.serve p).running = true ∧
      t.dets = s.dets := by
  obtain ⟨u, hu⟩ := Option.ne_none_iff_exists'.mp (mt (fillFor_serving _ _ _ _ s).mp hfill)
  have hserve : u.serve p = (s.serving.serve p).awaiting 2 := fillFor_some_serve hu
  have hdets : u.dets = s.serving.dets := (fillFor_some hu).dets
  refine ⟨_, exec_stepComplete_over hl ho hr hm, ?_⟩
  rw [completeStep_fills hu, serve_modServe_same, hserve]
  exact ⟨Serve.awaiting_misses 2 _, rfl, rfl, (Bool.and_eq_true_iff.mp ho).1, hdets⟩

theorem stepComplete_ends {s : State} {p : Nat} {results : List (BitVec 32)} (hl : s.live) (ho : s.stepOver p = true)
    (hr : results.length = (s.serve p).entries.length) (hm : (s.serve p).misses.contains 2 = false)
    (hfill : fillFor p 2 ((s.serve p).entries.map (·.stream)) (s.pagesOfAll p ((s.serve p).entries.map (·.stream))) s = none) :
    ∃ t, exec (.stepComplete p results) s = .next (finished t) ∧ (t.serve p).running = false ∧
      (t.serve p).entries = [] ∧ (t.serve p).sections = [] ∧ (t.serve p).next = (s.serve p).next ∧
      (t.serve p).stepCount = ((s.serve p).stepCount + 1) % 2 ^ 64 ∧
      (t.serve p).modelClock = ((s.serve p).modelClock + (s.serve p).dModel) % 2 ^ 32 ∧
      (∃ d : StepDone, d.step = (s.serve p).step ∧ d.block = (s.serve p).step % s.stepBlocks p ∧
        (t.serve p).done = (s.serve p).done ++ [d]) ∧
      (s.detOf p = true → (t.det p).asked = true) ∧ (t.det p).boundary = (s.det p).boundary := by
  refine ⟨_, exec_stepComplete_over hl ho hr hm, ?_⟩
  obtain ⟨num, den, d, hstep, hblock, hloop, hdets⟩ :=
    completeStep_ends (results := results) ((fillFor_serving _ _ _ _ s).mpr hfill)
  rw [serve_serving] at hstep hblock hloop
  rw [stepBlocks_serving] at hblock
  have hdet : (completeStep p results s.serving).det p = (askedAfter (s.detOf p) p s).det p :=
    congrArg (fun v : Tbl Det => Tbl.at v p {}) (hdets.trans (askedAfter_dets rfl))
  refine ⟨(congrArg Serve.running hloop :), (congrArg Serve.entries hloop :), (congrArg Serve.sections hloop :),
    (congrArg Serve.next hloop :), (congrArg Serve.stepCount hloop :), (congrArg Serve.modelClock hloop :),
    ⟨d, hstep, hblock, (congrArg Serve.done hloop :)⟩, ?_⟩
  rw [hdet]
  unfold askedAfter
  split
  case isTrue => simp
  case isFalse h => exact ⟨fun h' => absurd h' h, rfl⟩

theorem stepFloorExpire_expires {s : State} {p : Nat} (hl : s.live) (hf : (s.serve p).floorDone = false)
    (ht : (s.serve p).formedAt + 40000 ≤ s.power.heart) :
    exec (.stepFloorExpire p) s = .next (finished (modServe p (fun v => { v with floorDone := true }) s.serving)) := by
  have hwait : ((s.begun.serve p).floorDone || decide (s.begun.power.heart < (s.begun.serve p).formedAt + 40000)) = false := by
    rw [serve_begun, begun_power, hf, decide_eq_false (Nat.not_lt.mpr ht)]
    rfl
  have hp : s.begun.power.stopped = false := hl.2
  simp only [exec_stepFloorExpire, execStepFloorExpire, functional_live s _ hl, hwait, Bool.false_eq_true, if_false,
    timerDue_runs swServe s.begun _ hp, finish_next]
  rfl

/-! ### DIGEST_DONE (04 R195, R204, R205) -/

theorem pumpHostq_serves (p : Nat) (s : State) : (pumpHostq p s).serves = s.serves := by
  unfold pumpHostq
  dsimp only
  split
  · split
    · exact (bedOnly_issueWrite _ _ _ _ _ _ _).serves
    · rfl
  · rfl

theorem putCompletion_serves (p body : Nat) (s : State) : (putCompletion p body s).serves = s.serves := by
  unfold putCompletion
  split
  · rfl
  · exact pumpHostq_serves p _

/-- Only the bed takes part in writing the digests of a step, and a released stream's is not among them (log entry 99). -/
theorem digestsDone_eq {p : Nat} {d : StepDone} {rest : List StepDone} {s : State} (h : (s.serve p).done = d :: rest) :
    ∃ u, BedOnly (modServe p (fun v => { v with done := rest }) s) u ∧
      digestsDone p s =
        (if !(putCompletion p d.record u).hasHostq p && ((putCompletion p d.record u).serve p).autoRelease then
          freeBlock p d.step (putCompletion p d.record u) else putCompletion p d.record u) := by
  unfold digestsDone
  rw [h]
  refine ⟨_, ?_, rfl⟩
  apply bedOnly_foldl
  intro s g
  dsimp only
  split
  · exact (bedOnly_issueWrite _ _ _ _ _ _ _).trans (bedOnly_issueWrite _ _ _ _ _ _ _)
  · exact bedOnly_issueWrite _ _ _ _ _ _ _

theorem hasHostq_congr {s t : State} (hi : t.image = s.image) (hf : t.face = s.face) (p : Nat) : t.hasHostq p = s.hasHostq p := by
  simp only [State.hasHostq, State.isHome, State.partConfigured, State.homeCode, State.recU, State.recAt, State.selfCode, hi, hf]

theorem exec_digestDone_ready {s : State} {p : Nat} {d : StepDone} {rest : List StepDone} (hl : s.live)
    (hd : (s.serve p).done = d :: rest) (hw : s.power.writeThrough = false ∨ s.writingBack p = false) :
    exec (.digestDone p) s = .next (finished (digestsDone p s.serving)) := by
  have hsome : (s.begun.serve p).done.isEmpty = false := by
    rw [serve_begun, hd]
    rfl
  have hfree : (s.begun.power.writeThrough && s.begun.writingBack p) = false := by
    rcases hw with hw | hw
    · rw [begun_power, hw]
      rfl
    · have hw' : s.begun.writingBack p = false := hw
      rw [hw', Bool.and_false]
  simp only [exec_digestDone, execDigestDone, sapwood_live s _ hl, hsome, hfree, Bool.false_eq_true, if_false, finish_next]
  rfl

/-- The digests of a step end: its record is on its way to the host, and without host queues its block is released at once. -/
theorem digestsDone_effect {p : Nat} {d : StepDone} {rest : List StepDone} {s : State} (h : (s.serve p).done = d :: rest) :
    let t := digestsDone p s
    (t.serve p).done = rest ∧ (t.serve p).streams = (s.serve p).streams ∧
      (s.hasHostq p = false → (s.serve p).autoRelease = true →
        (t.serve p).blocks = (s.serve p).blocks.filter (fun b => b.2 != d.step)) ∧
      (s.hasHostq p = true ∨ (s.serve p).autoRelease = false → (t.serve p).blocks = (s.serve p).blocks) ∧
      t.tasks = s.tasks ∧ t.image = s.image := by
  intro t
  obtain ⟨u, hu, ht⟩ := digestsDone_eq h
  have ht : t = _ := ht
  have hserve : (putCompletion p d.record u).serve p = { s.serve p with done := rest } := by
    have hserves : (putCompletion p d.record u).serves = (modServe p (fun v => { v with done := rest }) s).serves :=
      (putCompletion_serves p d.record u).trans hu.serves
    exact (congrArg (fun v : Tbl Serve => Tbl.at v p {}) hserves).trans (serve_modServe_same p _ s)
  have hlasting := (putCompletion_lasting p d.record u p).trans (hu.lasting p)
  have htasks : (putCompletion p d.record u).tasks = s.tasks := (tasks_of_lasting hlasting :)
  have himage : (putCompletion p d.record u).image = s.image := (image_of_lasting hlasting :)
  have hface : (putCompletion p d.record u).face = s.face := (face_of_lasting hlasting :)
  rw [hasHostq_congr himage hface] at ht
  rw [ht]
  split
  case isTrue hfree =>
    obtain ⟨hnone, hauto⟩ : s.hasHostq p = false ∧ (s.serve p).autoRelease = true := by simpa [hserve] using hfree
    have hfreed : ((freeBlock p d.step (putCompletion p d.record u)).serve p).blocks =
        (s.serve p).blocks.filter (fun b => b.2 != d.step) := by
      rw [freeBlock, serve_modServe_same, hserve]
    refine ⟨?_, ?_, fun _ _ => hfreed, fun h => ?_, htasks, himage⟩
    · rw [freeBlock, serve_modServe_same, hserve]
    · rw [freeBlock, serve_modServe_same, hserve]
    · simp [hnone, hauto] at h
  case isFalse hkeep =>
    refine ⟨?_, ?_, fun hnone hauto => absurd ?_ hkeep, fun _ => ?_, htasks, himage⟩
    · rw [hserve]
    · rw [hserve]
    · simp [hnone, hauto, hserve]
    · rw [hserve]

end Sys2Proof.Machine
end

section
/-!
The formation of a step (04 R178 step 6, R186 to R200): its costs, and what admission, allocation, the deadline monitor and the
creation of the launch tasks leave of the loop.
-/
namespace Sys2Proof.Machine

/-! ### Faults and new tasks leave the loops alone -/

/-- The serving states and the determinism states. -/
def State.plans (s : State) : Tbl Serve × Tbl Det := (s.serves, s.dets)

@[simp] theorem later_plans (j : Job) (s : State) : (later j s).plans = s.plans := rfl
@[simp] theorem wakeUp_plans (d : Nat) (s : State) : (wakeUp d s).plans = s.plans := rfl
@[simp] theorem modSlot_plans (i : Nat) (f : Slot → Slot) (s : State) : (modSlot i f s).plans = s.plans := rfl
@[simp] theorem setSlot_plans (i : Nat) (x : Slot) (s : State) : (setSlot i x s).plans = s.plans := rfl

theorem BedOnly.plans {s t : State} (h : BedOnly s t) : t.plans = s.plans := by
  rw [State.plans, h.serves, h.dets]
  rfl

@[simp] theorem beginPart_plans (p c fault : Nat) (s : State) : (beginPart p c fault s).plans = s.plans := by
  unfold beginPart beginPartWith
  split <;> rfl

@[simp] theorem beginPartAll_plans (p fault : Nat) (s : State) : (beginPartAll p fault s).plans = s.plans :=
  foldl_keeps State.plans _ (fun s c => beginPart_plans p c fault s) _ s

@[simp] theorem raise_plans (fault src p c scope detail : Nat) (s : State) :
    (raise fault src p c scope detail s).plans = s.plans := by
  unfold raise
  extract_lets cls sc only s₁
  have h₁ : s₁.plans = s.plans := rfl
  split
  · rw [later_plans, h₁]
  · split
    · exact h₁
    · split
      · rw [beginPart_plans, h₁]
      · split
        · rw [beginPartAll_plans, h₁]
        · exact h₁

theorem cacheRoom_plans {s t : State} (h : cacheRoom s = some t) : t.plans = s.plans := by
  unfold cacheRoom at h
  split at h
  · rw [← Option.some.inj h]
  · split at h
    · rw [← Option.some.inj h, modSlot_plans]
    · exact absurd h (by simp)

theorem cacheGrant_plans {s t : State} (h : cacheGrant s = some t) : t.plans = s.plans := by
  unfold cacheGrant at h
  split at h
  · exact absurd h (by simp)
  · exact cacheRoom_plans h

@[simp] theorem readPredicate_plans (i : Nat) (s : State) : (readPredicate i s).plans = s.plans := by
  unfold readPredicate
  dsimp only
  split
  · split
    · rfl
    · exact (bedOnly_issueReads _ _ _ _ _ _).plans
  · rfl

@[simp] theorem maybeReady_plans (i : Nat) (s : State) : (maybeReady i s).plans = s.plans := by
  unfold maybeReady
  dsimp only
  split <;> rfl

@[simp] theorem createTask_plans (i : Nat) (x : Slot) (d : Desc) (p c : Nat) (s : State) :
    (createTask i x d p c s).plans = s.plans := by
  unfold createTask
  extract_lets s₁ x₁ s₂ wants
  have h₂ : s₂.plans = s.plans := by
    unfold s₂
    split <;> rfl
  split
  · simp [raiseCtx, s₁]
  · split
    · split
      case h_1 s₃ hgrant =>
        have h₃ : s₃.plans = s.plans := (cacheGrant_plans hgrant).trans h₂
        split <;> simp [h₃]
      case h_2 =>
        split
        · rw [setSlot_plans, h₂]
        · exact h₂
    · rw [setSlot_plans, h₂]

theorem createSingle_plans {d : Desc} {role : Role} {launch : Option Nat} {s t : State} {i : Nat}
    (h : createSingle d role launch s = some (i, t)) : t.plans = s.plans := by
  unfold createSingle at h
  split at h
  case h_1 => exact absurd h (by simp)
  case h_2 j _ =>
    extract_lets d₁ tasks s₁ s₂ s₃ at h
    have h₂ : s₂.plans = s.plans := createTask_plans j _ d₁ _ _ s₁
    have h₃ : s₃.plans = s₂.plans := by
      unfold s₃
      split
      · exact (bedOnly_issueWrite _ _ _ _ _ _ _).plans
      · rfl
    rw [← (Prod.mk.inj (Option.some.inj h)).2, h₃, h₂]

/-! ### What formation fixes -/

/-- What the loop keeps of a step once it has been admitted, whatever becomes of its sections and its streams' deadlines. -/
structure Formed where
  step : Nat
  running : Bool
  next : Nat
  count : Nat
  totalC : Nat
  totalM : Nat
  dModel : Nat
  tForm : Nat
  blocks : Tbl Nat
  forming : Option Forming

def Serve.formed (v : Serve) : Formed :=
  { step := v.step, running := v.running, next := v.next, count := v.entries.length, totalC := v.totalC, totalM := v.totalM
    dModel := v.dModel, tForm := v.tForm, blocks := v.blocks, forming := v.forming }

/-- What a missed deadline leaves of the determinism state: with DET all of it (04 R200; 10 R421). -/
def Det.formed (d : Det) : Det := if d.det then d else { d with nondet := 0 }

/-- Both of them for a partition. -/
def State.formed (s : State) (p : Nat) : Formed × Det := ((s.serve p).formed, (s.det p).formed)

theorem formed_of_lasting {s t : State} {p : Nat} (h : t.lasting p = s.lasting p) : t.formed p = s.formed p := by
  have hserve : (t.serve p).formed = (s.serve p).formed := (congrArg Serve.formed (loop_of_lasting h) :)
  have hdet : t.det p = s.det p := congrArg (fun v : Tbl Det => Tbl.at v p {}) (dets_of_lasting h)
  rw [State.formed, hserve, hdet]
  rfl

theorem formed_of_plans {s t : State} (h : t.plans = s.plans) (p : Nat) : t.formed p = s.formed p :=
  congrArg (fun v : Tbl Serve × Tbl Det => ((Tbl.at v.1 p {} : Serve).formed, (Tbl.at v.2 p {} : Det).formed)) h

theorem modServe_formed (p : Nat) (f : Serve → Serve) (hf : ∀ v, (f v).formed = v.formed) (s : State) :
    (modServe p f s).formed p = s.formed p := by
  have hdet : (modServe p f s).det p = s.det p := rfl
  rw [State.formed, serve_modServe_same, hf, hdet]
  rfl

theorem foldl_formed {α : Type} (f : State → α → State) (p : Nat) (hf : ∀ s a, (f s a).formed p = s.formed p) (l : List α)
    (s : State) : (l.foldl f s).formed p = s.formed p := foldl_keeps (fun s => s.formed p) f hf l s

theorem allocPage_lasting {p i : Nat} {s t : State} (h : allocPage p i s = some t) (q : Nat) : t.lasting q = s.lasting q := by
  unfold allocPage at h
  split at h
  · exact absurd h (by simp)
  · rw [← Option.some.inj h, modPages_lasting, updStream_lasting, updPage_lasting]

theorem allocUpTo_formed (k p i e : Nat) (s : State) : (allocUpTo k p i e s).2.formed p = s.formed p := by
  induction k generalizing s with
  | zero => rfl
  | succ k ih =>
    unfold allocUpTo
    split
    · rfl
    · split
      case h_1 => exact formed_of_plans (raise_plans _ _ _ _ _ _ s) p
      case h_2 t halloc => rw [ih, formed_of_lasting (allocPage_lasting halloc p)]

theorem allocEntry_formed (p : Nat) (e : Entry) (s : State) : (allocEntry p e s).formed p = s.formed p := by
  unfold allocEntry
  extract_lets z last
  split
  · rfl
  · split
    case h_1 ok t halloc =>
      have ht : t.formed p = s.formed p := by rw [← allocUpTo_formed _ p e.stream last s, halloc]
      split
      · exact ht
      · rw [modServe_formed p _ (fun _ => by rfl), ht]

theorem modDet_nondet_formed (p : Nat) (f : Det → Nat) (s : State) (h : (s.det p).det = false) :
    (modDet p (fun d => { d with nondet := f d }) s).formed p = s.formed p := by
  have hserve : (modDet p (fun d => { d with nondet := f d }) s).serve p = s.serve p := rfl
  simp only [State.formed, hserve, det_modDet_same, Det.formed, h, Bool.false_eq_true, if_false]

theorem judgeDeadline_formed (p i dModel : Nat) (s : State) : (judgeDeadline p i dModel s).formed p = s.formed p := by
  unfold judgeDeadline
  extract_lets x hold' switch s₁
  have h₁ : s₁.formed p = s.formed p := by
    have hentries : s₁.formed p = (updStream p i _ s).formed p := modServe_formed p _ (fun v => by simp [Serve.formed]) _
    rw [hentries, formed_of_lasting (updStream_lasting p i _ s p)]
  split
  · rfl
  · split
    case isTrue hnondet =>
      have hdet : (s₁.det p).det = false := Bool.not_eq_eq_eq_not.mp (Bool.and_eq_true_iff.mp hnondet).2
      rw [modDet_nondet_formed p _ s₁ hdet, h₁]
    case isFalse => exact h₁

theorem launchSection_formed (p k i c : Nat) (s : State) : (launchSection p k i c s).formed p = s.formed p := by
  unfold launchSection
  extract_lets d
  split
  case h_1 => rfl
  case h_2 slot t hcreate =>
    rw [modServe_formed p _ (fun _ => by rfl), formed_of_plans (createSingle_plans hcreate)]

theorem writeBlock_lasting (p k n : Nat) (es : List Entry) (ctxs : List Nat) (s : State) (q : Nat) :
    (writeBlock p k n es ctxs s).lasting q = s.lasting q := by
  simp [writeBlock, foldl_lasting]

theorem formedUs_lasting (p : Nat) (a : Adm) (s : State) (q : Nat) : (formedUs p a s).2.lasting q = s.lasting q := by
  unfold formedUs
  split
  · exact takeFree_lasting 24 s q
  · rfl

theorem formedUs_eq {p : Nat} (a : Adm) {s : State} (hc : s.formBudget p ≠ 0) (hm : s.budgetM p ≠ 0) :
    (formedUs p a s).1 = s.modelUs p a := by
  have hgo : (s.formBudget p == 0 || s.budgetM p == 0) = false := by simp [hc, hm]
  simp only [formedUs, hgo, Bool.false_eq_true, if_false]

/-- The loop of a step that is formed: its number, its costs, its clock and its block (04 R186, R188, R195, R198). -/
def State.formedAs (s : State) (p : Nat) (a : Adm) (dModel clock : Nat) : Formed :=
  { step := (s.serve p).next, running := true, next := wrapAdd (s.serve p).next 1 32, count := (blockOrder a.entries).length
    totalC := a.c, totalM := a.m, dModel := dModel, tForm := clock
    blocks := Tbl.put (s.serve p).blocks ((s.serve p).next % s.stepBlocks p) (s.serve p).next, forming := none }

/-- Without DET the boundary of a step's number is counted when it is formed (10 R409). -/
def boundaryAt (n p : Nat) (s : State) : State := if s.detOf p then s else modDet p (fun d => { d with boundary := n }) s

@[simp] theorem Det.formed_det (d : Det) : d.formed.det = d.det := by
  unfold Det.formed
  split <;> rfl

@[simp] theorem Det.formed_boundary (d : Det) : d.formed.boundary = d.boundary := by
  unfold Det.formed
  split <;> rfl

theorem Det.formed_of_det {d : Det} (h : d.det = true) : d.formed = d := if_pos h

theorem Det.formed_setBoundary (d : Det) (n : Nat) : { d with boundary := n }.formed = { d.formed with boundary := n } := by
  simp only [Det.formed]
  split <;> rfl

theorem boundaryAt_formed (n : Nat) {p : Nat} {s t : State} (h : (t.det p).formed = (s.det p).formed) :
    ((boundaryAt n p t).det p).formed = ((boundaryAt n p s).det p).formed := by
  have hdet : t.detOf p = s.detOf p := by
    have hflag := congrArg Det.det h
    rwa [Det.formed_det, Det.formed_det] at hflag
  unfold boundaryAt
  rw [hdet]
  split
  · exact h
  · rw [det_modDet_same, det_modDet_same]
    calc { t.det p with boundary := n }.formed
      _ = { (t.det p).formed with boundary := n } := Det.formed_setBoundary _ n
      _ = { (s.det p).formed with boundary := n } := congrArg (fun d : Det => { d with boundary := n }) h
      _ = { s.det p with boundary := n }.formed := (Det.formed_setBoundary _ n).symm

theorem boundaryAt_serves (n p : Nat) (s : State) : (boundaryAt n p s).serves = s.serves := by
  unfold boundaryAt
  split <;> rfl

theorem formClock_forming {p : Nat} {f : Forming} {s : State} (h : (s.serve p).forming = some f) : s.formClock p = f.clock := by
  simp only [State.formClock, h]

/-- The step that has been admitted is formed. -/
theorem formAdmitted_formed {p : Nat} {f : Forming} {s : State} (hf : (s.serve p).forming = some f) (a : Adm) :
    (formAdmitted p a s).formed p =
      (s.formedAs p a (formedUs p a s).1 f.clock, ((boundaryAt (s.serve p).next p s).det p).formed) := by
  unfold formAdmitted
  extract_lets n k
  split
  case h_1 es ctxs _ dModel s₁ hmodel =>
  split
  case h_1 _ ns s₂ hns =>
  extract_lets clock s₃ s₄ s₅ s₆ s₇ s₈ s₉ s₁₀ s₁₁
  have h₁ : s₁.lasting p = s.lasting p := by rw [← formedUs_lasting p a s p, hmodel]
  have h₂ : s₂.lasting p = s₁.lasting p := (congrArg (fun e : Nat × State => e.2.lasting p) hns).symm
  have h₃ : s₃.lasting p = s.lasting p := (freshen_lasting p clock s₂ p).trans (h₂.trans h₁)
  have h₆ : s₆.formed p = s₅.formed p := by
    refine foldl_formed _ p (fun t e => ?_) es s₅
    rw [allocEntry_formed, formed_of_lasting (unqueue_lasting p _ _ p), formed_of_lasting (updStream_lasting p _ _ t p)]
  have h₇ : s₇.formed p = s₆.formed p := foldl_formed _ p (fun t e => judgeDeadline_formed p _ dModel t) es s₆
  have h₈ : s₈.formed p = s₇.formed p := modServe_formed p _ (fun v => by simp [Serve.formed]) s₇
  have h₉ : s₉.formed p = s₈.formed p := formed_of_lasting (writeBlock_lasting p k n _ ctxs s₈ p)
  have h₁₀ : s₁₀.formed p = s₉.formed p := foldl_formed _ p (fun t i => launchSection_formed p k i _ t) _ s₉
  have hfixed : s₁₀.formed p = ({ s.formedAs p a dModel f.clock with forming := some f }, (s.det p).formed) := by
    have hloop : (s₃.serve p).loop = (s.serve p).loop := loop_of_lasting h₃
    have hblocks : (s₃.serve p).blocks = (s.serve p).blocks := (congrArg Serve.blocks hloop :)
    have hforming : (s₃.serve p).forming = some f := (congrArg Serve.forming hloop :).trans hf
    have hclock : clock = f.clock := by
      have hforming₂ : (s₂.serve p).forming = some f :=
        (congrArg Serve.forming (loop_of_lasting (h₂.trans h₁)) :).trans hf
      exact formClock_forming hforming₂
    have hdets : s₃.dets = s.dets := dets_of_lasting h₃
    have hdet : s₅.det p = s.det p := congrArg (fun v : Tbl Det => Tbl.at v p {}) hdets
    have hserve : (s₅.serve p).formed = { s.formedAs p a dModel f.clock with forming := some f } := by
      have h₄ : (s₅.serve p).formed = (s₄.serve p).formed := rfl
      rw [h₄, serve_modServe_same]
      simp only [Serve.formed, hblocks, hforming, hclock]
      rfl
    rw [h₁₀, h₉, h₈, h₇, h₆, State.formed, hserve, hdet]
  have hboundary : (s₁₁.det p).formed = ((boundaryAt n p s).det p).formed := boundaryAt_formed n (congrArg Prod.snd hfixed)
  have hserves : s₁₁.serve p = s₁₀.serve p := congrArg (fun v : Tbl Serve => Tbl.at v p {}) (boundaryAt_serves n p s₁₀)
  rw [formed_of_lasting (later_lasting _ _ p), formed_of_lasting (trimStreams_lasting _ p)]
  refine Prod.ext ?_ hboundary
  calc _
    _ = { (s₁₀.serve p).formed with forming := none } := by
      rw [State.formed, serve_modServe_same, hserves]
      rfl
    _ = { { s.formedAs p a dModel f.clock with forming := some f } with forming := none } :=
      congrArg (fun v : Formed × Det => { v.1 with forming := none }) hfixed
    _ = s.formedAs p a (formedUs p a s).1 f.clock := by
      rw [hmodel]
      rfl

end Sys2Proof.Machine
end

section
/-!
The batch former (04 R178 step 6, R195, R196): when it waits, when it starts, and what a formation in progress does.
-/
namespace Sys2Proof.Machine

/-! ### Admission (04 R179 to R184) -/

/-- The states say the same of the image, of the partition's streams and queues, and of what a formation has read at its start. -/
structure SameCosts (p : Nat) (s t : State) : Prop where
  image : t.image = s.image
  face : t.face = s.face
  streams : (t.serve p).streams = (s.serve p).streams
  queues : (t.serve p).queues = (s.serve p).queues
  budget : t.formBudget p = s.formBudget p
  bank : t.formBank p = s.formBank p

namespace SameCosts
variable {p : Nat} {s t : State} (h : SameCosts p s t)
include h

theorem stream (i : Nat) : t.stream p i = s.stream p i := by simp only [State.stream, h.streams]

theorem svU (lo n : Nat) : t.svU p lo n = s.svU p lo n := recU_congr h.image h.face _ _ _ _ _

theorem queued : t.queued p = s.queued p := by simp only [State.queued, h.queues]

theorem coef (c k : Nat) : t.coef p c k = s.coef p c k := by
  simp only [State.coef, State.bankRec, State.bank, State.selfCode, h.bank, h.image, h.face]

theorem candCost (a : Adm) (c pos : Nat) (chunk : Option Nat) : t.candCost p a c pos chunk = s.candCost p a c pos chunk := by
  simp only [State.candCost, State.itemCost, h.coef]

theorem budgetM : t.budgetM p = s.budgetM p := h.svU 64 8

theorem fits (a : Adm) (k : Nat × Nat) : t.fits p a k = s.fits p a k := by
  rw [State.fits, State.fits, h.budget, h.budgetM]

theorem maxAdmit : t.maxAdmit p = s.maxAdmit p := h.svU 52 4

theorem periodUs : t.periodUs p = s.periodUs p := h.svU 48 2

theorem chunksMax : t.chunksMax p = s.chunksMax p := h.svU 51 1

theorem admitDecode (l : List Nat) (a : Adm) : admitDecode t p l a = admitDecode s p l a := by
  induction l generalizing a with
  | nil => rfl
  | cons i l ih => simp only [Machine.admitDecode, h.maxAdmit, h.stream, h.candCost, h.fits, ih]

theorem admitPrompt (l : List Nat) (a : Adm) : admitPrompt t p l a = admitPrompt s p l a := by
  induction l generalizing a with
  | nil => rfl
  | cons i l ih => simp only [Machine.admitPrompt, h.maxAdmit, h.chunksMax, h.stream, h.candCost, h.fits, ih]

theorem admission : t.admission p = s.admission p := by
  simp only [State.admission, h.queued, h.stream, h.admitDecode, h.admitPrompt]

theorem modelUs (a : Adm) : t.modelUs p a = s.modelUs p a := by
  rw [State.modelUs, State.modelUs, h.budget, h.budgetM, h.periodUs]

end SameCosts

/-! ### A formation in progress -/

/-- A formation is in progress in `u` that was, or has just started, in `s`: beside it only the flags of the waits differ, and what
the command changes at its beginning. -/
structure Forms (p : Nat) (f : Forming) (s u : State) : Prop where
  serve : ∃ fence release, u.serve p = { s.serve p with forming := some f, fenceWait := fence, releaseWait := release }
  frame : { u with serves := s.serves, power := s.power, outs := s.outs, clock := s.clock } = s
  budget : s.formBudget p = f.budget
  bank : s.formBank p = f.bank

namespace Forms
variable {p : Nat} {f : Forming} {s u : State} (h : Forms p f s u)
include h

theorem image : u.image = s.image := (congrArg State.image h.frame :)
theorem face : u.face = s.face := (congrArg State.face h.frame :)
theorem tasks : u.tasks = s.tasks := (congrArg State.tasks h.frame :)
theorem pages : u.pages = s.pages := (congrArg State.pages h.frame :)
theorem dets : u.dets = s.dets := (congrArg State.dets h.frame :)

theorem forming : (u.serve p).forming = some f := by
  obtain ⟨_, _, hserve⟩ := h.serve
  rw [hserve]

theorem sameCosts : SameCosts p s u := by
  obtain ⟨_, _, hserve⟩ := h.serve
  refine ⟨h.image, h.face, ?_, ?_, ?_, ?_⟩
  · rw [hserve]
  · rw [hserve]
  · simp only [State.formBudget, h.forming]
    exact h.budget.symm
  · simp only [State.formBank, h.forming]
    exact h.bank.symm

theorem slotsFree : u.slotsFree = s.slotsFree := (congrArg State.slotsFree h.frame :)

theorem pagesOfAll (streams : List Nat) : u.pagesOfAll p streams = s.pagesOfAll p streams := by
  have hpage : u.page p = s.page p := congrArg (fun v : Tbl Pages => Tbl.at v p {}) h.pages
  have hpages : u.pagesOf p = s.pagesOf p := funext fun i => by
    simp only [State.pagesOf, h.sameCosts.stream, hpage]
  rw [State.pagesOfAll, State.pagesOfAll, hpages]

theorem lacks_iff (kind : Nat) (streams pages : List Nat) :
    fillFor p kind streams pages u = none ↔ fillFor p kind streams pages s = none := by
  obtain ⟨_, _, hserve⟩ := h.serve
  exact fillFor_none_congr (by rw [hserve]) h.pages kind streams pages

end Forms

/-! ### What a formation does next (04 R178 step 6; 02 R58) -/

section
variable {p : Nat} {f : Forming} {s u : State} (h : Forms p f s u)
include h

/-- A formation that lacks something waits for it, and stays as it is. -/
theorem Forms.lacks {streams pages : List Nat} (hfill : fillFor p 1 streams pages s ≠ none) :
    ∃ v, fillFor p 1 streams pages u = some v ∧ (v.serve p).misses.contains 1 = true ∧
      (v.serve p).running = (s.serve p).running ∧ (v.serve p).forming = some f ∧ v.tasks = s.tasks := by
  obtain ⟨v, hv⟩ := Option.ne_none_iff_exists'.mp (mt (h.lacks_iff 1 streams pages).mp hfill)
  obtain ⟨_, _, hserve⟩ := h.serve
  have htasks : v.tasks = u.tasks := (fillFor_some hv).tasks
  refine ⟨v, hv, ?_⟩
  rw [fillFor_some_serve hv, hserve]
  exact ⟨Serve.awaiting_misses 1 _, rfl, rfl, htasks.trans h.tasks⟩

theorem Forms.lacksNothing {streams pages : List Nat} (hfill : fillFor p 1 streams pages s = none) :
    fillFor p 1 streams pages u = none := (h.lacks_iff 1 streams pages).mpr hfill

theorem Forms.goesOn (hgo : s.detOf p = true ∨ (s.admission p).entries ≠ []) :
    ((s.admission p).entries.isEmpty && !u.detOf p) = false := by
  have hdet : u.detOf p = s.detOf p := by rw [State.detOf, h.dets, State.detOf]
  rw [hdet]
  rcases hgo with hgo | hgo
  · rw [hgo]
    exact Bool.and_false _
  · rw [List.isEmpty_eq_false_iff.mpr hgo]
    rfl

theorem formOn_lacksQueued (hfill : fillFor p 1 (s.queued p) [] s ≠ none) :
    ((formOn p u).serve p).misses.contains 1 = true ∧ ((formOn p u).serve p).running = (s.serve p).running ∧
      ((formOn p u).serve p).forming = some f ∧ (formOn p u).tasks = s.tasks := by
  obtain ⟨v, hv, heffect⟩ := h.lacks hfill
  have hon : formOn p u = v := by simp only [formOn, h.sameCosts.queued, hv]
  rw [hon]
  exact heffect

section
variable (hqueued : fillFor p 1 (s.queued p) [] s = none)
include hqueued

/-- Where no stream is eligible the formation is over (04 R178 step 6). -/
theorem formOn_nothing (hdet : s.detOf p = false) (hnone : (s.admission p).entries = []) :
    formOn p u = modServe p (fun v => { v with forming := none }) u := by
  have hstop : ((s.admission p).entries.isEmpty && !u.detOf p) = true := by
    rw [hnone, State.detOf, h.dets]
    exact (congrArg not hdet).trans rfl
  simp only [formOn, h.sameCosts.queued, h.lacksNothing hqueued, h.sameCosts.admission, hstop, if_true]

variable (hgo : s.detOf p = true ∨ (s.admission p).entries ≠ [])
include hgo

theorem formOn_lacksAdmitted
    (hfill : fillFor p 1 ((s.admission p).entries.map (·.stream))
      (s.pagesOfAll p ((s.admission p).entries.map (·.stream))) s ≠ none) :
    ((formOn p u).serve p).misses.contains 1 = true ∧ ((formOn p u).serve p).running = (s.serve p).running ∧
      ((formOn p u).serve p).forming = some f ∧ (formOn p u).tasks = s.tasks := by
  obtain ⟨v, hv, heffect⟩ := h.lacks hfill
  have hon : formOn p u = v := by
    simp only [formOn, h.sameCosts.queued, h.lacksNothing hqueued, h.sameCosts.admission, h.goesOn hgo, h.pagesOfAll, hv,
      Bool.false_eq_true, if_false]
  rw [hon]
  exact heffect

variable (hadmitted : fillFor p 1 ((s.admission p).entries.map (·.stream))
  (s.pagesOfAll p ((s.admission p).entries.map (·.stream))) s = none)
include hadmitted

/-- With the caches at hand the step is formed as soon as the slots for its launch tasks are there. -/
theorem formOn_slots : formOn p u =
    if s.slotsFree < (dedup ((s.admission p).entries.map (·.ctx))).length then u else formAdmitted p (s.admission p) u := by
  simp only [formOn, h.sameCosts.queued, h.lacksNothing hqueued, h.sameCosts.admission, h.goesOn hgo, h.pagesOfAll,
    h.lacksNothing hadmitted, h.slotsFree, Bool.false_eq_true, if_false]

end

end

/-- What a formation reads at its start: the step clock, the compute budget and the bank of the cost tables (04 R198; 13 R536;
11 R469). -/
def State.formStart (s : State) (p : Nat) : Forming :=
  { clock := s.stepClock p, budget := s.budgetC p, bank := s.activeBank (tableOf tyCost) }

/-! ### When a formation starts (04 R178 step 6, R195, R196) -/

theorem exec_stepForm_sleeps {s : State} {p : Nat} (hl : s.live) (hm : s.formMay p = false) :
    exec (.stepForm p) s = .next s.begun := by
  have hm' : s.begun.formMay p = false := hm
  simp only [exec_stepForm, execStepForm, sapwood_live s _ hl, hm', Bool.false_eq_true, if_false]

theorem exec_stepForm_may {s : State} {p : Nat} (hl : s.live) (hm : s.formMay p = true) :
    exec (.stepForm p) s = .next (finished (formStep p s.serving)) := by
  have hm' : s.begun.formMay p = true := hm
  simp only [exec_stepForm, execStepForm, sapwood_live s _ hl, hm', if_true, finish_next]
  rfl

section
variable {p : Nat} {s : State} (hforming : (s.serve p).forming = none)
include hforming

/-- Under DET a step waits for its fence, and for the records up to it (04 R196). -/
theorem formStep_fence (hdet : s.detOf p = true)
    (hwait : s.fenced p = false ∨ sub32 (s.serve p).fenceSeq (s.serve p).expected < 0x80000000) :
    formStep p s = modServe p (fun v => { v with fenceWait := true }) s := by
  have hstop : (s.detOf p && (!s.fenced p || decide (sub32 (s.serve p).fenceSeq (s.serve p).expected < 0x80000000))) = true := by
    rw [hdet]
    rcases hwait with hwait | hwait
    · rw [hwait]
      rfl
    · rw [decide_eq_true hwait, Bool.or_true]
      rfl
  simp only [formStep, hforming, Option.isSome_none, Bool.false_eq_true, if_false, hstop, if_true]

/-- Without DET the batch former sleeps while no stream is eligible. -/
theorem formStep_sleep (hdet : s.detOf p = false) (hnone : s.queued p = []) :
    formStep p s = modServe p (fun v => { v with fenceWait := false, releaseWait := false }) s := by
  simp only [formStep, hforming, Option.isSome_none, Bool.false_eq_true, if_false, hdet, Bool.false_and, hnone, List.isEmpty_nil,
    Bool.not_false, Bool.and_self, if_true]

variable (hfence : s.detOf p = true → s.fenced p = true ∧ ¬ sub32 (s.serve p).fenceSeq (s.serve p).expected < 0x80000000)
  (hqueued : s.detOf p = false → s.queued p ≠ [])
include hfence hqueued

/-- Past those waits only the step's block decides (04 R195). -/
theorem formStep_block : formStep p s =
    if (Tbl.find (s.serve p).blocks ((s.serve p).next % s.stepBlocks p)).isSome then
      modServe p (fun v => { v with releaseWait := true, fenceWait := false }) s
    else
      formOn p (modServe p (fun v => { v with fenceWait := false, releaseWait := false, forming := some (s.formStart p) }) s) := by
  have hpast : (s.detOf p && (!s.fenced p || decide (sub32 (s.serve p).fenceSeq (s.serve p).expected < 0x80000000))) = false := by
    cases hdet : s.detOf p
    case false => rfl
    case true =>
      obtain ⟨hfenced, hlate⟩ := hfence hdet
      rw [hfenced, decide_eq_false hlate]
      rfl
  have hsome : ((s.queued p).isEmpty && !s.detOf p) = false := by
    cases hdet : s.detOf p
    case false => rw [List.isEmpty_eq_false_iff.mpr (hqueued hdet), Bool.false_and]
    case true => exact Bool.and_false _
  simp only [formStep, hforming, Option.isSome_none, Bool.false_eq_true, if_false, hpast, hsome]
  rfl

end

/-! ### STEP_FORM -/

theorem woken_measures (d : Nat) (w : Power) :
    (w.woken d).heart = w.heart ∧ (w.woken d).cap = w.cap ∧ (w.woken d).capRatio = w.capRatio ∧ (w.woken d).ratio = w.ratio := by
  unfold Power.woken
  dsimp only
  split
  · exact ⟨rfl, rfl, rfl, rfl⟩
  · split <;> exact ⟨rfl, rfl, rfl, rfl⟩

/-- A formation reads the same at its start as before the command. -/
theorem formStart_serving (s : State) (p : Nat) : s.serving.formStart p = s.formStart p := by
  obtain ⟨hheart, hcap, hcapRatio, hratio⟩ := woken_measures swServe s.power
  have hpower : s.serving.power = s.power.woken swServe := rfl
  have hclock : s.serving.stepClock p = s.stepClock p := by
    have hdet : s.serving.detOf p = s.detOf p := rfl
    simp only [State.stepClock, State.us, hdet, serve_serving, hpower, hheart]
  have hbudget : s.serving.budgetC p = s.budgetC p := by
    simp only [State.budgetC, State.capCr, State.svU, recU_serving, hpower, hcap, hcapRatio, hratio]
  have hbank : s.serving.activeBank (tableOf tyCost) = s.activeBank (tableOf tyCost) := rfl
  rw [State.formStart, hclock, hbudget, hbank, State.formStart]

section
variable {s : State} {p : Nat} (hl : s.live) (hm : s.formMay p = true)
include hl hm

/-- A wait is noted, and nothing else changes. -/
theorem stepForm_notes (g : Serve → Serve) (hg : formStep p s.serving = modServe p g s.serving) :
    ∃ t, exec (.stepForm p) s = .next (finished t) ∧ t.serve p = g (s.serve p) ∧ (∀ q, q ≠ p → t.serve q = s.serve q) ∧
      t.tasks = s.tasks ∧ t.pages = s.pages := by
  refine ⟨_, exec_stepForm_may hl hm, ?_⟩
  rw [hg]
  exact ⟨serve_modServe_same p g s.serving, fun q hq => serve_modServe_ne p q g s.serving hq, rfl, rfl⟩

end

/-- The formation that is in progress, or that starts. -/
def State.formingNow (s : State) (p : Nat) : Forming := (s.serve p).forming.getD (s.formStart p)

/-- A formation goes on. -/
theorem forms_on {s : State} {p : Nat} {f : Forming} (h : (s.serve p).forming = some f) : Forms p f s s.serving where
  serve := by
    refine ⟨(s.serve p).fenceWait, (s.serve p).releaseWait, ?_⟩
    rw [serve_serving, ← h]
  frame := rfl
  budget := by simp only [State.formBudget, h]
  bank := by simp only [State.formBank, h]

/-- A formation starts. -/
theorem forms_start {s : State} {p : Nat} (h : (s.serve p).forming = none) :
    Forms p (s.formStart p) s
      (modServe p (fun v => { v with fenceWait := false, releaseWait := false, forming := some (s.formStart p) }) s.serving) where
  serve := ⟨false, false, serve_modServe_same p _ s.serving⟩
  frame := rfl
  budget := by simp only [State.formBudget, h, State.formStart]
  bank := by simp only [State.formBank, h, State.formStart]

/-- The formation goes on, or starts: where one is in progress, or where nothing holds the step. -/
theorem formStep_forms {s : State} {p : Nat}
    (h : (s.serve p).forming.isSome = true ∨
      Tbl.find (s.serve p).blocks ((s.serve p).next % s.stepBlocks p) = none ∧
        (s.detOf p = true → s.fenced p = true ∧ 2 ^ 31 ≤ sub32 (s.serve p).fenceSeq (s.serve p).expected) ∧
        (s.detOf p = false → s.queued p ≠ [])) :
    ∃ u, formStep p s.serving = formOn p u ∧ Forms p (s.formingNow p) s u := by
  cases hforming : (s.serve p).forming
  case some f =>
    have hnow : s.formingNow p = f := by rw [State.formingNow, hforming, Option.getD_some]
    refine ⟨s.serving, ?_, hnow ▸ forms_on hforming⟩
    simp only [formStep, serve_serving, hforming, Option.isSome_some, if_true]
  case none =>
    obtain ⟨hblock, hfence, hqueued⟩ := h.resolve_left (by simp [hforming])
    have hnow : s.formingNow p = s.formStart p := by rw [State.formingNow, hforming, Option.getD_none]
    rw [hnow]
    refine ⟨_, ?_, forms_start hforming⟩
    have hfence' (hdet : s.serving.detOf p = true) : s.serving.fenced p = true ∧
        ¬ sub32 (s.serving.serve p).fenceSeq (s.serving.serve p).expected < 0x80000000 :=
      ⟨(hfence hdet).1, Nat.not_lt.mpr (hfence hdet).2⟩
    rw [formStep_block (s := s.serving) hforming hfence' hqueued, serve_serving, stepBlocks_serving, hblock, formStart_serving]
    rfl

/-- What the formation of the step leaves of the loop and of the determinism state. -/
theorem Forms.formed {p : Nat} {f : Forming} {s u : State} (h : Forms p f s u) (a : Adm) :
    (formAdmitted p a u).formed p =
      (s.formedAs p a (formedUs p a u).1 f.clock, ((boundaryAt (s.serve p).next p s).det p).formed) := by
  obtain ⟨_, _, hserve⟩ := h.serve
  have hdet : (u.det p).formed = (s.det p).formed := congrArg (fun v : Tbl Det => (Tbl.at v p {} : Det).formed) h.dets
  have hblocks : u.stepBlocks p = s.stepBlocks p := h.sameCosts.svU 50 1
  rw [formAdmitted_formed h.forming, boundaryAt_formed _ hdet]
  simp only [State.formedAs, hserve, hblocks]

/-- Without DET a formed step counts its boundary; with DET nothing of the determinism state changes. -/
theorem det_of_boundaryAt {p n : Nat} {s t : State} (h : (t.det p).formed = ((boundaryAt n p s).det p).formed) :
    (s.detOf p = false → (t.det p).boundary = n) ∧ (s.detOf p = true → t.det p = s.det p) := by
  constructor <;> intro hdet
  · have hboundary := congrArg Det.boundary h
    simpa [boundaryAt, hdet] using hboundary
  · have hsame : boundaryAt n p s = s := if_pos hdet
    rw [hsame, Det.formed_of_det (d := s.det p) hdet] at h
    have hflag : (t.det p).det = true := by
      rw [← Det.formed_det, h]
      exact hdet
    rwa [Det.formed_of_det hflag] at h

section
variable {s : State} {p : Nat} (hl : s.live) (hm : s.formMay p = true)
  (hforms : (s.serve p).forming.isSome = true ∨
    Tbl.find (s.serve p).blocks ((s.serve p).next % s.stepBlocks p) = none ∧
      (s.detOf p = true → s.fenced p = true ∧ 2 ^ 31 ≤ sub32 (s.serve p).fenceSeq (s.serve p).expected) ∧
      (s.detOf p = false → s.queued p ≠ []))
include hl hm hforms

/-- STEP_FORM ends where the formation that it continues, or starts, ends. -/
theorem exec_stepForm_forms :
    ∃ u, exec (.stepForm p) s = .next (finished (formOn p u)) ∧ Forms p (s.formingNow p) s u := by
  obtain ⟨u, hu, h⟩ := formStep_forms hforms
  exact ⟨u, hu ▸ exec_stepForm_may hl hm, h⟩

omit hl hforms in
/-- No step is running where one may be formed. -/
theorem running_of_formMay : (s.serve p).running = false := by
  have hm' := hm
  simp only [State.formMay, Bool.and_eq_true, Bool.not_eq_eq_eq_not, Bool.not_true] at hm'
  exact hm'.1.1.2

/-- What the caches lack for the queued streams holds the formation. -/
theorem stepForm_lacksQueued (hfill : fillFor p 1 (s.queued p) [] s ≠ none) :
    ∃ t, exec (.stepForm p) s = .next (finished t) ∧ (t.serve p).misses.contains 1 = true ∧ (t.serve p).running = false ∧
      (t.serve p).forming = some (s.formingNow p) ∧ t.tasks = s.tasks := by
  obtain ⟨u, hexec, h⟩ := exec_stepForm_forms hl hm hforms
  obtain ⟨hmisses, hrunning, heffect⟩ := formOn_lacksQueued h hfill
  exact ⟨_, hexec, hmisses, hrunning.trans (running_of_formMay hm), heffect⟩

section
variable (hqueued : fillFor p 1 (s.queued p) [] s = none)
include hqueued

/-- Without an eligible stream the formation is over, and no step is formed. -/
theorem stepForm_nothing (hdet : s.detOf p = false) (hnone : (s.admission p).entries = []) :
    ∃ t, exec (.stepForm p) s = .next (finished t) ∧ (t.serve p).forming = none ∧ (t.serve p).running = false ∧
      (t.serve p).next = (s.serve p).next ∧ t.tasks = s.tasks ∧ t.pages = s.pages := by
  obtain ⟨u, hexec, h⟩ := exec_stepForm_forms hl hm hforms
  obtain ⟨_, _, hserve⟩ := h.serve
  refine ⟨_, hexec, ?_⟩
  rw [formOn_nothing h hqueued hdet hnone, serve_modServe_same, hserve]
  exact ⟨rfl, running_of_formMay hm, rfl, h.tasks, h.pages⟩

variable (hgo : s.detOf p = true ∨ (s.admission p).entries ≠ [])
include hgo

/-- What the caches lack for the streams that are admitted holds the formation. -/
theorem stepForm_lacksAdmitted
    (hfill : fillFor p 1 ((s.admission p).entries.map (·.stream))
      (s.pagesOfAll p ((s.admission p).entries.map (·.stream))) s ≠ none) :
    ∃ t, exec (.stepForm p) s = .next (finished t) ∧ (t.serve p).misses.contains 1 = true ∧ (t.serve p).running = false ∧
      (t.serve p).forming = some (s.formingNow p) ∧ t.tasks = s.tasks := by
  obtain ⟨u, hexec, h⟩ := exec_stepForm_forms hl hm hforms
  obtain ⟨hmisses, hrunning, heffect⟩ := formOn_lacksAdmitted h hqueued hgo hfill
  exact ⟨_, hexec, hmisses, hrunning.trans (running_of_formMay hm), heffect⟩

variable (hadmitted : fillFor p 1 ((s.admission p).entries.map (·.stream))
  (s.pagesOfAll p ((s.admission p).entries.map (·.stream))) s = none)
include hadmitted

/-- Too few free slots for the launch tasks hold the formation (02 R58). -/
theorem stepForm_lacksSlots (hslots : s.slotsFree < (dedup ((s.admission p).entries.map (·.ctx))).length) :
    ∃ t, exec (.stepForm p) s = .next (finished t) ∧ (t.serve p).running = false ∧
      (t.serve p).forming = some (s.formingNow p) ∧ t.tasks = s.tasks ∧ t.pages = s.pages := by
  obtain ⟨u, hexec, h⟩ := exec_stepForm_forms hl hm hforms
  obtain ⟨_, _, hserve⟩ := h.serve
  refine ⟨_, hexec, ?_⟩
  rw [formOn_slots h hqueued hgo hadmitted, if_pos hslots, hserve]
  exact ⟨running_of_formMay hm, rfl, h.tasks, h.pages⟩

/-- The step is formed. -/
theorem stepForm_formed (hslots : (dedup ((s.admission p).entries.map (·.ctx))).length ≤ s.slotsFree) :
    ∃ t, exec (.stepForm p) s = .next (finished t) ∧ (t.serve p).running = true ∧ (t.serve p).forming = none ∧
      (t.serve p).step = (s.serve p).next ∧ (t.serve p).next = ((s.serve p).next + 1) % 2 ^ 32 ∧
      (t.serve p).entries.length = (blockOrder (s.admission p).entries).length ∧
      (t.serve p).totalC = (s.admission p).c ∧ (t.serve p).totalM = (s.admission p).m ∧
      (t.serve p).tForm = (s.formingNow p).clock ∧
      (s.detOf p = false → (t.det p).boundary = (s.serve p).next) ∧ (s.detOf p = true → t.det p = s.det p) ∧
      (s.formBudget p ≠ 0 → s.budgetM p ≠ 0 → (t.serve p).dModel = s.modelUs p (s.admission p)) ∧
      Tbl.find (t.serve p).blocks ((s.serve p).next % s.stepBlocks p) = some (s.serve p).next := by
  obtain ⟨u, hexec, h⟩ := exec_stepForm_forms hl hm hforms
  rw [formOn_slots h hqueued hgo hadmitted, if_neg (Nat.not_lt.mpr hslots)] at hexec
  have hformed := h.formed (s.admission p)
  generalize formAdmitted p (s.admission p) u = t at hexec hformed
  obtain ⟨hloop, hdet⟩ := Prod.mk.inj hformed
  obtain ⟨hboundary, hsame⟩ := det_of_boundaryAt hdet
  refine ⟨_, hexec, (congrArg Formed.running hloop :), (congrArg Formed.forming hloop :), (congrArg Formed.step hloop :),
    (congrArg Formed.next hloop :), (congrArg Formed.count hloop :), (congrArg Formed.totalC hloop :),
    (congrArg Formed.totalM hloop :), (congrArg Formed.tForm hloop :), hboundary, hsame, fun hc hmem => ?_, ?_⟩
  · have hcosts := h.sameCosts
    calc _
      _ = (formedUs p (s.admission p) u).1 := (congrArg Formed.dModel hloop :)
      _ = u.modelUs p (s.admission p) := formedUs_eq _ (hcosts.budget ▸ hc) (hcosts.budgetM ▸ hmem)
      _ = s.modelUs p (s.admission p) := hcosts.modelUs _
  · have hblocks : (t.serve p).blocks = Tbl.put (s.serve p).blocks ((s.serve p).next % s.stepBlocks p) (s.serve p).next :=
      (congrArg Formed.blocks hloop :)
    rw [hblocks]
    exact Tbl.find_put_same _ _ _

end

end

/-! ### The batch former holds a step -/

section
variable {s : State} {p : Nat} (hl : s.live) (hm : s.formMay p = true) (hforming : (s.serve p).forming = none)
include hl hm hforming

theorem stepForm_fence (hdet : s.detOf p = true)
    (hwait : s.fenced p = false ∨ sub32 (s.serve p).fenceSeq (s.serve p).expected < 2 ^ 31) :
    ∃ t, exec (.stepForm p) s = .next (finished t) ∧ t.serve p = { s.serve p with fenceWait := true } ∧
      (∀ q, q ≠ p → t.serve q = s.serve q) ∧ t.tasks = s.tasks ∧ t.pages = s.pages :=
  stepForm_notes hl hm _ (formStep_fence (s := s.serving) hforming hdet hwait)

theorem stepForm_sleep (hdet : s.detOf p = false) (hnone : s.queued p = []) :
    ∃ t, exec (.stepForm p) s = .next (finished t) ∧ t.serve p = { s.serve p with fenceWait := false, releaseWait := false } ∧
      (∀ q, q ≠ p → t.serve q = s.serve q) ∧ t.tasks = s.tasks ∧ t.pages = s.pages :=
  stepForm_notes hl hm _ (formStep_sleep (s := s.serving) hforming hdet hnone)

theorem stepForm_block
    (hfence : s.detOf p = true → s.fenced p = true ∧ ¬ sub32 (s.serve p).fenceSeq (s.serve p).expected < 2 ^ 31)
    (hqueued : s.detOf p = false → s.queued p ≠ [])
    (hblock : (Tbl.find (s.serve p).blocks ((s.serve p).next % s.stepBlocks p)).isSome = true) :
    ∃ t, exec (.stepForm p) s = .next (finished t) ∧ t.serve p = { s.serve p with fenceWait := false, releaseWait := true } ∧
      (∀ q, q ≠ p → t.serve q = s.serve q) ∧ t.tasks = s.tasks ∧ t.pages = s.pages := by
  refine stepForm_notes hl hm (fun v => { v with releaseWait := true, fenceWait := false }) ?_
  rw [formStep_block (s := s.serving) hforming hfence hqueued, serve_serving, stepBlocks_serving, if_pos hblock]

end

/-! ### The obligation -/

/-- The 400 µs floor is past: only that is noted. -/
theorem stepFloorExpire_floorDone {s : State} {p : Nat} (hl : s.live) (hf : (s.serve p).floorDone = false)
    (ht : (s.serve p).formedAt + 40000 ≤ s.power.heart) :
    ∃ t, exec (.stepFloorExpire p) s = .next (finished t) ∧ t.serve p = { s.serve p with floorDone := true } ∧
      (∀ q, q ≠ p → t.serve q = s.serve q) ∧ t.outs = [] ∧
      { t with serves := s.serves, power := s.power, outs := s.outs, clock := s.clock } = s :=
  ⟨_, stepFloorExpire_expires hl hf ht, serve_modServe_same p _ s.serving,
    fun q hq => serve_modServe_ne p q _ s.serving hq, rfl, rfl⟩

/-- Settles O43: each clause is a lemma about its command, where the caches, the fence, the blocks or the slots decide. -/
theorem stepsAreFormedAndEnd : Obligations.StepsAreFormedAndEnd := by
  unfold Obligations.StepsAreFormedAndEnd
  refine ⟨fun s p hl => ⟨fun results hover hlength hmisses => ?_, stepFloorExpire_floorDone hl, fun d rest hdone hfree => ?_⟩,
    fun s p hl => ⟨exec_stepForm_sleeps hl, fun hmay hforming => ?_, fun hmay hforms => ?_⟩⟩
  · exact ⟨stepComplete_ends hl hover hlength hmisses, stepComplete_waits hl hover hlength hmisses⟩
  · exact ⟨_, exec_digestDone_ready hl hdone hfree, digestsDone_effect (s := s.serving) hdone⟩
  · exact ⟨stepForm_fence hl hmay hforming, stepForm_sleep hl hmay hforming, stepForm_block hl hmay hforming⟩
  · refine ⟨stepForm_lacksQueued hl hmay hforms, stepForm_nothing hl hmay hforms, fun hqueued hgo => ?_⟩
    exact ⟨stepForm_lacksAdmitted hl hmay hforms hqueued hgo, fun hadmitted =>
      ⟨stepForm_lacksSlots hl hmay hforms hqueued hgo hadmitted, stepForm_formed hl hmay hforms hqueued hgo hadmitted⟩⟩

end Sys2Proof.Machine
end

section
/-!
What the final status of a page's move leaves (05 R221, R233, R234, R236, R241): the page's entry, the counts of the partition,
the fault of a move that has failed, and the units that it does not reach.
-/
namespace Sys2Proof.Machine

/-! ### A fault against a context (13 R547, R550) -/

/-- The state without the contexts and the work left to do, which are all that a parting begins with. -/
def State.besideParting (s : State) : State := { s with ctxs := {}, work := [] }

theorem beginPart_besideParting (p c fault : Nat) (s : State) :
    (beginPart p c fault s).besideParting = s.besideParting := by
  unfold beginPart beginPartWith
  split <;> rfl

theorem beginPartAll_besideParting (p fault : Nat) (s : State) :
    (beginPartAll p fault s).besideParting = s.besideParting :=
  foldl_keeps State.besideParting _ (fun s c => beginPart_besideParting p c fault s) _ s

/-- A fault is entered, whatever its class parts or halts (13 R547). -/
theorem raise_besideParting (fault src p c scope detail : Nat) (s : State) :
    (raise fault src p c scope detail s).besideParting =
      (enter fault src p c (if faultClass fault == 3 && scope == 1 then 2 else scope) detail false s).besideParting := by
  unfold raise
  extract_lets cls sc only s₁
  split
  · rfl
  · split
    · rfl
    · split
      · exact beginPart_besideParting p c fault s₁
      · split
        · exact beginPartAll_besideParting p fault s₁
        · rfl

@[simp] theorem raise_pages (fault src p c scope detail : Nat) (s : State) :
    (raise fault src p c scope detail s).pages = s.pages :=
  (congrArg State.pages (raise_besideParting fault src p c scope detail s) :)

/-- One entry is appended to those of this hc, in the fault's name (13 R550). -/
theorem raise_faults (fault src p c scope detail : Nat) (s : State) :
    ∃ e : FaultEntry, e.value = fault ∧ e.partition = p ∧ e.context = c ∧ e.detail = detail % 2 ^ 32 ∧
      (raise fault src p c scope detail s).faults.unnumbered = s.faults.unnumbered ++ [e] :=
  ⟨_, rfl, rfl, rfl, rfl,
    congrArg (fun u : State => u.faults.unnumbered) (raise_besideParting fault src p c scope detail s)⟩

/-! ### The state beside the page ledger -/

/-- The state without the pages, the fault ledger, the contexts and the work left to do. -/
def State.besidePages (s : State) : State := { s.besideParting with pages := [], faults := {} }

@[simp] theorem later_besidePages (j : Job) (s : State) : (later j s).besidePages = s.besidePages := rfl
@[simp] theorem modPages_besidePages (p : Nat) (f : Pages → Pages) (s : State) :
    (modPages p f s).besidePages = s.besidePages := rfl
@[simp] theorem updPage_besidePages (p k : Nat) (f : Page → Page) (s : State) :
    (updPage p k f s).besidePages = s.besidePages := rfl
@[simp] theorem failPage_besidePages (p k : Nat) (s : State) : (failPage p k s).besidePages = s.besidePages := rfl

@[simp] theorem raise_besidePages (fault src p c scope detail : Nat) (s : State) :
    (raise fault src p c scope detail s).besidePages = s.besidePages :=
  congrArg (fun u : State => { u with pages := [], faults := {} }) (raise_besideParting fault src p c scope detail s)

/-! ### The entries, the moves and the counts of a partition -/

/-- What a partition's ledger shows of its pages: the entries, the moves in flight, and how many pages have come in, gone out
and been freed (05 R212, R231, R244). -/
structure Books where
  entry : Nat → Page
  moves : Tbl Move
  ins : Nat
  outs : Nat
  freed : Nat

def Pages.books (v : Pages) : Books := ⟨fun j => Tbl.at v.ledger j {}, v.moves, v.ins, v.outs, v.freed⟩

def State.books (s : State) (p : Nat) : Books := (s.page p).books

/-- The entries with `x` as entry `k`. -/
def putEntry (k : Nat) (x : Page) (es : Nat → Page) : Nat → Page := fun j => if j = k then x else es j

@[simp] theorem putEntry_same (k : Nat) (x : Page) (es : Nat → Page) : putEntry k x es k = x := if_pos rfl

theorem putEntry_ne {k j : Nat} (hj : j ≠ k) (x : Page) (es : Nat → Page) : putEntry k x es j = es j := if_neg hj

@[simp] theorem putEntry_putEntry (k : Nat) (x y : Page) (es : Nat → Page) :
    putEntry k x (putEntry k y es) = putEntry k x es := by
  funext j
  by_cases hj : j = k
  · rw [hj, putEntry_same, putEntry_same]
  · rw [putEntry_ne hj, putEntry_ne hj, putEntry_ne hj]

/-- Entry `k` is changed, and nothing else. -/
def Books.setEntry (k : Nat) (f : Page → Page) (b : Books) : Books :=
  { b with entry := putEntry k (f (b.entry k)) b.entry }

@[simp] theorem entry_books (s : State) (p k : Nat) : (s.books p).entry k = s.entry p k := rfl

@[simp] theorem books_later (j : Job) (s : State) (p : Nat) : (later j s).books p = s.books p := rfl

@[simp] theorem books_raise (fault src q c scope detail : Nat) (s : State) (p : Nat) :
    (raise fault src q c scope detail s).books p = s.books p := by
  simp only [State.books, State.page, raise_pages]

theorem books_modPages (p : Nat) (f : Pages → Pages) (s : State) : (modPages p f s).books p = (f (s.page p)).books := by
  simp only [State.books, page_modPages_same]

@[simp] theorem books_failPage (p k : Nat) (s : State) : (failPage p k s).books p = s.books p := books_modPages p _ s

@[simp] theorem books_updPage (p k : Nat) (f : Page → Page) (s : State) :
    (updPage p k f s).books p = (s.books p).setEntry k f := by
  have hentry : (fun j => Tbl.at (Tbl.put (s.page p).ledger k (f (s.entry p k))) j {}) =
      putEntry k (f (s.entry p k)) (s.books p).entry := by
    funext j
    by_cases hj : j = k
    · rw [hj, Tbl.at_put_same, putEntry_same]
    · rw [Tbl.at_put_ne _ k j _ _ hj, putEntry_ne hj]
      rfl
  rw [updPage, books_modPages, modEntry, page_modPages_same]
  exact congrArg (fun es => { s.books p with entry := es }) hentry

/-! ### The four outcomes of a move (05 R233, R234, R241) -/

/-- The move is no longer in flight. -/
def dropMove (p k : Nat) (s : State) : State := modPages p (fun v => { v with moves := Tbl.del v.moves k }) s

/-- The page is RESIDENT where the move was to take it (05 R233). -/
def landPage (p k : Nat) (m : Move) (s : State) : State :=
  updPage p k (fun e => { e with state := 1, tier := m.dstTier, location := m.dst }) s

/-- The page is RESIDENT where it was, and no placement waits for it (05 R234, R241). -/
def returnPage (p k : Nat) (m : Move) (s : State) : State :=
  updPage p k (fun e => { e with state := 1, tier := m.srcTier, location := m.src, wanted := false }) s

/-- A page more has come in (05 R244). -/
def countIn (p : Nat) (s : State) : State := modPages p (fun v => { v with ins := wrapAdd v.ins 1 64 }) s

/-- A page more has gone out, so that pages whose move has failed may be evicted again (05 R234, R244). -/
def countOut (p : Nat) (s : State) : State := modPages p (fun v => { v with outs := wrapAdd v.outs 1 64, spared := [] }) s

/-- A page more has been freed (05 R221, R236). -/
def countFreed (p : Nat) (s : State) : State := modPages p (fun v => { v with freed := wrapAdd v.freed 1 64 }) s

/-- A failed move poisons the placements that wait for it, or spares the page from eviction (05 R234). -/
def noteFailure (p k : Nat) (m : Move) (s : State) : State :=
  if m.why == 0 then failPage p k s
  else if m.why == 1 then modPages p (fun v => { v with spared := v.spared ++ [k] }) s
  else s

/-- A page without references is freed (05 R221, R236). -/
def freePage (p k refcount : Nat) (s : State) : State :=
  if refcount == 0 then countFreed p (updPage p k (fun _ => {}) s) else s

/-- What becomes of the page of move `m` when the move has ended well, or has not. -/
inductive MoveOutcome (p k : Nat) (m : Move) (s : State) : Bool → State → Prop
  | comesIn : m.why ≠ 1 → MoveOutcome p k m s true (countIn p (landPage p k m s))
  | goesOut : m.why = 1 → (s.entry p k).wanted = false → MoveOutcome p k m s true (countOut p (landPage p k m s))
  | isWanted : m.why = 1 → (s.entry p k).wanted = true → MoveOutcome p k m s true (returnPage p k m s)
  | fails : MoveOutcome p k m s false
      (noteFailure p k m (raise fltPageMove srcLedger p m.ctx 1 k (returnPage p k m s)))

theorem entry_dropMove (p k j : Nat) (s : State) : (dropMove p k s).entry p j = s.entry p j := by
  simp only [State.entry, dropMove, page_modPages_same]

/-- A move ends with one of its outcomes; then the page is freed if nothing holds it, and placements go on (05 R225). -/
theorem moveComplete_outcome (p k : Nat) (m : Move) (status : Nat) (poison : Bool) (s : State) :
    ∃ u, MoveOutcome p k m (dropMove p k s) (status == stOk && !poison) u ∧
      moveComplete p k m status poison s = later (.place p) (freePage p k (s.entry p k).refcount u) := by
  unfold moveComplete
  extract_lets ok e s₁ back sFault s₂ s₃
  refine ⟨s₂, ?_, rfl⟩
  have hwanted : (s₁.entry p k).wanted = e.wanted := congrArg Page.wanted (entry_dropMove p k k s)
  unfold s₂
  cases hok : (status == stOk && !poison) <;> simp only [ok, hok, if_true, if_false, Bool.false_eq_true]
  · exact .fails
  · split
    case isTrue hwhy =>
      split
      case isTrue h => exact .isWanted (by simpa using hwhy) (hwanted.trans h)
      case isFalse h => exact .goesOut (by simpa using hwhy) (hwanted.trans (by simpa using h))
    case isFalse hwhy => exact .comesIn (by simpa using hwhy)

/-! ### What each stage leaves -/

@[simp] theorem Tbl.find_del {α : Type} (t : Tbl α) (k : Nat) : Tbl.find (Tbl.del t k) k = none := by
  induction t with
  | nil => rfl
  | cons e t ih =>
    by_cases he : e.1 = k
    · simpa [Tbl.del, he] using ih
    · have hdel : Tbl.del (e :: t) k = e :: Tbl.del t k := by simp [Tbl.del, he]
      rw [hdel]
      simp [Tbl.find, he, ih]

theorem books_dropMove (p k : Nat) (s : State) :
    (dropMove p k s).books p = { s.books p with moves := Tbl.del (s.page p).moves k } := books_modPages p _ s

theorem books_countIn (p : Nat) (s : State) :
    (countIn p s).books p = { s.books p with ins := wrapAdd (s.books p).ins 1 64 } := books_modPages p _ s

theorem books_countOut (p : Nat) (s : State) :
    (countOut p s).books p = { s.books p with outs := wrapAdd (s.books p).outs 1 64 } := books_modPages p _ s

theorem books_countFreed (p : Nat) (s : State) :
    (countFreed p s).books p = { s.books p with freed := wrapAdd (s.books p).freed 1 64 } := books_modPages p _ s

theorem books_noteFailure (p k : Nat) (m : Move) (s : State) : (noteFailure p k m s).books p = s.books p := by
  unfold noteFailure
  split
  · exact books_failPage p k s
  · split
    · exact books_modPages p _ s
    · rfl

/-- Entry `k` is FREE again, and the page counted as freed, when it has no references (05 R221, R236). -/
def Books.released (k refcount : Nat) (b : Books) : Books :=
  { b with
    entry := if refcount = 0 then putEntry k {} b.entry else b.entry
    freed := if refcount = 0 then wrapAdd b.freed 1 64 else b.freed }

theorem books_freePage (p k n : Nat) (s : State) : (freePage p k n s).books p = (s.books p).released k n := by
  by_cases hn : n = 0
  · simp [freePage, hn, books_countFreed, Books.released, Books.setEntry]
  · simp [freePage, hn, Books.released]

theorem freePage_besidePages (p k n : Nat) (s : State) : (freePage p k n s).besidePages = s.besidePages := by
  unfold freePage
  split <;> rfl

theorem freePage_faults (p k n : Nat) (s : State) : (freePage p k n s).faults = s.faults := by
  unfold freePage
  split <;> rfl

theorem noteFailure_besidePages (p k : Nat) (m : Move) (s : State) : (noteFailure p k m s).besidePages = s.besidePages := by
  unfold noteFailure
  split
  · rfl
  · split <;> rfl

theorem noteFailure_faults (p k : Nat) (m : Move) (s : State) : (noteFailure p k m s).faults = s.faults := by
  unfold noteFailure
  split
  · rfl
  · split <;> rfl

/-! ### What a move leaves -/

/-- The page's entry once its move has ended: RESIDENT where it was to go, unless the move has failed or a placement needs the
page that was to go out (05 R233, R234, R241). -/
def Move.landed (m : Move) (ok : Bool) (e : Page) : Page :=
  if ok = true ∧ (m.why ≠ 1 ∨ e.wanted = false) then { e with state := 1, tier := m.dstTier, location := m.dst }
  else { e with state := 1, tier := m.srcTier, location := m.src, wanted := false }

/-- The books with the page of a move landed and counted. -/
def Books.landed (k : Nat) (m : Move) (ok : Bool) (b : Books) : Books :=
  { b.setEntry k (m.landed ok) with
    ins := if ok = true ∧ m.why ≠ 1 then wrapAdd b.ins 1 64 else b.ins
    outs := if ok = true ∧ m.why = 1 ∧ (b.entry k).wanted = false then wrapAdd b.outs 1 64 else b.outs }

section
variable {p k : Nat} {m : Move} {s u : State} {ok : Bool} (h : MoveOutcome p k m s ok u)
include h

theorem MoveOutcome.books : u.books p = (s.books p).landed k m ok := by
  cases h with
  | comesIn hwhy =>
    rw [books_countIn, landPage, books_updPage]
    simp [Books.landed, Move.landed, Books.setEntry, hwhy]
  | goesOut hwhy hwanted =>
    rw [books_countOut, landPage, books_updPage]
    simp [Books.landed, Move.landed, Books.setEntry, hwhy, hwanted]
  | isWanted hwhy hwanted =>
    rw [returnPage, books_updPage]
    simp [Books.landed, Move.landed, Books.setEntry, hwhy, hwanted]
  | fails =>
    rw [books_noteFailure, books_raise, returnPage, books_updPage]
    simp [Books.landed, Move.landed, Books.setEntry]

theorem MoveOutcome.besidePages : u.besidePages = s.besidePages := by
  cases h with
  | comesIn => rfl
  | goesOut => rfl
  | isWanted => rfl
  | fails =>
    rw [noteFailure_besidePages, raise_besidePages]
    rfl

/-- A move that ends well enters no fault. -/
theorem MoveOutcome.faults_ok (hok : ok = true) : u.faults = s.faults := by
  cases h with
  | comesIn => rfl
  | goesOut => rfl
  | isWanted => rfl
  | fails => cases hok

/-- A move that fails enters FLT_PAGE_MOVE against its context (05 R234). -/
theorem MoveOutcome.faults_fails (hok : ok = false) :
    ∃ e : FaultEntry, e.value = fltPageMove ∧ e.partition = p ∧ e.context = m.ctx ∧ e.detail = k % 2 ^ 32 ∧
      u.faults.unnumbered = s.faults.unnumbered ++ [e] := by
  cases h with
  | fails =>
    rw [noteFailure_faults]
    exact raise_faults fltPageMove srcLedger p m.ctx 1 k (returnPage p k m s)
  | _ => cases hok

end

/-- The page's entry, the moves and the counts once the move has ended. -/
theorem moveComplete_books (p k : Nat) (m : Move) (status : Nat) (poison : Bool) (s : State) :
    (moveComplete p k m status poison s).books p =
      ({ s.books p with moves := Tbl.del (s.page p).moves k }.landed k m (status == stOk && !poison)).released k
        (s.entry p k).refcount := by
  obtain ⟨u, hu, ht⟩ := moveComplete_outcome p k m status poison s
  rw [ht, books_later, books_freePage, hu.books, books_dropMove]

theorem moveComplete_besidePages (p k : Nat) (m : Move) (status : Nat) (poison : Bool) (s : State) :
    (moveComplete p k m status poison s).besidePages = s.besidePages := by
  obtain ⟨u, hu, ht⟩ := moveComplete_outcome p k m status poison s
  rw [ht, later_besidePages, freePage_besidePages, hu.besidePages, dropMove, modPages_besidePages]

/-- A move enters a fault when it fails, and only then. -/
theorem moveComplete_faults (p k : Nat) (m : Move) (status : Nat) (poison : Bool) (s : State) :
    ((status == stOk && !poison) = true → (moveComplete p k m status poison s).faults = s.faults) ∧
      ((status == stOk && !poison) = false →
        ∃ e : FaultEntry, e.value = fltPageMove ∧ e.partition = p ∧ e.context = m.ctx ∧ e.detail = k % 2 ^ 32 ∧
          (moveComplete p k m status poison s).faults.unnumbered = s.faults.unnumbered ++ [e]) := by
  obtain ⟨u, hu, ht⟩ := moveComplete_outcome p k m status poison s
  have hfaults : (moveComplete p k m status poison s).faults = u.faults := by
    rw [ht]
    exact freePage_faults p k _ u
  rw [hfaults]
  exact ⟨hu.faults_ok, hu.faults_fails⟩

theorem moveComplete_entry_same (p k : Nat) (m : Move) (status : Nat) (poison : Bool) (s : State) :
    (moveComplete p k m status poison s).entry p k =
      if (s.entry p k).refcount = 0 then {} else m.landed (status == stOk && !poison) (s.entry p k) := by
  rw [← entry_books, moveComplete_books]
  by_cases hn : (s.entry p k).refcount = 0 <;> simp [Books.released, Books.landed, Books.setEntry, hn]

theorem moveComplete_entry_ne (p k : Nat) (m : Move) (status : Nat) (poison : Bool) (s : State) {j : Nat} (hj : j ≠ k) :
    (moveComplete p k m status poison s).entry p j = s.entry p j := by
  rw [← entry_books, moveComplete_books]
  by_cases hn : (s.entry p k).refcount = 0 <;> simp [Books.released, Books.landed, Books.setEntry, hn, putEntry_ne hj]

/-! ### MOVE_COMPLETE -/

theorem exec_moveComplete_final {s : State} {p k status : Nat} {poison : Bool} {m : Move} (hl : s.live)
    (hm : Tbl.find (s.page p).moves k = some m) (hf : m.fin = some (status, poison)) :
    exec (.moveComplete p k) s = .next (finished (moveComplete p k m status poison s.serving)) := by
  have hm' : Tbl.find (s.begun.page p).moves k = some m := hm
  simp only [exec_moveComplete, execMoveComplete, sapwood_live s _ hl, hm', hf, finish_next]
  rfl

/-- Settles O44: the move ends with one of its four outcomes, and then the page is freed if nothing holds it. -/
theorem pageMoveEnds : Obligations.PageMoveEnds := by
  unfold Obligations.PageMoveEnds
  intro s p k status poison m hl hm hf ok e
  have hbooks := moveComplete_books p k m status poison s.serving
  have hbeside := moveComplete_besidePages p k m status poison s.serving
  have hentry : (moveComplete p k m status poison s.serving).entry p k = if e.refcount = 0 then {} else m.landed ok e :=
    moveComplete_entry_same p k m status poison s.serving
  have hfreed : ((moveComplete p k m status poison s.serving).page p).freed =
      if e.refcount = 0 then wrapAdd (s.page p).freed 1 64 else (s.page p).freed := congrArg Books.freed hbooks
  obtain ⟨hgood, hbad⟩ := moveComplete_faults p k m status poison s.serving
  refine ⟨_, exec_moveComplete_final hl hm hf, ?_, fun hn => ⟨hentry.trans (if_pos hn), hfreed.trans (if_pos hn)⟩,
    fun hn => ⟨hfreed.trans (if_neg hn), fun hok hstays => ?_, fun hok hwhy hwanted => ?_, fun hok => ?_⟩,
    fun hok hwhy => (congrArg Books.ins hbooks).trans (if_pos ⟨hok, hwhy⟩),
    fun hok hwhy hwanted => (congrArg Books.outs hbooks).trans (if_pos ⟨hok, hwhy, hwanted⟩), hgood, hbad,
    fun j hj => moveComplete_entry_ne p k m status poison s.serving hj,
    (congrArg State.serves hbeside :), (congrArg State.tasks hbeside :), (congrArg State.image hbeside :)⟩
  · exact (congrArg (fun b => Tbl.find b.moves k) hbooks).trans (Tbl.find_del _ k)
  · rw [hentry, if_neg hn, Move.landed, if_pos ⟨hok, hstays⟩]
  · rw [hentry, if_neg hn, Move.landed, if_neg (by simp [hwhy, hwanted])]
  · rw [hentry, if_neg hn, Move.landed, if_neg (by simp [hok])]

end Sys2Proof.Machine
end
